-- ==== Sys2Proof/Word.lean ====
section
/-! DEFINITION. The word types of the device: octets, the 32-bit register word (R9), the 64-bit table word and the 40-bit
address of the one address space (R520). -/

namespace Sys2Proof

/-- One octet. -/
abbrev Byte := BitVec 8

/-- A register word (R9). -/
abbrev Word := BitVec 32

/-- A table word (R439). -/
abbrev Word64 := BitVec 64

/-- An address (R520). -/
abbrev Addr := BitVec 40

end Sys2Proof
end

