-- ==== Sys2Proof/Syntax.lean ====
section
/-! DEFINITION. The commands of the block: one constructor of Instr per row of the table of operations and events, with
the row's operands, and the types of those operands. -/

namespace Sys2Proof

/-- A tree (R14). -/
abbrev Tree := Fin 32

/-- An island of the core die (R14). -/
abbrev Isl := Fin 28

/-- A slice of the datapath (R18). -/
abbrev Slice := Fin 4

/-- An uplink port. -/
abbrev UpPort := Fin 4

/-- A scheduling port q (R329): trees 0 to 31, uplinks 32 to 35, the host 36, policy firmware 37. -/
abbrev Port := Fin 38

/-- A requester (R521): 0 host software, c + 1 policy core c. -/
abbrev Requester := Fin 11

/-- What a transfer between two islands carries (R16, R495). -/
inductive Load where
  | frameNotAccepted (id : Nat)
  | frameAccepted (slot : Nat)
  | other
  deriving DecidableEq, Repr

/-- Who asks for an island reset (R36): a requester through MGT_ISLAND_RST, or MGT on an uncorrectable error. -/
inductive ResetSource where
  | host | policy | uncorrectable
  deriving DecidableEq, Repr

/-- A tree leaves Doze for a discovery cycle, and the retention banks that then fail their check (R103, R483). -/
structure DozeExit where
  tree : Tree
  badBanks : List (Fin 156) := []
  deriving DecidableEq, Repr

/-- The frame whose commit record is acknowledged, and the retention banks that fail their check where its acceptance takes a tree out of
Doze (R103, R307). -/
structure CommitAck where
  id : Nat
  badBanks : List (Fin 156) := []
  deriving DecidableEq, Repr

/-- What an optics transaction brought (R111): which of the two addresses a NACK at position 0 means, and the octets read. -/
structure OptEnd where
  readAddr : Bool := false
  octets : List (BitVec 8) := []
  deriving DecidableEq, Repr

/-- An optics bus on which a clock is stretched too long, and the steps of the transaction driven before (R111). -/
structure OptStretch where
  bus : Fin 8
  steps : Nat := 0
  deriving DecidableEq, Repr

/-- The response of a quiet window (R121): whether a candidate was confirmed, its integrity check, and its octets. -/
structure SnMessage where
  confirmed : Bool := true
  micOk : Bool := true
  octets : List (BitVec 8)
  deriving DecidableEq, Repr

/-- Entries that lookups meet while a sweeper pass runs (R284): those hit since the pass read them, and those read in the cycle of their
removal. -/
structure SweepRace where
  raced : List (BitVec 18) := []
  seen : List (BitVec 18) := []
  deriving DecidableEq, Repr

/-- One XGEM frame of a burst (R86, R87), in the allocation structure of an allocation, or of the default Alloc-ID (none). -/
structure XgemFrame where
  alloc : Option (BitVec 9)
  hecOk : Bool
  keyIdx : BitVec 2
  port : BitVec 16
  last : Bool
  payload : List Byte
  deriving DecidableEq, Repr

/-- What the receiver of a burst measures (R214, R215). -/
structure Meas where
  ctle : BitVec 4
  ffePre : BitVec 6
  ffePost : BitVec 6
  dfe1 : BitVec 6
  thresh : BitVec 8
  cdr : BitVec 7
  need : BitVec 11
  margin : BitVec 8
  deriving DecidableEq, Repr

/-- One delimiter candidate of an upstream burst (R95): the bits that differ, the offset from the expected position in
bits, and the burst behind it: the ONU-ID and the dying-gasp bit of its header, the buffer reports and the idle XGEM octets by
allocation index, its XGEM frames as received, and what the receiver measured. -/
structure Candidate where
  diffs : BitVec 8
  offset : Int
  hecOk : Bool
  onu : BitVec 10
  dyingGasp : Bool
  reports : List (Nat × Nat)
  idle : List (Nat × Nat)
  frames : List XgemFrame
  meas : Meas
  deriving DecidableEq, Repr

/-- The upstream PLOAM messages (R117, R130). -/
inductive UpPloam where
  | registration | keyReport | acknowledge | other
  deriving DecidableEq, Repr

/-- The downstream PLOAM messages that hardware sends, and a message of policy firmware (R117). -/
inductive PloamKind where
  | assignOnuId | rangingTime | deactivate | disableSerial | requestRegistration | burstProfile | calibrate | firmware
  deriving DecidableEq, Repr

/-- The registers whose write TREE_RES_WRITE judges (R152). -/
inductive TreeResReg where
  | res | calres | cfg
  deriving DecidableEq, Repr

/-- How a Mirror map differs from the Grant Engine's on one tree (R179). -/
structure MirrorDiff where
  tree : Tree
  late : Bool
  index : BitVec 16
  deriving DecidableEq, Repr

/-- A clock source (R456). -/
inductive ClkSrc where
  | refA | refB | xtal
  deriving DecidableEq, Repr

/-- A rail of the power die (R475). -/
inductive Rail where
  | vcore | vcoreAon | vsram | vphy | vhbm | vio
  deriving DecidableEq, Repr

/-- What the decoder finds on reading a word (R496). -/
inductive Ecc where
  | ok | correctable | uncorrectable
  deriving DecidableEq, Repr


/-- A command: one row of the table of operations and events. -/
inductive Instr where
  /-- REGISTER_WRITE (R9). -/
  | registerWrite (r : Requester) (a : BitVec 40) (d : BitVec 32)
  /-- READ_CLEAR (R9). -/
  | readClear (r : Requester) (a : BitVec 40)
  /-- PAIR_LO_READ (R522). -/
  | pairLoRead (r : Requester) (a : BitVec 40)
  /-- ISLAND_TRANSFER (R15). -/
  | islandTransfer (src dst : Isl) (load : Load) (parityBad : Bool)
  /-- PARITY_RETRY (R495). -/
  | parityRetry (src dst : Isl) (parityBad : Bool)
  /-- CROSSING_TIMEOUT (R17). -/
  | crossingTimeout (src dst : Isl)
  /-- ISLAND_RESET_REQUEST (R36). -/
  | islandResetRequest (by_ : ResetSource) (n : Isl)
  /-- ISLAND_WATCHDOG (R36). -/
  | islandWatchdog (n : Isl)
  /-- RESET_FENCE_END (R36). -/
  | resetFenceEnd (n : Isl)
  /-- RESET_FENCE_TIMEOUT (R36). -/
  | resetFenceTimeout (n : Isl)
  /-- RESET_ASSERT_END (R36). -/
  | resetAssertEnd (n : Isl)
  /-- RESET_RESTORE_END (R36). -/
  | resetRestoreEnd (n : Isl) (badBanks : List (Fin 156)) (badPcs : List (Fin 128))
  /-- RESET_STEP_TIMEOUT (R36). -/
  | resetStepTimeout (n : Isl)
  /-- RESET_REJOIN_END (R36). -/
  | resetRejoinEnd (n : Isl)
  /-- IDLE_TIMER_EXPIRY (R41). -/
  | idleTimerExpiry (n : Isl)
  /-- GATE_ACKNOWLEDGE (R42). -/
  | gateAcknowledge (n : Isl) (portBusy : Bool)
  /-- GATE_REQUEST_TIMEOUT (R42). -/
  | gateRequestTimeout (n : Isl)
  /-- ISLAND_UNGATE (R43). -/
  | islandUngate (n : Isl)
  /-- SIL_LOAD (R68). -/
  | silLoad
  /-- LOAD_PARSE_END (R547). -/
  | loadParseEnd
  /-- LOAD_VERIFY_END (R54). -/
  | loadVerifyEnd
  /-- LOAD_CHECK_END (R66). -/
  | loadCheckEnd
  /-- LOAD_APPLY_END (R69). -/
  | loadApplyEnd
  /-- LOAD_STEP_TIMEOUT (R68). -/
  | loadStepTimeout (swapped : Nat)
  /-- SIL_UNSTRUCTURE (R49). -/
  | silUnstructure
  /-- SIL_BURN_SVN (R72). -/
  | silBurnSvn
  /-- SIL_REVOKE (R72). -/
  | silRevoke (slots : BitVec 4)
  /-- STAGE_WRITE (R76). -/
  | stageWrite (off : BitVec 20) (octets : List (BitVec 8))
  /-- TREE_FRAME_TICK (R80). -/
  | treeFrameTick
  /-- SFC_LOAD_CMD (R82). -/
  | sfcLoadCmd (t : Tree)
  /-- CS_BUFFER_DRY (R89). -/
  | csBufferDry (t : Tree)
  /-- CS_FILL_DEADLINE (R89). -/
  | csFillDeadline (t : Tree)
  /-- UPSTREAM_BURST_DUE (R94). -/
  | upstreamBurstDue (t : Tree) (cands : List Candidate)
  /-- BURST_WINDOW_CLOSE (R95). -/
  | burstWindowClose (t : Tree)
  /-- REASSEMBLY_TIMEOUT (R88). -/
  | reassemblyTimeout (t : Tree) (onu : BitVec 8) (port : BitVec 16)
  /-- BRST_CFG_WRITE (R98). -/
  | brstCfgWrite (t : Tree) (d : BitVec 32)
  /-- TREE_LIGHT_REQUEST (R101). -/
  | treeLightRequest (t : Tree)
  /-- TREE_POWER_GRANT (R101). -/
  | treePowerGrant (t : Tree)
  /-- TREE_POWER_TIMEOUT (R101). -/
  | treePowerTimeout (t : Tree)
  /-- TREE_LASER_END (R101). -/
  | treeLaserEnd (t : Tree)
  /-- TREE_DARK_REQUEST (R102). -/
  | treeDarkRequest (t : Tree)
  /-- TREE_STOP_END (R102). -/
  | treeStopEnd (t : Tree)
  /-- TREE_DRAIN_END (R102). -/
  | treeDrainEnd (t : Tree)
  /-- DOZE_IDLE_EXPIRY (R100). -/
  | dozeIdleExpiry (t : Tree)
  /-- TREE_WAKE (R103). -/
  | treeWake (t : Tree) (badBanks : List (Fin 156))
  /-- DOZE_DISC_EXPIRY (R103). -/
  | dozeDiscExpiry (x : DozeExit)
  /-- KEY_SWITCH_CMD (R107). -/
  | keySwitchCmd (t : Tree) (d : BitVec 32)
  /-- OPT_TRANSACTION (R111). -/
  | optTransaction (b : Fin 8) (d : BitVec 32)
  /-- OPT_TRANSACTION_END (R111). -/
  | optTransactionEnd (b : Fin 8) (nackAt : Option (BitVec 5)) (read : OptEnd)
  /-- OPT_STRETCH_TIMEOUT (R111). -/
  | optStretchTimeout (x : OptStretch)
  /-- SN_ACQUISITION_CYCLE (R118). -/
  | snAcquisitionCycle (t : Tree)
  /-- SN_RESPONSE (R121). -/
  | snResponse (t : Tree) (serial : BitVec 64) (delayNs arrivalNs : BitVec 32) (hecFails : BitVec 8) (msg : SnMessage)
  /-- RANGING_PLACE_TIMEOUT (R126). -/
  | rangingPlaceTimeout (t : Tree) (onu : BitVec 8)
  /-- REGISTRATION_BURST (R127). -/
  | registrationBurst (t : Tree) (onu : BitVec 8) (delimBits : BitVec 25)
  /-- RANGE_WINDOW_TIMEOUT (R126). -/
  | rangeWindowTimeout (t : Tree) (onu : BitVec 8)
  /-- RANGING_TIME_ACK (R126). -/
  | rangingTimeAck (t : Tree) (onu : BitVec 8)
  /-- EQUALISE_TIMEOUT (R126). -/
  | equaliseTimeout (t : Tree) (onu : BitVec 8)
  /-- TERM_APPROVE (R126). -/
  | termApprove (t : Tree) (onu : BitVec 8)
  /-- APPROVE_TIMEOUT (R126). -/
  | approveTimeout (t : Tree) (onu : BitVec 8)
  /-- TERM_DEREGISTER (R134). -/
  | termDeregister (t : Tree) (onu : BitVec 8) (duplicate : Bool)
  /-- TERM_INSERVICE_RANGING (R132). -/
  | termInserviceRanging (t : Tree) (onu : BitVec 8)
  /-- TREE_REACTIVATE (R131). -/
  | treeReactivate (t : Tree)
  /-- HOLD_EXPIRY (R131). -/
  | holdExpiry (t : Tree) (onu : BitVec 8)
  /-- QUARANTINE_EXPIRY (R136). -/
  | quarantineExpiry (t : Tree) (onu : BitVec 8)
  /-- PLOAM_RECEIVED (R116). -/
  | ploamReceived (t : Tree) (onu : BitVec 8) (kind : UpPloam) (micOk : Bool) (body : List (BitVec 8))
  /-- TERMINAL_RECORD_WRITE (R144). -/
  | terminalRecordWrite (t : Tree) (onu : BitVec 8) (word : Fin 2) (d : BitVec 64)
  /-- TDD_CFG_WRITE (R122). -/
  | tddCfgWrite (t : Tree) (d : BitVec 32)
  /-- ALLOC_SHADOW_WRITE (R146). -/
  | allocShadowWrite (t : Tree) (i : Fin 512) (second : Bool) (d : BitVec 64)
  /-- ALLOC_COMMIT (R146). -/
  | allocCommit (t : Tree) (i : Fin 512) (d : BitVec 64)
  /-- TREE_RES_WRITE (R147). -/
  | treeResWrite (t : Tree) (reg : TreeResReg) (d : BitVec 32)
  /-- RUN_AHEAD_WRITE (R154). -/
  | runAheadWrite (d : BitVec 32)
  /-- MAP_BUILD_BEGIN (R155). -/
  | mapBuildBegin
  /-- MAP_BUILD_END (R155). -/
  | mapBuildEnd (us : BitVec 8) (diffs : List MirrorDiff)
  /-- MAP_CUTOFF (R155). -/
  | mapCutoff
  /-- MAP_SEAL (R164). -/
  | mapSeal (unacked : List Tree)
  /-- AGR_FRAME (R157). -/
  | agrFrame
  /-- AGR_WINDOW_END (R161). -/
  | agrWindowEnd (t : Tree) (reqId : BitVec 16)
  /-- GRANT_POLICY_DIGEST (R176). -/
  | grantPolicyDigest
  /-- BUILTIN_CHECK_END (R181). -/
  | builtinCheckEnd (geOk mirOk : Bool)
  /-- BUILTIN_CHECK_TIMEOUT (R180). -/
  | builtinCheckTimeout (geDone mirDone : Bool)
  /-- MIRROR_RETIRE_END (R180). -/
  | mirrorRetireEnd
  /-- MIRROR_RETIRE_TIMEOUT (R180). -/
  | mirrorRetireTimeout
  /-- MIRROR_SWAP_CMD (R180). -/
  | mirrorSwapCmd
  /-- MIRROR_FORCE_CHECK (R181). -/
  | mirrorForceCheck
  /-- PROT_TAKE_CMD (R193). -/
  | protTakeCmd
  /-- PROT_AUTO_TAKE (R193). -/
  | protAutoTake
  /-- PROT_ASSERT_END (R193). -/
  | protAssertEnd
  /-- PROT_CONFIRM_END (R193). -/
  | protConfirmEnd
  /-- SWITCHOVER_LASER_END (R198). -/
  | switchoverLaserEnd
  /-- PROT_CONFLICT (R194). -/
  | protConflict
  /-- PROT_RELEASE_CMD (R195). -/
  | protReleaseCmd
  /-- PROT_UPLINK_RELEASE (R195). -/
  | protUplinkRelease
  /-- PROT_OFF_DELAY_END (R195). -/
  | protOffDelayEnd
  /-- PROT_HOLD_IN_CHANGE (R192). -/
  | protHoldInChange (level : Bool)
  /-- PROT_CFG_WRITE (R201). -/
  | protCfgWrite (d : BitVec 32)
  /-- FRER_RESET_TIMER (R205). -/
  | frerResetTimer (strm : Fin 1024)
  /-- BURST_PROFILE_WRITE (R211). -/
  | burstProfileWrite (t : Tree) (p : Fin 4) (d : BitVec 32)
  /-- LANE_TEMP_SAMPLE (R219). -/
  | laneTempSample (t : Tree) (temp : BitVec 9)
  /-- TERM_TEMP_REPORT (R219). -/
  | termTempReport (d : BitVec 32)
  /-- CAL_RECALIBRATE (R233). -/
  | calRecalibrate (t : Tree) (onu : BitVec 8)
  /-- CAL_FORGET (R233). -/
  | calForget (t : Tree) (onu : BitVec 8)
  /-- BC_DEF_WRITE (R214). -/
  | bcDefWrite (t : Tree) (d : BitVec 32)
  /-- FRAME_STAGED (R299). -/
  | frameStaged
  /-- PRISM_PASS_END (R250). -/
  | prismPassEnd (ids : List Nat)
  /-- RECIRC_TOKEN_GRANT (R258). -/
  | recircTokenGrant (sl : Slice)
  /-- GEN_SWAP (R261). -/
  | genSwap
  /-- GEN_DRAIN_TIMEOUT (R263). -/
  | genDrainTimeout
  /-- PRISM_STAGE_WRITE (R256). -/
  | prismStageWrite (r : Requester) (a : BitVec 40) (d : BitVec 64)
  /-- PRISM_ENTRY_COMMIT (R256). -/
  | prismEntryCommit (r : Requester) (a : BitVec 40) (d : BitVec 64)
  /-- KPROF_WRITE (R248). -/
  | kprofWrite (k : Fin 8) (hi : BitVec 32)
  /-- FWD_INSERT (R279). -/
  | fwdInsert (r : Requester) (d : BitVec 32)
  /-- FWD_UPDATE (R279). -/
  | fwdUpdate (r : Requester) (d : BitVec 32)
  /-- FWD_DELETE (R279). -/
  | fwdDelete (r : Requester) (d : BitVec 32)
  /-- FWD_READ (R279). -/
  | fwdRead (r : Requester) (d : BitVec 32)
  /-- FWD_LOCK (R279). -/
  | fwdLock (r : Requester) (d : BitVec 32)
  /-- FWD_UNLOCK (R279). -/
  | fwdUnlock (r : Requester) (d : BitVec 32)
  /-- FWD_LOCK_TIMEOUT (R280). -/
  | fwdLockTimeout (idx : BitVec 18)
  /-- FWD_WINDOW_WRITE (R281). -/
  | fwdWindowWrite (r : Requester) (a : BitVec 40) (d : BitVec 64)
  /-- FWD_SWEEP_PERIOD (R282). -/
  | fwdSweepPeriod (x : SweepRace)
  /-- FWD_SWEEP_NOW (R282). -/
  | fwdSweepNow (x : SweepRace)
  /-- FWD_BANK_COPY_END (R286). -/
  | fwdBankCopyEnd
  /-- BUFFER_SPILL (R303). -/
  | bufferSpill (ids : List Nat)
  /-- JOURNAL_COMMIT_ACK (R307). -/
  | journalCommitAck (x : CommitAck)
  /-- DEPARTURE_COMPLETE (R309). -/
  | departureComplete (q : Port)
  /-- DELIVERY_MARK (R309). -/
  | deliveryMark (q : Port)
  /-- JNL_COPY_END (R312). -/
  | jnlCopyEnd (copyB : Bool)
  /-- JNL_CLOSE_END (R312). -/
  | jnlCloseEnd (copyB : Bool)
  /-- JNL_CLOSE_TIMEOUT (R312). -/
  | jnlCloseTimeout (copyB : Bool)
  /-- PC_DECLARED_FAILED (R295). -/
  | pcDeclaredFailed (p : Fin 128)
  /-- PC_REBUILD_END (R295). -/
  | pcRebuildEnd
  /-- PC_REBUILD_TIMEOUT (R295). -/
  | pcRebuildTimeout
  /-- CAPACITY_CUT (R297). -/
  | capacityCut
  /-- SCH_STAGE_WRITE (R327). -/
  | schStageWrite (r : Requester) (a : BitVec 40) (d : BitVec 64)
  /-- SCH_ENTRY_COMMIT (R327). -/
  | schEntryCommit (r : Requester) (a : BitVec 40) (d : BitVec 64)
  /-- SCH_PORT_WRITE (R327). -/
  | schPortWrite (q : Port) (burst : Bool) (d : BitVec 32)
  /-- PORT_SELECT (R330). -/
  | portSelect (q : Port)
  /-- REFILL_TICK (R333). -/
  | refillTick
  /-- GATE_LIST_GO (R341). -/
  | gateListGo (q : Port) (d : BitVec 32)
  /-- GATE_LIST_SWAP (R341). -/
  | gateListSwap (q : Port)
  /-- GATE_ENTRY_CHANGE (R339). -/
  | gateEntryChange (q : Port)
  /-- LAUNCH_TIME_DUE (R344). -/
  | launchTimeDue (slot : Nat)
  /-- LENS_SAMPLE (R348). -/
  | lensSample
  /-- LENS_SLOT_COMMIT (R347). -/
  | lensSlotCommit (w : Fin 1024) (d : BitVec 64)
  /-- FLOW_CIPHER_WRITE (R360). -/
  | flowCipherWrite (f : BitVec 16) (d : BitVec 64)
  /-- KV_INSTALL_SA_BLOB (R365). -/
  | kvInstallSaBlob (r : Requester) (d : BitVec 32)
  /-- KV_INSTALL_DERIVED (R362). -/
  | kvInstallDerived (r : Requester) (d : BitVec 32)
  /-- KV_DELETE_SA (R363). -/
  | kvDeleteSa (r : Requester) (d : BitVec 32)
  /-- KV_INSTALL_ROOT (R363). -/
  | kvInstallRoot (r : Requester) (d : BitVec 32)
  /-- KV_DELETE_ROOT (R363). -/
  | kvDeleteRoot (r : Requester) (d : BitVec 32)
  /-- KV_INSTALL_KEK (R363). -/
  | kvInstallKek (r : Requester) (d : BitVec 32)
  /-- KV_TREE_UNICAST_KEY (R371). -/
  | kvTreeUnicastKey (r : Requester) (d : BitVec 32)
  /-- KV_GEN_BROADCAST_KEY (R371). -/
  | kvGenBroadcastKey (r : Requester) (d : BitVec 32)
  /-- KV_EXPORT_BROADCAST_KEY (R371). -/
  | kvExportBroadcastKey (r : Requester) (d : BitVec 32)
  /-- KV_ZEROISE (R363). -/
  | kvZeroise (r : Requester) (d : BitVec 32)
  /-- KV_CMD_TIMEOUT (R363). -/
  | kvCmdTimeout
  /-- KV_COMMAND_END (R365). -/
  | kvCommandEnd
  /-- ENTROPY_HEALTH_FAIL (R373). -/
  | entropyHealthFail
  /-- ENTROPY_SOURCE_RECOVERED (R373). -/
  | entropySourceRecovered
  /-- DRBG_RESEED (R373). -/
  | drbgReseed
  /-- TU_ALIGN (R385). -/
  | tuAlign
  /-- TU_STEP (R392). -/
  | tuStep (d : BitVec 32)
  /-- TU_ABS_STEP_EFFECT (R392). -/
  | tuAbsStepEffect
  /-- TU_REARM (R393). -/
  | tuRearm (r : Requester)
  /-- TU_OFFSET_WRITE (R390). -/
  | tuOffsetWrite (d : BitVec 32)
  /-- TXTS_READ (R388). -/
  | txtsRead (r : Requester) (p : UpPort)
  /-- TOD_REQUEST (R396). -/
  | todRequest (d : BitVec 32)
  /-- PPS_OUT_EDGE (R398). -/
  | ppsOutEdge
  /-- PPS_OUT_PULSE_END (R398). -/
  | ppsOutPulseEnd
  /-- PPS_IN_EDGE (R398). -/
  | ppsInEdge (falling : Bool) (widthNs : BitVec 32)
  /-- TOD_TX_MESSAGE (R399). -/
  | todTxMessage
  /-- TOD_RX_OCTET (R399). -/
  | todRxOctet (o : BitVec 8)
  /-- TOD_RX_READ (R399). -/
  | todRxRead (r : Requester)
  /-- TU_SLEW_END (R390). -/
  | tuSlewEnd
  /-- FREQ_RAMP_END (R390). -/
  | freqRampEnd
  /-- UPLINK_FRAME_RX (R549). -/
  | uplinkFrameRx (p : UpPort) (octets : List (BitVec 8))
  /-- PORT_RAW_UP (R405). -/
  | portRawUp (p : UpPort) (skewNs : BitVec 16)
  /-- PORT_RAW_DOWN (R405). -/
  | portRawDown (p : UpPort)
  /-- PORT_UP_TIMER (R405). -/
  | portUpTimer (p : UpPort)
  /-- PORT_DOWN_TIMER (R405). -/
  | portDownTimer (p : UpPort)
  /-- PORT_ADMIN_WRITE (R405). -/
  | portAdminWrite (p : UpPort) (d : BitVec 32)
  /-- SWAP_HOLD_TIMEOUT (R407). -/
  | swapHoldTimeout (p : UpPort)
  /-- BENCH_ENABLE (R413). -/
  | benchEnable (i : Fin 69) (d : BitVec 32)
  /-- BENCH_CLEAR (R417). -/
  | benchClear (i : Fin 69)
  /-- BENCH_INJECT (R418). -/
  | benchInject (i : Fin 69)
  /-- BENCH_CHECKER_LOCK (R417). -/
  | benchCheckerLock (i : Fin 69)
  /-- BENCH_CHECKER_LOCK_LOSS (R417). -/
  | benchCheckerLockLoss (i : Fin 69)
  /-- LINK_SIGNAL_DETECT (R426). -/
  | linkSignalDetect (lanes : BitVec 5) (width : BitVec 2)
  /-- LINK_LANE_LOCK (R426). -/
  | linkLaneLock (width : BitVec 2) (map : BitVec 12)
  /-- LINK_DESKEW_END (R426). -/
  | linkDeskewEnd (skewNs : BitVec 40)
  /-- LINK_SOF_LOCK (R426). -/
  | linkSofLock
  /-- INIT_BLOCK (R426). -/
  | initBlock (pool : BitVec 3) (credits : BitVec 16)
  /-- LINK_UP (R426). -/
  | linkUp
  /-- LINK_TRAIN_TIMEOUT (R426). -/
  | linkTrainTimeout
  /-- LINK_DOWN (R427). -/
  | linkDown (txBad : BitVec 5)
  /-- LINK_RETRAIN (R427). -/
  | linkRetrain
  /-- ACK_BLOCK (R431). -/
  | ackBlock (nak : Bool) (seq : BitVec 12)
  /-- CREDIT_BLOCK (R434). -/
  | creditBlock (pool : BitVec 3) (n : BitVec 16)
  /-- MESSAGE_RECEIVED (R431). -/
  | messageReceived (pool : BitVec 3) (seq : BitVec 12) (crcOk : Bool) (body : List (BitVec 64))
  /-- REPLAY_TIMEOUT (R432). -/
  | replayTimeout
  /-- SOF_TICK (R424). -/
  | sofTick
  /-- MARKER_COLUMN (R423). -/
  | markerColumn (bipBad : BitVec 5) (badBlocks : BitVec 16)
  /-- LANE_SWAP_GO (R428). -/
  | laneSwapGo (d : BitVec 32)
  /-- LANE_SWAP_PREPARE_END (R428). -/
  | laneSwapPrepareEnd
  /-- RD32 (R439). -/
  | rd32 (r : Requester) (a : BitVec 40)
  /-- WR32 (R439). -/
  | wr32 (r : Requester) (a : BitVec 40) (d : BitVec 32)
  /-- RD64 (R439). -/
  | rd64 (r : Requester) (a : BitVec 40)
  /-- WR64 (R439). -/
  | wr64 (r : Requester) (a : BitVec 40) (d : BitVec 64)
  /-- DMA_WR (R440). -/
  | dmaWr (a : BitVec 40) (rev : Bool) (words : List (BitVec 64))
  /-- DMA_RD (R440). -/
  | dmaRd (a : BitVec 40) (n : BitVec 32)
  /-- FILL (R440). -/
  | fill (a : BitVec 40) (n : BitVec 40) (pattern : BitVec 64)
  /-- EXC_TX (R442). -/
  | excTx (word1 : BitVec 64) (octets : List (BitVec 8))
  /-- INT_RESEND (R444). -/
  | intResend
  /-- BEACON_SOF (R445). -/
  | beaconSof (wake : Bool) (number : BitVec 32) (blocks : BitVec 8)
  /-- WAKE_ADDRESS_WRITE (R447). -/
  | wakeAddressWrite
  /-- WP_GET_STATUS (R448). -/
  | wpGetStatus
  /-- WP_CLEAR_ALERT (R448). -/
  | wpClearAlert (octets : List (BitVec 8))
  /-- LINK_DOWN_ALERT (R449). -/
  | linkDownAlert
  /-- STABILITY_COUNT_END (R459). -/
  | stabilityCountEnd (src : ClkSrc) (mioCycles : BitVec 32)
  /-- LOSS_MONITOR_TRIP (R460). -/
  | lossMonitorTrip (src : ClkSrc)
  /-- FREQ_MONITOR_WINDOW (R460). -/
  | freqMonitorWindow (refa refb xtal : Int)
  /-- REQUALIFY_WAIT_END (R460). -/
  | requalifyWaitEnd (src : ClkSrc)
  /-- TRIM_WINDOW (R461). -/
  | trimWindow (count : BitVec 32)
  /-- SPLL_LOCK (R462). -/
  | spllLock
  /-- DERIVED_PLL_LOCK (R462). -/
  | derivedPllLock
  /-- CLOCK_STEP_TIMEOUT (R462). -/
  | clockStepTimeout
  /-- RESET_HOLD_RETRY (R462). -/
  | resetHoldRetry
  /-- DIVIDER_RAMP_STEP (R464). -/
  | dividerRampStep (n : Isl)
  /-- FIXED_ISLAND_RELEASE (R464). -/
  | fixedIslandRelease (n : Isl)
  /-- RELOCK_TIMEOUT (R466). -/
  | relockTimeout
  /-- REVERTIVE_SWITCH (R467). -/
  | revertiveSwitch
  /-- CLK_SRC_WRITE (R472). -/
  | clkSrcWrite (d : BitVec 32)
  /-- FEED_LOSS (R474). -/
  | feedLoss (feedB tooHigh : Bool)
  /-- FEED_RESTORE (R474). -/
  | feedRestore (feedB : Bool)
  /-- FEED_SAMPLE (R474). -/
  | feedSample (aMv bMv : BitVec 16)
  /-- RAIL_FAULT (R475). -/
  | railFault (rail : Rail)
  /-- SUPPLY_VOUT_POLL (R480). -/
  | supplyVoutPoll (vout : BitVec 14)
  /-- SUPPLY_NEG_TIMEOUT (R480). -/
  | supplyNegTimeout
  /-- LOAD_LOWER (R481). -/
  | loadLower
  /-- STANDBY_REQUEST (R484). -/
  | standbyRequest (r : Requester)
  /-- STANDBY_STOP_END (R484). -/
  | standbyStopEnd
  /-- STANDBY_DRAIN_END (R484). -/
  | standbyDrainEnd
  /-- STANDBY_DRAIN_TIMEOUT (R484). -/
  | standbyDrainTimeout
  /-- STANDBY_SAVE_END (R484). -/
  | standbySaveEnd
  /-- STANDBY_OFF_END (R484). -/
  | standbyOffEnd
  /-- WAKE_RAILS_GOOD (R486). -/
  | wakeRailsGood
  /-- WAKE_RESTORE_END (R486). -/
  | wakeRestoreEnd (badBanks : List (Fin 156))
  /-- WAKE_RESUME_END (R486). -/
  | wakeResumeEnd
  /-- WAKE_STEP_TIMEOUT (R486). -/
  | wakeStepTimeout
  /-- BOOT_FEED_END (R489). -/
  | bootFeedEnd
  /-- BOOT_ISLAND0_END (R489). -/
  | bootIsland0End (straps : BitVec 3)
  /-- BOOT_RAILS_GOOD (R489). -/
  | bootRailsGood
  /-- BOOT_STEP_TIMEOUT (R489). -/
  | bootStepTimeout
  /-- BOOT_LINK_END (R489). -/
  | bootLinkEnd
  /-- RESET_N_ASSERT (R535). -/
  | resetNAssert
  /-- RESET_N_RELEASE (R535). -/
  | resetNRelease
  /-- SCRUB_READ (R498). -/
  | scrubRead (g : Fin 32) (a : BitVec 40) (ecc : Ecc) (working : Bool)
  /-- CE_LEAK (R499). -/
  | ceLeak
  /-- TLOG_CLEAR (R500). -/
  | tlogClear
  /-- TLOG_WORD0_READ (R500). -/
  | tlogWord0Read (r : Requester) (e : Fin 64)
  /-- WEAR_THRESHOLD (R503). -/
  | wearThreshold (cls : BitVec 4) (part : BitVec 12)
  /-- PART_FAILURE (R505). -/
  | partFailure (cls : BitVec 4) (part : BitVec 12)
  /-- REL_SWAP_PART (R505). -/
  | relSwapPart (d : BitVec 32)
  /-- REL_SWAP_APPROVE (R505). -/
  | relSwapApprove (d : BitVec 32)
  /-- SLICE_PREPARE_END (R508). -/
  | slicePrepareEnd (lane : Fin 64)
  /-- SLICE_PREPARE_TIMEOUT (R508). -/
  | slicePrepareTimeout (lane : Fin 64)
  /-- SLICE_REBIND_END (R508). -/
  | sliceRebindEnd (lane : Fin 64)
  /-- POL_WATCHDOG_EXPIRY (R509). -/
  | polWatchdogExpiry (c : Fin 10)
  /-- POL_FATAL_TRAP (R509). -/
  | polFatalTrap (c : Fin 10)
  /-- POL_CORE_RESTARTED (R509). -/
  | polCoreRestarted (c : Fin 10)
  /-- POL_FW_LOAD (R510). -/
  | polFwLoad
  /-- WQ_TAKE (R515). -/
  | wqTake (r : Requester) (c : Fin 10)
  /-- WQ_DONE (R515). -/
  | wqDone (c : Fin 10) (d : BitVec 32)
  /-- WQ_ITEM_AGED (R515). -/
  | wqItemAged (c : Fin 10) (e : BitVec 12)
  /-- SEND_RING_ENTRY (R516). -/
  | sendRingEntry (c : Fin 10) (sl : Slice)
  deriving DecidableEq, Repr

end Sys2Proof
end

