-- ==== Sys2Proof/Decode.lean ====
section
/-! DEFINITION. Decoding of table words. The table of operations and events gives no row any bits: the commands are events on
pins, links and registers, not words. -/

namespace Sys2Proof

/-- The command that a word of the table spells: none, as no row has bits. -/
def decodeTableWord (_nbits _w : Nat) : Option Instr := none

end Sys2Proof
end

