-- ==== Sys2Proof/Machine/Bits.lean ====
section
/-! DEFINITION. Bit fields, octet strings and the cyclic redundancy checks that several chapters use. -/

namespace Sys2Proof.Machine

/-- Bits [lo + w - 1 : lo] of a number (R6). -/
def bitsOf (v lo w : Nat) : Nat := (v >>> lo) % 2 ^ w

/-- Bit i of a number. -/
def bit1 (v i : Nat) : Bool := (v >>> i) % 2 == 1

/-- A number with bits [lo + w - 1 : lo] replaced. -/
def withBits (v lo w x : Nat) : Nat :=
  v - (bitsOf v lo w) * 2 ^ lo + (x % 2 ^ w) * 2 ^ lo

/-- The numbers below n whose bit is 1. -/
def bitList (n v : Nat) : List Nat := (List.range n).filter (bit1 v)

/-- The number with the listed bits. -/
def bitSum (l : List Nat) : Nat := l.foldl (fun a b => a ||| 1 <<< b) 0

/-- Two's complement reading of the low w bits. -/
def signedOf (v w : Nat) : Int :=
  let x := v % 2 ^ w
  if x < 2 ^ (w - 1) then (x : Int) else (x : Int) - (2 ^ w : Nat)

/-- The low w bits of an integer in two's complement. -/
def toBits (x : Int) (w : Nat) : Nat := (x % ((2 ^ w : Nat) : Int)).toNat

/-- An octet as a number. -/
def octetVal (b : Byte) : Nat := b.toNat

/-- n octets of a number, most significant first (R7). -/
def octetsBE (n v : Nat) : List Byte :=
  (List.range n).map fun i => BitVec.ofNat 8 (v >>> (8 * (n - 1 - i)))

/-- The number that octets spell, most significant first (R7). -/
def ofOctets (l : List Byte) : Nat := l.foldl (fun a b => a * 256 + b.toNat) 0

/-- n octets from offset o of an octet string, absent octets reading 0. -/
def slice (l : List Byte) (o n : Nat) : List Byte :=
  let x := (l.drop o).take n
  x ++ List.replicate (n - x.length) 0

/-- The number in the n octets at offset o. -/
def fieldAt (l : List Byte) (o n : Nat) : Nat := ofOctets (slice l o n)

/-- One reflected CRC step by k bits. -/
def crcRefl (poly : Nat) : Nat → Nat → Nat
  | 0, c => c
  | k + 1, c => crcRefl poly k (if c % 2 = 1 then (c >>> 1) ^^^ poly else c >>> 1)

/-- One non-reflected CRC step of width w by k bits. -/
def crcFwd (w poly : Nat) : Nat → Nat → Nat
  | 0, c => c
  | k + 1, c =>
    crcFwd w poly k (if bit1 c (w - 1) then ((c <<< 1) % 2 ^ w) ^^^ poly else (c <<< 1) % 2 ^ w)

/-- The IEEE 802.3 CRC-32 of an octet string. PRESUMED (log 8): reflected, initial value and final complement all ones. -/
def crc32 (l : List Byte) : Nat :=
  (l.foldl (fun c b => crcRefl 0xEDB88320 8 (c ^^^ b.toNat)) 0xFFFFFFFF) ^^^ 0xFFFFFFFF

/-- The four FCS octets that follow a frame, as the MAC sends them: least significant octet of the CRC first. PRESUMED
(log 8). -/
def fcsOctets (l : List Byte) : List Byte := (octetsBE 4 (crc32 l)).reverse

/-- Whether a frame with its FCS is good. -/
def fcsGood (l : List Byte) : Bool :=
  decide (4 ≤ l.length) && (l.drop (l.length - 4) == fcsOctets (l.take (l.length - 4)))

/-- The CRC-32C (polynomial 0x1EDC6F41) of an octet string. PRESUMED (log 8): reflected, all ones before and after. -/
def crc32c (l : List Byte) : Nat :=
  (l.foldl (fun c b => crcRefl 0x82F63B78 8 (c ^^^ b.toNat)) 0xFFFFFFFF) ^^^ 0xFFFFFFFF

/-- The CRC-64 of R179: polynomial 0x42F0E1EBA9EA3693, initial value and final complement all ones, no reflection. -/
def crc64 (l : List Byte) : Nat :=
  (l.foldl (fun c b => crcFwd 64 0x42F0E1EBA9EA3693 8 (c ^^^ (b.toNat <<< 56))) 0xFFFFFFFFFFFFFFFF) ^^^ 0xFFFFFFFFFFFFFFFF

/-- CRC-16 with polynomial 0x1021 and initial value 0xFFFF (R423). -/
def crc16 (l : List Byte) : Nat :=
  l.foldl (fun c b => crcFwd 16 0x1021 8 (c ^^^ (b.toNat <<< 8))) 0xFFFF

/-- CRC-8 with polynomial x^8 + x^2 + x + 1 and initial value 0 (R448). -/
def crc8 (l : List Byte) : Nat :=
  l.foldl (fun c b => crcFwd 8 0x07 8 (c ^^^ b.toNat)) 0

/-- Round up to a multiple of m. -/
def roundUp (x m : Nat) : Nat := (x + m - 1) / m * m

/-- Division rounded up. -/
def ceilDiv (x m : Nat) : Nat := (x + m - 1) / m

end Sys2Proof.Machine
end

