-- ==== Sys2Proof/Config.lean ====
section
/-! DEFINITION. What a part fixes and the model takes as given: constants the spec's tables give by index, constants a log
entry chose, and the free values, which are opaque: nothing can be proved of which value they have. -/

namespace Sys2Proof.Config

/-- Islands that may gate: those whose MGT_IDLE_TIMER.eligible reads 1 (R40 to R42, R46). -/
def idleCapable (n : Nat) : Bool :=
  !(n == 0 || n == 18 || n == 19 || n == 21 || n == 23 || (24 ≤ n && n ≤ 27))

/-- Clock feed of an island (R457): 0 MIO, 1 SPLL, 2 CPLL, 3 HBM PLL. -/
def islandFeed (n : Nat) : Nat :=
  if n = 0 then 0
  else if (2 ≤ n ∧ n ≤ 9) ∨ n = 12 ∨ n = 21 ∨ n = 23 then 1
  else if 24 ≤ n then 3
  else 2

/-- Spares at manufacture of a class (R507). Class 0x3 has no spare part of its own, its reserve being the check segments;
class 0x2 counts both chiplets. DESIGN CHOICE (log 6): the counts of classes 0x1, 0x2, 0x3 and 0x8 sum chiplets and
directions. -/
def sparesInitial (c : Nat) : Nat :=
  match c with
  | 1 => 8 | 2 => 64 | 4 => 2 | 5 => 1 | 6 => 1 | 7 => 2 | 8 => 2 | _ => 0

/-- State of wear part k of REL_WEAR_k on a part with an empty retirement record (R503, R507, R518): 0 in service, 1 spare. -/
def wearState (k : Nat) : Nat :=
  if k = 22 ∨ k = 23 then 1
  else if 24 ≤ k ∧ k < 96 then (if 32 ≤ (k - 24) % 36 then 1 else 0)
  else if k = 224 + 148 then 1
  else 0

/-- WAKE_AD straps as sampled. DESIGN CHOICE (log 5): both tied low. -/
def strapWakeAd : Nat := 0

/-- The management address of the Wake Port (R446). -/
def strapMgmtAddr : Nat := 0x58 + strapWakeAd

/-- The wake address of the Wake Port (R446). -/
def strapWakeAddr : Nat := strapMgmtAddr + 8

/-- A value the spec leaves open, by the number of the open value (State.freeCtr). -/
opaque freeNat : Nat → Nat

/-- The state of the scrambler of a link lane before its first block (R421), which the spec does not give. -/
opaque linkSeed : Nat → Nat

/-- The bit that follows 64 bits of SSPRQ (R415): the spec names the pattern by its standard only. -/
opaque ssprqNext : Nat → Bool

/-- The 64 bits with which a Bench's generator starts a pattern (R415): the spec does not state them. -/
opaque benchSeed : Nat → Nat

/-- The length of the TAP's instruction register (R540): the spec does not state it. -/
opaque tapIrLen : Nat

/-- The code of a TAP instruction by its place in IDCODE, SAMPLE/PRELOAD, EXTEST, CLAMP, HIGHZ (R540): the spec does not state it. -/
opaque tapCode : Nat → Nat

/-- The lot number, wafer and position of die d (R501). -/
opaque dieFuse : Nat → BitVec 64

/-- REL_DIE_ID of die d (R501, R518): the die type and the reserved bits are as the register table says. -/
def dieId (d : Nat) : BitVec 64 :=
  (dieFuse d &&& 0x1FFFFF00FFFFFFFF#64) ||| (BitVec.ofNat 64 (if d = 0 then 0 else if d = 3 then 2 else 1) <<< 62)

/-- The device identity of HBM stack m (R501). -/
opaque hbmId : Nat → BitVec 64

/-- The key check value of the device key-encryption key (R364). -/
opaque dkekKcv : BitVec 24

/-- The SHA-384 digest of an octet string (R53, R72). -/
opaque sha384 : List Byte → BitVec 384

/-- The key hash that fuse key slot k holds (R53). -/
opaque fuseKeyHash : Nat → BitVec 384

/-- Whether a P-384 signature over a digest verifies under a public key (R53): key, digest, signature octets. -/
opaque ecdsaOk : List Byte → BitVec 384 → List Byte → Bool

/-- AES key unwrap of RFC 3394 under a key (R364, R365): none where the integrity check fails. -/
opaque keyUnwrap : List Byte → List Byte → Option (List Byte)

/-- The device key-encryption key (R364). -/
opaque dkek : List Byte

/-- AES-CMAC of an octet string under an AES-256 key, the PRF of R362. -/
opaque cmac256 : BitVec 256 → List Byte → BitVec 128

/-- AES in electronic codebook mode: key, one block (R371). -/
opaque aesEnc : BitVec 128 → BitVec 128 → BitVec 128

/-- AES-128 decryption of one block (R371): key, block. -/
opaque aesDec : BitVec 128 → BitVec 128 → BitVec 128

/-- AES-CMAC of an octet string under a key (R117, R371). -/
opaque cmac : BitVec 128 → List Byte → BitVec 128

/-- AES-GCM seal: key, 256-bit or 128-bit, nonce, additional data, plaintext; answers ciphertext and tag (R366). -/
opaque gcmSeal : BitVec 256 → Bool → List Byte → List Byte → List Byte → List Byte

/-- AES-GCM open: key, size, nonce, additional data, ciphertext with tag; none where the tag fails (R368, R370). -/
opaque gcmOpen : BitVec 256 → Bool → List Byte → List Byte → List Byte → Option (List Byte)

/-- The octets that AES-GCM decrypts to before the tag is verified: key, size, nonce, ciphertext with tag (R370). -/
opaque gcmPlain : BitVec 256 → Bool → List Byte → List Byte → List Byte

/-- The n-th output block of the DRBG (R372). -/
opaque drbg : Nat → BitVec 128

/-- A placement of segments in pseudo-channels, of which the spec states no more than segLayoutOk (R290). -/
opaque segChoice : Nat → Nat → Nat

/-- A placement puts the 9 segments of every set into 9 different pseudo-channels and 18 segments into each of the 128 (R290). -/
def segLayoutOk (f : Nat → Nat → Nat) : Bool :=
  let l := (List.range 256).map fun v => (List.range 9).map (f v)
  l.all (fun r => r.eraseDups.length == 9 && r.all (· < 128)) && (List.range 128).all fun p => (l.flatten.count p) == 18

/-- The pseudo-channel in which segment `role` of set v lies, 0 to 7 the data segments and 8 the check (R290): by the free placement
where that is one that R290 allows, otherwise round robin, which is one. -/
def segPc (v role : Nat) : Nat := if segLayoutOk segChoice then segChoice v role else (9 * v + role) % 128

/-- The data word of a voltage in mV in the format that a converter's VOUT_MODE reports (R480). -/
opaque voutWord : BitVec 8 → Nat → BitVec 16

/-- The downstream payload octets per microsecond of a tree mode (SCH_PORT_CFG_q); the standards of R79 fix them, the spec does
not state them. -/
opaque treeOctPerUs : Nat → BitVec 17

/-- The XGEM payload octets of one tree frame of a tree mode, for a map of some allocation structures and some PLOAM messages
(R81, R83); the standards of R79 fix it. -/
opaque treeFramePayload : Nat → Nat → Nat → Nat

/-- The physical synchronisation block of a tree mode for an SFC: PSync, the superframe counter structure and the PON-ID structure
(R81); the standards of R79 fix it. -/
opaque physSync : Bool → Nat → List Byte

/-- The downstream FEC code of a tree mode (R79, R81). -/
opaque fecEncode : Bool → List Byte → List Byte

/-- The keystream of tree-layer encryption (R105): octet i of an XGEM payload under a key, at an SFC and a position in the tree frame in
octets; AES-128 in counter mode with the counter that the standards of R79 define. -/
opaque treeKeystream : BitVec 128 → Nat → Nat → Nat → Byte

/-- The map granularity of a tree mode and upstream rate code in octets, less 1 (R149); the standards of R79 prescribe it. -/
opaque granularity : Bool → Nat → BitVec 8

/-- Octets of the burst header and trailer of a tree mode, rate code and FEC choice (R211); the standards of R79 fix them. -/
opaque headerTrailer : Bool → Nat → Bool → BitVec 8

end Sys2Proof.Config
end

