-- ==== Sys2Proof/Machine/Regs.lean ====
section
/-! DEFINITION. The register fields of the register index (R527), one name per field: the register's address, the
field's lowest bit, its width and its reset value, as the field tables of the defining chapters give them (R13). A
64-bit LO/HI pair (R522) is one field of more than 32 bits at the LO address. Where the spec's table gives no number
for a reset value, the value is one of Config.lean, which says what it rests on. -/

namespace Sys2Proof.Machine

/-- One field of one register: the address of the register, the lowest bit, the width, the reset value (R13). -/
structure Fld where
  addr : Nat
  lo : Nat
  width : Nat
  rst : Nat
  deriving DecidableEq, Repr

/-- The access types of R9. -/
inductive Acc where
  | ro | rw | wo | w1c | w1cs | rc | wsc
  deriving DecidableEq, Repr

def MGT_ISLAND_RST.req : Fld := ⟨0x100, 1, 27, 0⟩
/-- MGT_ISLAND_STATE (R46). -/
def MGT_ISLAND_STATE.island (n : Nat) : Fld := ⟨0x104 + 4 * (n / 16), 2 * (n % 16), 2, if n = 0 then 0 else 3⟩
def MGT_RST_DONE.done : Fld := ⟨0x10C, 1, 27, 0⟩
def MGT_ISLAND_FAILED.failed : Fld := ⟨0x110, 1, 27, 0⟩
def MGT_GATE_REFUSED.refused : Fld := ⟨0x114, 0, 28, 0⟩
def MGT_GATE_REFUSED_CNT.count : Fld := ⟨0x118, 0, 32, 0⟩
def MGT_IDLE_TIMER.eligible (i : Nat) : Fld := ⟨0x200 + 0x4 * i, 16, 1, (if Config.idleCapable i then 1 else 0)⟩
def MGT_IDLE_TIMER.timer_us (i : Nat) : Fld := ⟨0x200 + 0x4 * i, 0, 16, (if Config.idleCapable i then 0x32 else 0)⟩
def MGT_RST_CAUSE.count (i : Nat) : Fld := ⟨0x300 + 0x4 * i, 8, 8, 0⟩
def MGT_RST_CAUSE.cause (i : Nat) : Fld := ⟨0x300 + 0x4 * i, 0, 4, 0⟩
def SIL_CTRL.revoke : Fld := ⟨0x1000000, 4, 4, 0⟩
def SIL_CTRL.burn_svn : Fld := ⟨0x1000000, 2, 1, 0⟩
def SIL_CTRL.unstructure : Fld := ⟨0x1000000, 1, 1, 0⟩
def SIL_CTRL.load : Fld := ⟨0x1000000, 0, 1, 0⟩
def SIL_STATUS.step : Fld := ⟨0x1000004, 16, 8, 0⟩
def SIL_STATUS.error : Fld := ⟨0x1000004, 8, 8, 0⟩
def SIL_STATUS.partial : Fld := ⟨0x1000004, 3, 1, 0⟩
def SIL_STATUS.busy : Fld := ⟨0x1000004, 2, 1, 0⟩
def SIL_STATUS.state : Fld := ⟨0x1000004, 0, 2, 0⟩
def SIL_EVENT.tree_hold : Fld := ⟨0x1000008, 3, 1, 0⟩
def SIL_EVENT.stage_write_busy : Fld := ⟨0x1000008, 2, 1, 0⟩
def SIL_EVENT.load_failed : Fld := ⟨0x1000008, 1, 1, 0⟩
def SIL_EVENT.load_done : Fld := ⟨0x1000008, 0, 1, 0⟩
def SIL_STAGE_LEN.length : Fld := ⟨0x100000C, 0, 21, 0⟩
def SIL_CHECK_FAIL.entry : Fld := ⟨0x1000010, 16, 16, 0⟩
def SIL_CHECK_FAIL.check : Fld := ⟨0x1000010, 8, 8, 0⟩
def SIL_CHECK_FAIL.drawer : Fld := ⟨0x1000010, 0, 8, 0⟩
def SIL_LOADED.key_slot : Fld := ⟨0x1000014, 24, 2, 0⟩
def SIL_LOADED.svn : Fld := ⟨0x1000014, 16, 8, 0⟩
def SIL_LOADED.partials : Fld := ⟨0x1000014, 0, 16, 0⟩
def SIL_BUILD.build : Fld := ⟨0x1000018, 0, 64, 0⟩
def SIL_FUSE_KEY.revoked : Fld := ⟨0x1000020, 4, 4, 0⟩
def SIL_FUSE_KEY.programmed : Fld := ⟨0x1000020, 0, 4, 0xF⟩
def SIL_FUSE_SVN.min_svn : Fld := ⟨0x1000024, 0, 6, 0⟩
def SIL_LOAD_CNT.partial : Fld := ⟨0x1000028, 16, 16, 0⟩
def SIL_LOAD_CNT.full : Fld := ⟨0x1000028, 0, 16, 0⟩
def SIL_FAIL_CNT.busy : Fld := ⟨0x100002C, 16, 16, 0⟩
def SIL_FAIL_CNT.failed : Fld := ⟨0x100002C, 0, 16, 0⟩
def SIL_UNSTRUCT_DISCARD.count : Fld := ⟨0x1000030, 0, 64, 0⟩
def SIL_PARTIAL_DONE.trees : Fld := ⟨0x1000038, 0, 32, 0⟩
def SIL_PARTIAL_TENANT.tenants : Fld := ⟨0x1000070, 0, 64, 0⟩
def SIL_IMAGE_HASH.hash (i : Nat) : Fld := ⟨0x1000040 + 0x4 * i, 0, 32, 0⟩
def MGT_OPT_CFG.en (i : Nat) : Fld := ⟨0x700 + 0x20 * i, 31, 1, 0⟩
def MGT_OPT_CFG.speed (i : Nat) : Fld := ⟨0x700 + 0x20 * i, 30, 1, 0⟩
def MGT_OPT_CFG.stretch_ms (i : Nat) : Fld := ⟨0x700 + 0x20 * i, 0, 8, 25⟩
def MGT_OPT_CMD.go (i : Nat) : Fld := ⟨0x704 + 0x20 * i, 31, 1, 0⟩
def MGT_OPT_CMD.wr_len (i : Nat) : Fld := ⟨0x704 + 0x20 * i, 24, 5, 0⟩
def MGT_OPT_CMD.rd_len (i : Nat) : Fld := ⟨0x704 + 0x20 * i, 16, 5, 0⟩
def MGT_OPT_CMD.addr (i : Nat) : Fld := ⟨0x704 + 0x20 * i, 0, 7, 0⟩
def MGT_OPT_STATUS.busy (i : Nat) : Fld := ⟨0x708 + 0x20 * i, 31, 1, 0⟩
def MGT_OPT_STATUS.result (i : Nat) : Fld := ⟨0x708 + 0x20 * i, 24, 4, 0⟩
def MGT_OPT_STATUS.nack_at (i : Nat) : Fld := ⟨0x708 + 0x20 * i, 16, 5, 0⟩
def MGT_OPT_STATUS.errors (i : Nat) : Fld := ⟨0x708 + 0x20 * i, 0, 16, 0⟩
def MGT_OPT_DATA.data (i j : Nat) : Fld := ⟨0x710 + 0x20 * i + 0x4 * j, 0, 32, 0⟩
def TE_CTRL.wake (i : Nat) : Fld := ⟨0x10000000 + 0x100000 * i, 2, 1, 0⟩
def TE_CTRL.state_req (i : Nat) : Fld := ⟨0x10000000 + 0x100000 * i, 0, 2, 0⟩
def TE_STATUS.active (i : Nat) : Fld := ⟨0x10000004 + 0x100000 * i, 8, 9, 0⟩
def TE_STATUS.laser_permit (i : Nat) : Fld := ⟨0x10000004 + 0x100000 * i, 5, 1, 0⟩
def TE_STATUS.txdis (i : Nat) : Fld := ⟨0x10000004 + 0x100000 * i, 4, 1, 1⟩
def TE_STATUS.cs_filling (i : Nat) : Fld := ⟨0x10000004 + 0x100000 * i, 3, 1, 0⟩
def TE_STATUS.state (i : Nat) : Fld := ⟨0x10000004 + 0x100000 * i, 0, 3, 0⟩
def TE_EVENT.sfc_load_refused (i : Nat) : Fld := ⟨0x10000008 + 0x100000 * i, 6, 1, 0⟩
def TE_EVENT.brst_clamped (i : Nat) : Fld := ⟨0x10000008 + 0x100000 * i, 5, 1, 0⟩
def TE_EVENT.key_lost (i : Nat) : Fld := ⟨0x10000008 + 0x100000 * i, 4, 1, 0⟩
def TE_EVENT.key_refused (i : Nat) : Fld := ⟨0x10000008 + 0x100000 * i, 3, 1, 0⟩
def TE_EVENT.key_wrap (i : Nat) : Fld := ⟨0x10000008 + 0x100000 * i, 2, 1, 0⟩
def TE_EVENT.cs_took_over (i : Nat) : Fld := ⟨0x10000008 + 0x100000 * i, 1, 1, 0⟩
def TE_EVENT.light_fail (i : Nat) : Fld := ⟨0x10000008 + 0x100000 * i, 0, 1, 0⟩
def TE_FRAME_CFG.reasm_frames (i : Nat) : Fld := ⟨0x10000010 + 0x100000 * i, 16, 4, 4⟩
def TE_FRAME_CFG.max_len (i : Nat) : Fld := ⟨0x10000010 + 0x100000 * i, 0, 14, 9216⟩
def TE_BURST_WIN.max_err (i : Nat) : Fld := ⟨0x10000014 + 0x100000 * i, 8, 4, 2⟩
def TE_BURST_WIN.half_bits (i : Nat) : Fld := ⟨0x10000014 + 0x100000 * i, 0, 7, 16⟩
def TE_BRST_CFG.mode (i : Nat) : Fld := ⟨0x10000018 + 0x100000 * i, 17, 1, 0⟩
def TE_BRST_CFG.pol (i : Nat) : Fld := ⟨0x10000018 + 0x100000 * i, 16, 1, 0⟩
def TE_BRST_CFG.width (i : Nat) : Fld := ⟨0x10000018 + 0x100000 * i, 8, 8, 8⟩
def TE_BRST_CFG.delay (i : Nat) : Fld := ⟨0x10000018 + 0x100000 * i, 0, 8, 2⟩
def TE_TX_CFG.txdis_pol (i : Nat) : Fld := ⟨0x1000001C + 0x100000 * i, 16, 1, 0⟩
def TE_TX_CFG.on_delay_us (i : Nat) : Fld := ⟨0x1000001C + 0x100000 * i, 0, 16, 1000⟩
def TE_DOZE_CFG.disc_period (i : Nat) : Fld := ⟨0x10000020 + 0x100000 * i, 16, 16, 100⟩
def TE_DOZE_CFG.idle_s (i : Nat) : Fld := ⟨0x10000020 + 0x100000 * i, 0, 16, 10⟩
def TE_KEY_SWITCH.pending (i : Nat) : Fld := ⟨0x10000030 + 0x100000 * i, 24, 1, 0⟩
def TE_KEY_SWITCH.ahead (i : Nat) : Fld := ⟨0x10000030 + 0x100000 * i, 12, 12, 8⟩
def TE_KEY_SWITCH.terminal (i : Nat) : Fld := ⟨0x10000030 + 0x100000 * i, 4, 8, 0⟩
def TE_KEY_SWITCH.index (i : Nat) : Fld := ⟨0x10000030 + 0x100000 * i, 2, 2, 1⟩
def TE_KEY_SWITCH.bcast (i : Nat) : Fld := ⟨0x10000030 + 0x100000 * i, 1, 1, 0⟩
def TE_KEY_SWITCH.go (i : Nat) : Fld := ⟨0x10000030 + 0x100000 * i, 0, 1, 0⟩
def TE_KEY_SW_SFC.sfc (i : Nat) : Fld := ⟨0x10000034 + 0x100000 * i, 0, 51, 0⟩
def TE_DELIM_FALSE_CNT.count (i : Nat) : Fld := ⟨0x10000100 + 0x100000 * i, 0, 32, 0⟩
def TE_DELIM_MISS_CNT.count (i : Nat) : Fld := ⟨0x10000104 + 0x100000 * i, 0, 32, 0⟩
def TE_WRONG_ID_CNT.count (i : Nat) : Fld := ⟨0x10000108 + 0x100000 * i, 0, 32, 0⟩
def TE_XGEM_HEC_CNT.count (i : Nat) : Fld := ⟨0x1000010C + 0x100000 * i, 0, 32, 0⟩
def TE_REASM_TO_CNT.count (i : Nat) : Fld := ⟨0x10000110 + 0x100000 * i, 0, 32, 0⟩
def TE_OVERSIZE_CNT.count (i : Nat) : Fld := ⟨0x10000114 + 0x100000 * i, 0, 32, 0⟩
def TE_KEY_INVALID_CNT.count (i : Nat) : Fld := ⟨0x10000118 + 0x100000 * i, 0, 32, 0⟩
def TE_FRAG_CNT.count (i : Nat) : Fld := ⟨0x1000011C + 0x100000 * i, 0, 32, 0⟩
def TE_EDGE_WAIT_CNT.count (i : Nat) : Fld := ⟨0x10000120 + 0x100000 * i, 0, 32, 0⟩
def TE_CS_FILL_CNT.count (i : Nat) : Fld := ⟨0x10080004 + 0x100000 * i, 0, 32, 0⟩
def TE_CS_LOST_ALLOC_CNT.count (i : Nat) : Fld := ⟨0x10080008 + 0x100000 * i, 0, 32, 0⟩
def TE_CS_CTRL.sfc_load (i : Nat) : Fld := ⟨0x10080000 + 0x100000 * i, 0, 1, 0⟩
def TE_SFC.sfc (i : Nat) : Fld := ⟨0x10080010 + 0x100000 * i, 0, 51, 0⟩
def TE_SFC_SET.sfc (i : Nat) : Fld := ⟨0x10080018 + 0x100000 * i, 0, 51, 0⟩
def TE_ACT_CFG.disc_en (i : Nat) : Fld := ⟨0x10000200 + 0x100000 * i, 31, 1, 0⟩
def TE_ACT_CFG.rng_retries (i : Nat) : Fld := ⟨0x10000200 + 0x100000 * i, 28, 3, 3⟩
def TE_ACT_CFG.sn_period_ms (i : Nat) : Fld := ⟨0x10000200 + 0x100000 * i, 16, 12, 100⟩
def TE_ACT_CFG.approve_ms (i : Nat) : Fld := ⟨0x10000200 + 0x100000 * i, 0, 16, 500⟩
def TE_RNG_CFG.lob_n (i : Nat) : Fld := ⟨0x10000204 + 0x100000 * i, 24, 8, 4⟩
def TE_RNG_CFG.drift_bits (i : Nat) : Fld := ⟨0x10000204 + 0x100000 * i, 16, 8, 8⟩
def TE_RNG_CFG.drift_n (i : Nat) : Fld := ⟨0x10000204 + 0x100000 * i, 12, 4, 4⟩
def TE_RNG_CFG.hold_s (i : Nat) : Fld := ⟨0x10000204 + 0x100000 * i, 0, 12, 10⟩
def TE_TDD_CFG.en (i : Nat) : Fld := ⟨0x10000208 + 0x100000 * i, 24, 1, 0⟩
def TE_TDD_CFG.period_slots (i : Nat) : Fld := ⟨0x10000208 + 0x100000 * i, 16, 7, 40⟩
def TE_TDD_CFG.phase_us (i : Nat) : Fld := ⟨0x10000208 + 0x100000 * i, 0, 14, 0⟩
/-- TE_TDD_W (R143). -/
def TE_TDD_W.weight (i slot : Nat) : Fld := ⟨0x10000240 + 0x100000 * i + 4 * (slot / 8), 4 * (slot % 8), 4, 0⟩
def TE_TRUNK.active (i : Nat) : Fld := ⟨0x1000020C + 0x100000 * i, 16, 1, 0⟩
def TE_TRUNK.rt_ps_per_m (i : Nat) : Fld := ⟨0x1000020C + 0x100000 * i, 0, 16, 9795⟩
def TE_TERM_CMD.go (i : Nat) : Fld := ⟨0x10000210 + 0x100000 * i, 31, 1, 0⟩
def TE_TERM_CMD.cmd (i : Nat) : Fld := ⟨0x10000210 + 0x100000 * i, 24, 4, 0⟩
def TE_TERM_CMD.onu (i : Nat) : Fld := ⟨0x10000210 + 0x100000 * i, 0, 8, 0⟩
def TE_RNG_STATUS.no_discovery (i : Nat) : Fld := ⟨0x10000214 + 0x100000 * i, 25, 1, 0⟩
def TE_RNG_STATUS.rerange_active (i : Nat) : Fld := ⟨0x10000214 + 0x100000 * i, 24, 1, 0⟩
def TE_RNG_STATUS.held (i : Nat) : Fld := ⟨0x10000214 + 0x100000 * i, 8, 9, 0⟩
def TE_RNG_EVENT.cmd_refused (i : Nat) : Fld := ⟨0x10000218 + 0x100000 * i, 4, 1, 0⟩
def TE_RNG_EVENT.trunk_reach (i : Nat) : Fld := ⟨0x10000218 + 0x100000 * i, 3, 1, 0⟩
def TE_RNG_EVENT.tdd_refused (i : Nat) : Fld := ⟨0x10000218 + 0x100000 * i, 2, 1, 0⟩
def TE_RNG_EVENT.rerange_all (i : Nat) : Fld := ⟨0x10000218 + 0x100000 * i, 1, 1, 0⟩
def TE_RNG_EVENT.dup_serial (i : Nat) : Fld := ⟨0x10000218 + 0x100000 * i, 0, 1, 0⟩
def TE_TEQ.teq (i : Nat) : Fld := ⟨0x1000021C + 0x100000 * i, 0, 25, 0⟩
def TE_DEREG_LAST.cause (i : Nat) : Fld := ⟨0x10000220 + 0x100000 * i, 8, 4, 0⟩
def TE_DEREG_LAST.onu (i : Nat) : Fld := ⟨0x10000220 + 0x100000 * i, 0, 8, 0⟩
def TE_SN_RESP_CNT.count (i : Nat) : Fld := ⟨0x10000280 + 0x100000 * i, 0, 32, 0⟩
def TE_SN_COLL_CNT.count (i : Nat) : Fld := ⟨0x10000284 + 0x100000 * i, 0, 32, 0⟩
def TE_QW_SKIP_CNT.count (i : Nat) : Fld := ⟨0x10000288 + 0x100000 * i, 0, 32, 0⟩
def TE_RNG_FAIL_CNT.count (i : Nat) : Fld := ⟨0x1000028C + 0x100000 * i, 0, 32, 0⟩
def TE_DRIFT_ADJ_CNT.count (i : Nat) : Fld := ⟨0x10000290 + 0x100000 * i, 0, 32, 0⟩
def TE_DEREG_CNT.count (i : Nat) : Fld := ⟨0x10000294 + 0x100000 * i, 0, 32, 0⟩
def TE_PLOAM_MIC_CNT.count (i : Nat) : Fld := ⟨0x10000298 + 0x100000 * i, 0, 32, 0⟩
def GE_MAP_CTRL.run_ahead : Fld := ⟨0x30000000, 0, 3, 2⟩
def GE_STATUS.agr_used : Fld := ⟨0x30000004, 16, 13, 0⟩
def GE_STATUS.build_us : Fld := ⟨0x30000004, 0, 8, 0⟩
def GE_EVENT.build_late : Fld := ⟨0x30000008, 5, 1, 0⟩
def GE_EVENT.agr_full : Fld := ⟨0x30000008, 4, 1, 0⟩
def GE_EVENT.agr_bad : Fld := ⟨0x30000008, 3, 1, 0⟩
def GE_EVENT.limit_fail : Fld := ⟨0x30000008, 2, 1, 0⟩
def GE_EVENT.alloc_refused : Fld := ⟨0x30000008, 1, 1, 0⟩
def GE_EVENT.ra_refused : Fld := ⟨0x30000008, 0, 1, 0⟩
def GE_AGR_CFG.en : Fld := ⟨0x3000000C, 16, 1, 0⟩
def GE_AGR_CFG.ethertype : Fld := ⟨0x3000000C, 0, 16, 34997⟩
def GE_FW_CFG.digest_frames : Fld := ⟨0x30000010, 0, 8, 64⟩
def GE_ALLOC_REFUSE.tree : Fld := ⟨0x30000014, 27, 5, 0⟩
def GE_ALLOC_REFUSE.index : Fld := ⟨0x30000014, 16, 9, 0⟩
def GE_ALLOC_REFUSE.reason : Fld := ⟨0x30000014, 0, 4, 0⟩
def GE_AGR_LAST_BAD.reason : Fld := ⟨0x30000018, 24, 8, 0⟩
def GE_AGR_LAST_BAD.tree : Fld := ⟨0x30000018, 16, 8, 0⟩
def GE_AGR_LAST_BAD.seq : Fld := ⟨0x30000018, 0, 16, 0⟩
def GE_TREE_CFG.guard_extra (i : Nat) : Fld := ⟨0x30001000 + 0x100 * i, 24, 8, 0⟩
def GE_TREE_CFG.cal_max (i : Nat) : Fld := ⟨0x30001000 + 0x100 * i, 20, 4, 2⟩
def GE_TREE_CFG.be_min_oct (i : Nat) : Fld := ⟨0x30001000 + 0x100 * i, 0, 20, 256⟩
def GE_TREE_RES.be_res_oct (i : Nat) : Fld := ⟨0x30001004 + 0x100 * i, 0, 20, 0⟩
def GE_TREE_CALRES.cal_res_oct (i : Nat) : Fld := ⟨0x30001010 + 0x100 * i, 0, 20, 0⟩
def GE_TREE_STAT.word_oct (i : Nat) : Fld := ⟨0x30001008 + 0x100 * i, 24, 8, 0⟩
def GE_TREE_STAT.ovh_max (i : Nat) : Fld := ⟨0x30001008 + 0x100 * i, 12, 12, 0⟩
def GE_TREE_STAT.guar_count (i : Nat) : Fld := ⟨0x30001008 + 0x100 * i, 0, 9, 0⟩
def GE_TREE_COMMIT.committed (i : Nat) : Fld := ⟨0x3000100C + 0x100 * i, 0, 20, 0⟩
def GE_AGR_RX_CNT.count : Fld := ⟨0x30000100, 0, 32, 0⟩
def GE_AGR_LATE_CNT.count : Fld := ⟨0x30000104, 0, 32, 0⟩
def GE_AGR_BAD_CNT.count : Fld := ⟨0x30000108, 0, 32, 0⟩
def GE_AGR_CUT_CNT.count : Fld := ⟨0x3000010C, 0, 32, 0⟩
def GE_AGR_CANCEL_CNT.count : Fld := ⟨0x30000110, 0, 32, 0⟩
def GE_AGR_FULL_CNT.count : Fld := ⟨0x30000114, 0, 32, 0⟩
def GE_AGR_MISS_CNT.count : Fld := ⟨0x30000118, 0, 32, 0⟩
def GE_BUILD_LATE_CNT.count : Fld := ⟨0x3000011C, 0, 32, 0⟩
def GE_ORPHAN_CNT.count (i : Nat) : Fld := ⟨0x30001040 + 0x100 * i, 0, 32, 0⟩
def GE_EMPTY_CNT.count (i : Nat) : Fld := ⟨0x30001044 + 0x100 * i, 0, 32, 0⟩
def GE_TRIM_CNT.count (i : Nat) : Fld := ⟨0x30001048 + 0x100 * i, 0, 32, 0⟩
def GE_DISPLACED_CNT.count (i : Nat) : Fld := ⟨0x3000104C + 0x100 * i, 0, 32, 0⟩
def GE_BE_IMPAIR_CNT.count (i : Nat) : Fld := ⟨0x30001050 + 0x100 * i, 0, 32, 0⟩
def GE_LIMIT_FAIL_CNT.count (i : Nat) : Fld := ⟨0x30001054 + 0x100 * i, 0, 32, 0⟩
def GE_FALLBACK_CNT.count (i : Nat) : Fld := ⟨0x30001058 + 0x100 * i, 0, 32, 0⟩
def GE_RECOMP_CNT.count (i : Nat) : Fld := ⟨0x3000105C + 0x100 * i, 0, 32, 0⟩
def MIR_CTRL.force_check : Fld := ⟨0x34000000, 2, 1, 0⟩
def MIR_CTRL.swap : Fld := ⟨0x34000000, 1, 1, 0⟩
def MIR_CTRL.gap_mode : Fld := ⟨0x34000000, 0, 1, 0⟩
def MIR_STATUS.unmirrored : Fld := ⟨0x34000004, 9, 1, 0⟩
def MIR_STATUS.gap : Fld := ⟨0x34000004, 8, 1, 0⟩
def MIR_STATUS.core1 : Fld := ⟨0x34000004, 6, 2, 1⟩
def MIR_STATUS.core0 : Fld := ⟨0x34000004, 4, 2, 0⟩
def MIR_EVENT.fb_corrupt : Fld := ⟨0x34000008, 6, 1, 0⟩
def MIR_EVENT.late : Fld := ⟨0x34000008, 5, 1, 0⟩
def MIR_EVENT.unmirrored : Fld := ⟨0x34000008, 4, 1, 0⟩
def MIR_EVENT.core_retired : Fld := ⟨0x34000008, 3, 1, 0⟩
def MIR_EVENT.check_fail_ge : Fld := ⟨0x34000008, 2, 1, 0⟩
def MIR_EVENT.check_fail_mir : Fld := ⟨0x34000008, 1, 1, 0⟩
def MIR_EVENT.mismatch : Fld := ⟨0x34000008, 0, 1, 0⟩
def MIR_LAST_MISMATCH.tree : Fld := ⟨0x3400000C, 27, 5, 0⟩
def MIR_LAST_MISMATCH.kind : Fld := ⟨0x3400000C, 25, 2, 0⟩
def MIR_LAST_MISMATCH.index : Fld := ⟨0x3400000C, 16, 9, 0⟩
def MIR_LAST_MISMATCH.sfc : Fld := ⟨0x3400000C, 0, 16, 0⟩
def MIR_PRIV.trees : Fld := ⟨0x34000010, 0, 32, 0⟩
def MIR_MISMATCH_CNT.count : Fld := ⟨0x34000100, 0, 32, 0⟩
def MIR_CHECK_CNT.count : Fld := ⟨0x34000104, 0, 32, 0⟩
def MIR_SWAP_CNT.count : Fld := ⟨0x34000108, 0, 32, 0⟩
def MIR_GAP_CNT.count : Fld := ⟨0x3400010C, 0, 32, 0⟩
def MIR_UNMIRRORED_CNT.count : Fld := ⟨0x34000110, 0, 32, 0⟩
def MGT_PROT_CFG.en : Fld := ⟨0x400, 31, 1, 0⟩
def MGT_PROT_CFG.auto_take : Fld := ⟨0x400, 30, 1, 0⟩
def MGT_PROT_CFG.rel_uplink_ms : Fld := ⟨0x400, 16, 8, 0⟩
def MGT_PROT_CFG.off_delay_us : Fld := ⟨0x400, 0, 16, 10⟩
def MGT_PROT_TREES.trees : Fld := ⟨0x404, 0, 32, 0⟩
def MGT_PROT_CTRL.release : Fld := ⟨0x408, 1, 1, 0⟩
def MGT_PROT_CTRL.take : Fld := ⟨0x408, 0, 1, 0⟩
def MGT_PROT_STATUS.prio : Fld := ⟨0x40C, 5, 1, 0⟩
def MGT_PROT_STATUS.hold_in : Fld := ⟨0x40C, 4, 1, 0⟩
def MGT_PROT_STATUS.hold_out : Fld := ⟨0x40C, 3, 1, 0⟩
def MGT_PROT_STATUS.state : Fld := ⟨0x40C, 0, 2, 0⟩
def MGT_PROT_EVENT.peer_lost : Fld := ⟨0x410, 5, 1, 0⟩
def MGT_PROT_EVENT.conflict : Fld := ⟨0x410, 4, 1, 0⟩
def MGT_PROT_EVENT.take_contest : Fld := ⟨0x410, 3, 1, 0⟩
def MGT_PROT_EVENT.take_refused : Fld := ⟨0x410, 2, 1, 0⟩
def MGT_PROT_EVENT.released : Fld := ⟨0x410, 1, 1, 0⟩
def MGT_PROT_EVENT.taken : Fld := ⟨0x410, 0, 1, 0⟩
def MGT_PROT_US_LIGHT.light : Fld := ⟨0x414, 0, 32, 0⟩
def MGT_PROT_SWITCH_CNT.count : Fld := ⟨0x418, 0, 32, 0⟩
def UL_FRER_CFG.rcv_en : Fld := ⟨0xA0008000, 1, 1, 0⟩
def UL_FRER_CFG.gen_en : Fld := ⟨0xA0008000, 0, 1, 0⟩
def UL_FRER_EVENT.no_tag : Fld := ⟨0xA0008004, 2, 1, 0⟩
def UL_FRER_EVENT.reset : Fld := ⟨0xA0008004, 1, 1, 0⟩
def UL_FRER_EVENT.rogue : Fld := ⟨0xA0008004, 0, 1, 0⟩
def UL_FRER_DISC_CNT.count : Fld := ⟨0xA0008008, 0, 32, 0⟩
def UL_FRER_ROGUE_CNT.count : Fld := ⟨0xA000800C, 0, 32, 0⟩
def UL_FRER_NOTAG_CNT.count : Fld := ⟨0xA0008010, 0, 32, 0⟩
def BC_CFG.demote_n : Fld := ⟨0x38000000, 24, 8, 64⟩
def BC_CFG.promote_n : Fld := ⟨0x38000000, 18, 3, 2⟩
def BC_CFG.hyst_pct : Fld := ⟨0x38000000, 12, 4, 2⟩
def BC_CFG.load_win_sh : Fld := ⟨0x38000000, 8, 4, 6⟩
def BC_CFG.alpha_sh : Fld := ⟨0x38000000, 0, 4, 3⟩
def BC_STATUS.bank_unwritten : Fld := ⟨0x38000004, 0, 8, 0⟩
def BC_EVENT.p3_short : Fld := ⟨0x38000008, 4, 1, 0⟩
def BC_EVENT.cmd_refused : Fld := ⟨0x38000008, 3, 1, 0⟩
def BC_EVENT.prof_refused : Fld := ⟨0x38000008, 2, 1, 0⟩
def BC_EVENT.cal_late : Fld := ⟨0x38000008, 1, 1, 0⟩
def BC_EVENT.bank_lost : Fld := ⟨0x38000008, 0, 1, 0⟩
def BC_CMD.go : Fld := ⟨0x3800000C, 31, 1, 0⟩
def BC_CMD.cmd : Fld := ⟨0x3800000C, 24, 2, 0⟩
def BC_CMD.tree : Fld := ⟨0x3800000C, 8, 5, 0⟩
def BC_CMD.onu : Fld := ⟨0x3800000C, 0, 8, 0⟩
def BC_TERM_TEMP.go : Fld := ⟨0x38000010, 31, 1, 0⟩
def BC_TERM_TEMP.temp : Fld := ⟨0x38000010, 13, 8, 128⟩
def BC_TERM_TEMP.tree : Fld := ⟨0x38000010, 8, 5, 0⟩
def BC_TERM_TEMP.onu : Fld := ⟨0x38000010, 0, 8, 0⟩
def BC_TREE_CFG.cal_en (i : Nat) : Fld := ⟨0x38001000 + 0x100 * i, 31, 1, 0⟩
def BC_TREE_CFG.cal_pay_oct (i : Nat) : Fld := ⟨0x38001000 + 0x100 * i, 16, 12, 1024⟩
def BC_TREE_CFG.margin_oct (i : Nat) : Fld := ⟨0x38001000 + 0x100 * i, 0, 8, 16⟩
def BC_TREE_STAT.band (i : Nat) : Fld := ⟨0x38001004 + 0x100 * i, 30, 2, 0⟩
def BC_TREE_STAT.load_pct (i : Nat) : Fld := ⟨0x38001004 + 0x100 * i, 23, 7, 0⟩
def BC_TREE_STAT.rx_temp (i : Nat) : Fld := ⟨0x38001004 + 0x100 * i, 14, 9, 0⟩
def BC_TREE_STAT.need_max (i : Nat) : Fld := ⟨0x38001004 + 0x100 * i, 0, 11, 0⟩
def BC_DEF.thresh (i : Nat) : Fld := ⟨0x38001008 + 0x100 * i, 22, 8, 0⟩
def BC_DEF.dfe1 (i : Nat) : Fld := ⟨0x38001008 + 0x100 * i, 16, 6, 0⟩
def BC_DEF.ffe_post (i : Nat) : Fld := ⟨0x38001008 + 0x100 * i, 10, 6, 0⟩
def BC_DEF.ffe_pre (i : Nat) : Fld := ⟨0x38001008 + 0x100 * i, 4, 6, 0⟩
def BC_DEF.ctle (i : Nat) : Fld := ⟨0x38001008 + 0x100 * i, 0, 4, 8⟩
def BC_PEND.pending (i : Nat) : Fld := ⟨0x3800100C + 0x100 * i, 0, 9, 0⟩
def BC_PROF.terms (i j : Nat) : Fld := ⟨0x38001010 + 0x100 * i + 0x4 * j, 23, 9, 0⟩
def BC_PROF.fec (i j : Nat) : Fld := ⟨0x38001010 + 0x100 * i + 0x4 * j, 22, 1, 0⟩
def BC_PROF.delim8 (i j : Nat) : Fld := ⟨0x38001010 + 0x100 * i + 0x4 * j, 21, 1, 1⟩
def BC_PROF.pre_byte (i j : Nat) : Fld := ⟨0x38001010 + 0x100 * i + 0x4 * j, 13, 8, 85⟩
def BC_PROF.pre_oct (i j : Nat) : Fld := ⟨0x38001010 + 0x100 * i + 0x4 * j, 0, 11, ([0x40, 0x80, 0xC0, 0x180].getD j 0)⟩
def BC_MEAS_CNT.count (i : Nat) : Fld := ⟨0x38001040 + 0x100 * i, 0, 32, 0⟩
def BC_REFINE_CNT.count (i : Nat) : Fld := ⟨0x38001044 + 0x100 * i, 0, 32, 0⟩
def BC_STALE_CNT.count (i : Nat) : Fld := ⟨0x38001048 + 0x100 * i, 0, 32, 0⟩
def BC_BAND_CNT.count (i : Nat) : Fld := ⟨0x3800104C + 0x100 * i, 0, 32, 0⟩
def BC_CAL_REQ_CNT.count (i : Nat) : Fld := ⟨0x38001050 + 0x100 * i, 0, 32, 0⟩
def BC_CAL_DONE_CNT.count (i : Nat) : Fld := ⟨0x38001054 + 0x100 * i, 0, 32, 0⟩
def BC_CAL_LATE_CNT.count (i : Nat) : Fld := ⟨0x38001058 + 0x100 * i, 0, 32, 0⟩
def BC_PROMOTE_CNT.count (i : Nat) : Fld := ⟨0x3800105C + 0x100 * i, 0, 32, 0⟩
def BC_DEMOTE_CNT.count (i : Nat) : Fld := ⟨0x38001060 + 0x100 * i, 0, 32, 0⟩
def PR_CTRL.swap : Fld := ⟨0x40000000, 1, 1, 0⟩
def PR_CTRL.en : Fld := ⟨0x40000000, 0, 1, 0⟩
def PR_GEN_STATUS.inflight : Fld := ⟨0x40000004, 8, 24, 0⟩
def PR_GEN_STATUS.draining : Fld := ⟨0x40000004, 1, 1, 0⟩
def PR_GEN_STATUS.active : Fld := ⟨0x40000004, 0, 1, 0⟩
def PR_GEN_CFG.drain_us : Fld := ⟨0x40000008, 0, 16, 1000⟩
def PR_EVENT.tenant_refused : Fld := ⟨0x4000000C, 7, 1, 0⟩
def PR_EVENT.drain_refused : Fld := ⟨0x4000000C, 6, 1, 0⟩
def PR_EVENT.swap_done : Fld := ⟨0x4000000C, 5, 1, 0⟩
def PR_EVENT.swap_refused : Fld := ⟨0x4000000C, 4, 1, 0⟩
def PR_EVENT.gen_write_refused : Fld := ⟨0x4000000C, 3, 1, 0⟩
def PR_EVENT.stage_discard : Fld := ⟨0x4000000C, 2, 1, 0⟩
def PR_EVENT.kprof_refused : Fld := ⟨0x4000000C, 1, 1, 0⟩
def PR_EVENT.parse_flag : Fld := ⟨0x4000000C, 0, 1, 0⟩
def PR_PARSE_CFG.vxlan_port : Fld := ⟨0x40000010, 16, 16, 4789⟩
def PR_PARSE_CFG.tpid3 : Fld := ⟨0x40000010, 0, 16, 37120⟩
def PR_PARSE_CFG2.ecpri_port : Fld := ⟨0x40000014, 16, 16, 0⟩
def PR_PARSE_CFG2.gtpu_port : Fld := ⟨0x40000014, 0, 16, 2152⟩
def PR_HASH_SEED.seed : Fld := ⟨0x40000018, 0, 32, 4294967295⟩
def PR_RECIRC_CFG.tokens : Fld := ⟨0x40000020, 0, 11, 256⟩
def PR_EXC_DEST.host_flow : Fld := ⟨0x40000024, 16, 16, 0⟩
def PR_EXC_DEST.pol_flow : Fld := ⟨0x40000024, 0, 16, 0⟩
def PR_KPROF.mask (i : Nat) : Fld := ⟨0x40000040 + 0x8 * i, 0, 64, 0⟩
def PR_HPROF.mask (i : Nat) : Fld := ⟨0x40000080 + 0x8 * i, 0, 64, 0⟩
/-- PR_EXC (R268). -/
def PR_EXC.code (i c : Nat) : Fld := ⟨0x40000400 + 4 * i, 2 * c, 2, 0⟩
def PR_SLICE_STATUS.waiting (i : Nat) : Fld := ⟨0x40010000 + 0x1000 * i, 16, 11, 0⟩
def PR_SLICE_STATUS.tokens_free (i : Nat) : Fld := ⟨0x40010000 + 0x1000 * i, 0, 11, 256⟩
def PR_RX_CNT.count (i : Nat) : Fld := ⟨0x40010100 + 0x1000 * i, 0, 32, 0⟩
def PR_PASS2_CNT.count (i : Nat) : Fld := ⟨0x40010104 + 0x1000 * i, 0, 32, 0⟩
def PR_PARSE_DEEP_CNT.count (i : Nat) : Fld := ⟨0x40010108 + 0x1000 * i, 0, 32, 0⟩
def PR_LEN_CONFLICT_CNT.count (i : Nat) : Fld := ⟨0x4001010C + 0x1000 * i, 0, 32, 0⟩
def PR_CSUM_CNT.count (i : Nat) : Fld := ⟨0x40010110 + 0x1000 * i, 0, 32, 0⟩
def PR_P0_MISS_CNT.count (i : Nat) : Fld := ⟨0x40010114 + 0x1000 * i, 0, 32, 0⟩
def PR_P2_HIT_CNT.count (i : Nat) : Fld := ⟨0x40010118 + 0x1000 * i, 0, 32, 0⟩
def PR_DENY_CNT.count (i : Nat) : Fld := ⟨0x4001011C + 0x1000 * i, 0, 32, 0⟩
def PR_ACT_DROP_CNT.count (i : Nat) : Fld := ⟨0x40010120 + 0x1000 * i, 0, 32, 0⟩
def PR_EXC_DROP_CNT.count (i : Nat) : Fld := ⟨0x40010124 + 0x1000 * i, 0, 32, 0⟩
def PR_EXC_HOST_CNT.count (i : Nat) : Fld := ⟨0x40010128 + 0x1000 * i, 0, 32, 0⟩
def PR_EXC_POL_CNT.count (i : Nat) : Fld := ⟨0x4001012C + 0x1000 * i, 0, 32, 0⟩
def PR_TABLE_ERR_CNT.count (i : Nat) : Fld := ⟨0x40010130 + 0x1000 * i, 0, 32, 0⟩
def PR_FLOW_REFUSE_CNT.count (i : Nat) : Fld := ⟨0x40010134 + 0x1000 * i, 0, 32, 0⟩
def PR_DRAIN_REFUSE_CNT.count (i : Nat) : Fld := ⟨0x40010138 + 0x1000 * i, 0, 32, 0⟩
def PR_DISABLED_CNT.count (i : Nat) : Fld := ⟨0x4001013C + 0x1000 * i, 0, 32, 0⟩
def FWD_CTRL.sweep_now : Fld := ⟨0x50000000, 1, 1, 0⟩
def FWD_CTRL.en : Fld := ⟨0x50000000, 0, 1, 0⟩
def FWD_STATUS.pass_active : Fld := ⟨0x50000004, 31, 1, 0⟩
def FWD_STATUS.swap_active : Fld := ⟨0x50000004, 30, 1, 0⟩
def FWD_STATUS.banks_out : Fld := ⟨0x50000004, 22, 8, 0⟩
def FWD_STATUS.entries : Fld := ⟨0x50000004, 0, 19, 0⟩
def FWD_EVENT.win_refused : Fld := ⟨0x50000008, 7, 1, 0⟩
def FWD_EVENT.bank_out : Fld := ⟨0x50000008, 6, 1, 0⟩
def FWD_EVENT.swap_done : Fld := ⟨0x50000008, 5, 1, 0⟩
def FWD_EVENT.notify_drop : Fld := ⟨0x50000008, 4, 1, 0⟩
def FWD_EVENT.lock_timeout : Fld := ⟨0x50000008, 3, 1, 0⟩
def FWD_EVENT.uncorr : Fld := ⟨0x50000008, 2, 1, 0⟩
def FWD_EVENT.no_space : Fld := ⟨0x50000008, 1, 1, 0⟩
def FWD_EVENT.static_move : Fld := ⟨0x50000008, 0, 1, 0⟩
def FWD_LEARN_CFG.dst_refresh : Fld := ⟨0x5000000C, 1, 1, 0⟩
def FWD_LEARN_CFG.en : Fld := ⟨0x5000000C, 0, 1, 1⟩
def FWD_AGE_CFG.mode : Fld := ⟨0x50000010, 31, 1, 0⟩
def FWD_AGE_CFG.notify : Fld := ⟨0x50000010, 30, 1, 0⟩
def FWD_AGE_CFG.en : Fld := ⟨0x50000010, 29, 1, 1⟩
def FWD_AGE_CFG.period_s : Fld := ⟨0x50000010, 16, 12, 300⟩
def FWD_AGE_CFG.age_s : Fld := ⟨0x50000010, 0, 15, 300⟩
def FWD_NOW.now : Fld := ⟨0x50000014, 0, 16, 0⟩
/-- FWD_BANK_MAP (R289). -/
def FWD_BANK_MAP.phys (k : Nat) : Fld := ⟨0x50000018, 4 * k, 4, k⟩
def FWD_LOCK_CFG.lock_us : Fld := ⟨0x5000001C, 0, 16, 1000⟩
def FWD_VERSION.version : Fld := ⟨0x50000020, 0, 32, 0⟩
def FWD_CMD.go (i : Nat) : Fld := ⟨0x50001000 + 0x40 * i, 31, 1, 0⟩
def FWD_CMD.op (i : Nat) : Fld := ⟨0x50001000 + 0x40 * i, 28, 3, 0⟩
def FWD_CMD.static (i : Nat) : Fld := ⟨0x50001000 + 0x40 * i, 27, 1, 0⟩
def FWD_CMD.tenant (i : Nat) : Fld := ⟨0x50001000 + 0x40 * i, 16, 6, 0⟩
def FWD_CMD.result (i : Nat) : Fld := ⟨0x50001000 + 0x40 * i, 0, 4, 0⟩
def FWD_CMD_KEY0.mac_lo (i : Nat) : Fld := ⟨0x50001004 + 0x40 * i, 0, 32, 0⟩
def FWD_CMD_KEY1.mac_hi (i : Nat) : Fld := ⟨0x50001008 + 0x40 * i, 16, 16, 0⟩
def FWD_CMD_KEY1.vid (i : Nat) : Fld := ⟨0x50001008 + 0x40 * i, 0, 12, 0⟩
def FWD_CMD_DATA.flow (i : Nat) : Fld := ⟨0x5000100C + 0x40 * i, 16, 16, 0⟩
def FWD_CMD_DATA.ptidx (i : Nat) : Fld := ⟨0x5000100C + 0x40 * i, 0, 12, 0⟩
def FWD_CMD_LIF.lif (i : Nat) : Fld := ⟨0x50001010 + 0x40 * i, 0, 14, 0⟩
def FWD_CMD_EXP.expected (i : Nat) : Fld := ⟨0x50001014 + 0x40 * i, 0, 32, 0⟩
def FWD_CMD_RVER.version (i : Nat) : Fld := ⟨0x50001018 + 0x40 * i, 0, 32, 0⟩
def FWD_CMD_RDATA.flow (i : Nat) : Fld := ⟨0x5000101C + 0x40 * i, 16, 16, 0⟩
def FWD_CMD_RDATA.ptidx (i : Nat) : Fld := ⟨0x5000101C + 0x40 * i, 0, 12, 0⟩
def FWD_CMD_RLIF.index (i : Nat) : Fld := ⟨0x50001020 + 0x40 * i, 14, 18, 0⟩
def FWD_CMD_RLIF.lif (i : Nat) : Fld := ⟨0x50001020 + 0x40 * i, 0, 14, 0⟩
def FWD_DST_HIT_CNT.count : Fld := ⟨0x50000100, 0, 32, 0⟩
def FWD_DST_MISS_CNT.count : Fld := ⟨0x50000104, 0, 32, 0⟩
def FWD_FLOOD_DROP_CNT.count : Fld := ⟨0x50000108, 0, 32, 0⟩
def FWD_NOTIFY_CNT.count : Fld := ⟨0x5000010C, 0, 32, 0⟩
def FWD_NOTIFY_SUPP_CNT.count : Fld := ⟨0x50000110, 0, 32, 0⟩
def FWD_CONTEST_CNT.count : Fld := ⟨0x50000114, 0, 32, 0⟩
def FWD_NOTIFY_DROP_CNT.count : Fld := ⟨0x50000118, 0, 32, 0⟩
def FWD_AGED_CNT.count : Fld := ⟨0x5000011C, 0, 32, 0⟩
def FWD_AGE_ABORT_CNT.count : Fld := ⟨0x50000120, 0, 32, 0⟩
def FWD_BAD_SRC_CNT.count : Fld := ⟨0x50000124, 0, 32, 0⟩
def FWD_STATIC_MOVE_CNT.count : Fld := ⟨0x50000128, 0, 32, 0⟩
def FWD_UNCORR_CNT.count : Fld := ⟨0x5000012C, 0, 32, 0⟩
def FWD_LOCK_TO_CNT.count : Fld := ⟨0x50000130, 0, 32, 0⟩
def FWD_NO_SPACE_CNT.count : Fld := ⟨0x50000134, 0, 32, 0⟩
def FWD_BANK_LOST_CNT.count : Fld := ⟨0x50000138, 0, 32, 0⟩
def FWD_DISABLED_CNT.count : Fld := ⟨0x5000013C, 0, 32, 0⟩
def SHM_STATUS.rebuild_active : Fld := ⟨0x60000000, 31, 1, 0⟩
def SHM_STATUS.degraded : Fld := ⟨0x60000000, 30, 1, 0⟩
def SHM_STATUS.rr_slice : Fld := ⟨0x60000000, 28, 2, 0⟩
def SHM_STATUS.sets_spent : Fld := ⟨0x60000000, 17, 9, 0⟩
def SHM_STATUS.pcs_failed : Fld := ⟨0x60000000, 8, 9, 0⟩
def SHM_STATUS.rebuild_pct : Fld := ⟨0x60000000, 0, 8, 0⟩
def SHM_EVENT.refused : Fld := ⟨0x60000004, 7, 1, 0⟩
def SHM_EVENT.floor_cut : Fld := ⟨0x60000004, 6, 1, 0⟩
def SHM_EVENT.capacity_cut : Fld := ⟨0x60000004, 5, 1, 0⟩
def SHM_EVENT.data_lost : Fld := ⟨0x60000004, 4, 1, 0⟩
def SHM_EVENT.rebuild_late : Fld := ⟨0x60000004, 3, 1, 0⟩
def SHM_EVENT.rebuild_done : Fld := ⟨0x60000004, 2, 1, 0⟩
def SHM_EVENT.pc_failed : Fld := ⟨0x60000004, 1, 1, 0⟩
def SHM_EVENT.contest : Fld := ⟨0x60000004, 0, 1, 0⟩
def SHM_USABLE.usable_mib : Fld := ⟨0x60000008, 0, 18, 131072⟩
def SHM_REFUSE_LAST.cause : Fld := ⟨0x6000000C, 24, 8, 0⟩
def SHM_REFUSE_LAST.tenant : Fld := ⟨0x6000000C, 18, 6, 0⟩
def SHM_REFUSE_LAST.flow : Fld := ⟨0x6000000C, 0, 16, 0⟩
def SHM_SHELF_CNT.count (i : Nat) : Fld := ⟨0x60000010 + 0x4 * i, 0, 32, 0⟩
def SHM_SHARED_FREE.count (i : Nat) : Fld := ⟨0x60000020 + 0x4 * i, 0, 32, 0⟩
def SHM_RECIRC_FREE.count (i : Nat) : Fld := ⟨0x60000030 + 0x4 * i, 0, 32, 0⟩
def SHM_DRR_Q.quantum (i : Nat) : Fld := ⟨0x60000040 + 0x4 * i, 0, 16, ([0x20, 0x20, 0x20, 0x20, 0x40, 0x10, 4].getD i 0)⟩
def SHM_PC_FAILED.map (i : Nat) : Fld := ⟨0x60000080 + 0x4 * i, 0, 32, 0⟩
def SHM_SET_SPENT.map (i : Nat) : Fld := ⟨0x600000A0 + 0x4 * i, 0, 32, 0⟩
def SHM_USE.used (i j : Nat) : Fld := ⟨0x60001000 + 0x10 * i + 0x4 * j, 0, 32, 0⟩
def SHM_REFUSE_CNT.count (i : Nat) : Fld := ⟨0x60000104 + 0x4 * i, 0, 32, 0⟩
def SHM_CONTEST_CNT.count : Fld := ⟨0x60000140, 0, 32, 0⟩
def SHM_SPILL_CNT.count : Fld := ⟨0x60000144, 0, 32, 0⟩
def SHM_DEGRADED_RD_CNT.count : Fld := ⟨0x60000148, 0, 32, 0⟩
def SHM_SEG_LOST_CNT.count : Fld := ⟨0x6000014C, 0, 32, 0⟩
def JNL_STATUS.none : Fld := ⟨0x60008000, 5, 1, 1⟩
def JNL_STATUS.single : Fld := ⟨0x60008000, 4, 1, 0⟩
def JNL_STATUS.copy_b : Fld := ⟨0x60008000, 2, 2, 1⟩
def JNL_STATUS.copy_a : Fld := ⟨0x60008000, 0, 2, 1⟩
def JNL_EVENT.lost : Fld := ⟨0x60008004, 5, 1, 0⟩
def JNL_EVENT.repair : Fld := ⟨0x60008004, 4, 1, 0⟩
def JNL_EVENT.rpt_overflow : Fld := ⟨0x60008004, 3, 1, 0⟩
def JNL_EVENT.full : Fld := ⟨0x60008004, 2, 1, 0⟩
def JNL_EVENT.resync_done : Fld := ⟨0x60008004, 1, 1, 0⟩
def JNL_EVENT.single_copy : Fld := ⟨0x60008004, 0, 1, 0⟩
def JNL_SLOTS.slots : Fld := ⟨0x60008008, 0, 32, 0⟩
def JNL_USED.slots : Fld := ⟨0x6000800C, 0, 32, 0⟩
def JNL_RPT_PROD.index : Fld := ⟨0x60008010, 0, 16, 0⟩
def JNL_RPT_CONS.index : Fld := ⟨0x60008014, 0, 16, 0⟩
def JNL_ACCEPT_CNT.count : Fld := ⟨0x60008020, 0, 64, 0⟩
def JNL_DELIV_CNT.count : Fld := ⟨0x60008028, 0, 64, 0⟩
def JNL_UNDELIV_CNT.count (i : Nat) : Fld := ⟨0x60008104 + 0x4 * i, 0, 32, 0⟩
def JNL_RESEND_CNT.count : Fld := ⟨0x60008120, 0, 32, 0⟩
def JNL_RPT_LOST_CNT.count : Fld := ⟨0x60008124, 0, 32, 0⟩
def JNL_REPAIR_CNT.count : Fld := ⟨0x60008128, 0, 32, 0⟩
def JNL_LOST_CNT.count : Fld := ⟨0x6000812C, 0, 32, 0⟩
def SCH_CTRL.en : Fld := ⟨0x70000000, 0, 1, 0⟩
def SCH_CFG.late_tol_ns : Fld := ⟨0x70000004, 0, 16, 100⟩
def SCH_EVENT.launch_bad : Fld := ⟨0x70000008, 3, 1, 0⟩
def SCH_EVENT.late : Fld := ⟨0x70000008, 2, 1, 0⟩
def SCH_EVENT.gate_swapped : Fld := ⟨0x70000008, 1, 1, 0⟩
def SCH_EVENT.cfg_refused : Fld := ⟨0x70000008, 0, 1, 0⟩
def SCH_CFG_REFUSE.table : Fld := ⟨0x7000000C, 30, 2, 0⟩
def SCH_CFG_REFUSE.index : Fld := ⟨0x7000000C, 12, 16, 0⟩
def SCH_CFG_REFUSE.reason : Fld := ⟨0x7000000C, 0, 4, 0⟩
def SCH_PORT_CFG.gate_en (i : Nat) : Fld := ⟨0x70001000 + 0x40 * i, 31, 1, 0⟩
def SCH_PORT_CFG.idle_mode (i : Nat) : Fld := ⟨0x70001000 + 0x40 * i, 30, 1, 0⟩
def SCH_PORT_CFG.oct_per_us (i : Nat) : Fld := ⟨0x70001000 + 0x40 * i, 8, 17, 0⟩
def SCH_PORT_CFG.ovh_adj (i : Nat) : Fld := ⟨0x70001000 + 0x40 * i, 0, 8, (if i < 32 then 8 else if i < 36 then 0x14 else 0)⟩
def SCH_PORT_RATE.rate_kbps (i : Nat) : Fld := ⟨0x70001004 + 0x40 * i, 0, 30, 0⟩
def SCH_PORT_BURST.burst_oct (i : Nat) : Fld := ⟨0x70001008 + 0x40 * i, 0, 25, 16777216⟩
def SCH_GATE_CTRL.go (i : Nat) : Fld := ⟨0x7000100C + 0x40 * i, 31, 1, 0⟩
def SCH_GATE_CTRL.admin_len (i : Nat) : Fld := ⟨0x7000100C + 0x40 * i, 0, 8, 1⟩
def SCH_GATE_CYCLE.ns (i : Nat) : Fld := ⟨0x70001010 + 0x40 * i, 0, 30, 0x3B9ACA00⟩
def SCH_GATE_BASE_NS.ns (i : Nat) : Fld := ⟨0x70001014 + 0x40 * i, 0, 30, 0⟩
def SCH_GATE_BASE_S.s (i : Nat) : Fld := ⟨0x70001018 + 0x40 * i, 0, 48, 0⟩
def SCH_GATE_STATUS.pending (i : Nat) : Fld := ⟨0x70001020 + 0x40 * i, 24, 1, 0⟩
def SCH_GATE_STATUS.oper_copy (i : Nat) : Fld := ⟨0x70001020 + 0x40 * i, 23, 1, 0⟩
def SCH_GATE_STATUS.open_ (i : Nat) : Fld := ⟨0x70001020 + 0x40 * i, 8, 8, 255⟩
def SCH_GATE_STATUS.entry (i : Nat) : Fld := ⟨0x70001020 + 0x40 * i, 0, 7, 0⟩
def SCH_GATE_REFUSE_CNT.count : Fld := ⟨0x70000100, 0, 32, 0⟩
def SCH_EDGE_HOLD_CNT.count : Fld := ⟨0x70000104, 0, 32, 0⟩
def SCH_LATE_CNT.count : Fld := ⟨0x70000108, 0, 32, 0⟩
def SCH_LAUNCH_BAD_CNT.count : Fld := ⟨0x7000010C, 0, 32, 0⟩
def LNS_CTRL.freeze : Fld := ⟨0x78000000, 1, 1, 0⟩
def LNS_CTRL.en : Fld := ⟨0x78000000, 0, 1, 0⟩
def LNS_CFG.period_us : Fld := ⟨0x78000004, 0, 20, 1000⟩
def LNS_MISSED_CNT.count : Fld := ⟨0x78000100, 0, 32, 0⟩
def CIP_CTRL.en : Fld := ⟨0x80000000, 0, 1, 0⟩
def CIP_CFG.replay_win : Fld := ⟨0x80000004, 16, 7, 64⟩
def CIP_CFG.ethertype : Fld := ⟨0x80000004, 0, 16, 34998⟩
def CIP_STATUS.key_wait : Fld := ⟨0x80000008, 16, 13, 0⟩
def CIP_STATUS.used : Fld := ⟨0x80000008, 0, 13, 0⟩
def CIP_EVENT.entropy_fail : Fld := ⟨0x8000000C, 4, 1, 0⟩
def CIP_EVENT.cfg_refused : Fld := ⟨0x8000000C, 3, 1, 0⟩
def CIP_EVENT.tag_fail : Fld := ⟨0x8000000C, 2, 1, 0⟩
def CIP_EVENT.key_wait : Fld := ⟨0x8000000C, 1, 1, 0⟩
def CIP_EVENT.rekey_due : Fld := ⟨0x8000000C, 0, 1, 0⟩
def CIP_CFG_REFUSE.flow : Fld := ⟨0x80000010, 16, 16, 0⟩
def CIP_CFG_REFUSE.reason : Fld := ⟨0x80000010, 0, 4, 0⟩
def CIP_TAG_FAIL_CNT.count : Fld := ⟨0x80000100, 0, 32, 0⟩
def CIP_CT_FAIL_CNT.count : Fld := ⟨0x80000104, 0, 32, 0⟩
def CIP_REPLAY_CNT.count : Fld := ⟨0x80000108, 0, 32, 0⟩
def CIP_NO_TSH_CNT.count : Fld := ⟨0x8000010C, 0, 32, 0⟩
def CIP_REKEY_DUE_CNT.count : Fld := ⟨0x80000110, 0, 32, 0⟩
def CIP_KEYWAIT_CNT.count : Fld := ⟨0x80000114, 0, 32, 0⟩
def CIP_HOLD_REFUSE_CNT.count : Fld := ⟨0x80000118, 0, 32, 0⟩
def KV_STATUS.entropy_fail : Fld := ⟨0x80008000, 2, 1, 0⟩
def KV_STATUS.dkek_ok : Fld := ⟨0x80008000, 1, 1, 1⟩
def KV_STATUS.busy : Fld := ⟨0x80008000, 0, 1, 0⟩
def KV_EVENT.zeroised : Fld := ⟨0x80008004, 1, 1, 0⟩
def KV_EVENT.cmd_failed : Fld := ⟨0x80008004, 0, 1, 0⟩
def KV_DKEK_KCV.kcv : Fld := ⟨0x80008008, 0, 24, Config.dkekKcv.toNat⟩
def KV_CMD_CNT.count : Fld := ⟨0x80008010, 0, 32, 0⟩
def KV_FAIL_CNT.count : Fld := ⟨0x80008014, 0, 32, 0⟩
def KV_LAST_EPOCH.epoch (i : Nat) : Fld := ⟨0x80008100 + 0x4 * i, 0, 32, 0⟩
def KV_CMD.go (i : Nat) : Fld := ⟨0x80009000 + 0x80 * i, 31, 1, 0⟩
def KV_CMD.op (i : Nat) : Fld := ⟨0x80009000 + 0x80 * i, 24, 4, 0⟩
def KV_CMD.slot (i : Nat) : Fld := ⟨0x80009000 + 0x80 * i, 0, 12, 0⟩
def KV_ARG.tree (i : Nat) : Fld := ⟨0x80009004 + 0x80 * i, 24, 5, 0⟩
def KV_ARG.tenant (i : Nat) : Fld := ⟨0x80009004 + 0x80 * i, 16, 6, 0⟩
def KV_ARG.idx (i : Nat) : Fld := ⟨0x80009004 + 0x80 * i, 8, 8, 0⟩
def KV_ARG.dir (i : Nat) : Fld := ⟨0x80009004 + 0x80 * i, 7, 1, 0⟩
def KV_ARG.alg (i : Nat) : Fld := ⟨0x80009004 + 0x80 * i, 6, 1, 0⟩
def KV_ARG.key_index (i : Nat) : Fld := ⟨0x80009004 + 0x80 * i, 4, 2, 1⟩
def KV_EPOCH.epoch (i : Nat) : Fld := ⟨0x80009008 + 0x80 * i, 0, 32, 0⟩
def KV_RES.result (i : Nat) : Fld := ⟨0x8000900C + 0x80 * i, 0, 4, 0⟩
def KV_OUT.out (i j : Nat) : Fld := ⟨0x80009010 + 0x80 * i + 0x4 * j, 0, 32, 0⟩
def KV_BLOB.blob (i j : Nat) : Fld := ⟨0x80009040 + 0x80 * i + 0x4 * j, 0, 32, 0⟩
def TU_CTRL.align : Fld := ⟨0x90000000, 4, 1, 0⟩
def TU_CTRL.rearm : Fld := ⟨0x90000000, 3, 1, 0⟩
def TU_CTRL.step_abs : Fld := ⟨0x90000000, 2, 1, 1⟩
def TU_CTRL.step : Fld := ⟨0x90000000, 1, 1, 0⟩
def TU_STATUS.holdover : Fld := ⟨0x90000004, 5, 1, 0⟩
def TU_STATUS.tick_aligned : Fld := ⟨0x90000004, 4, 1, 0⟩
def TU_STATUS.slewing : Fld := ⟨0x90000004, 3, 1, 0⟩
def TU_STATUS.freq_ramping : Fld := ⟨0x90000004, 2, 1, 0⟩
def TU_STATUS.step_armed : Fld := ⟨0x90000004, 1, 1, 1⟩
def TU_STATUS.time_set : Fld := ⟨0x90000004, 0, 1, 0⟩
def TU_EVENT.tod_rx_overflow : Fld := ⟨0x90000008, 7, 1, 0⟩
def TU_EVENT.txts_overflow : Fld := ⟨0x90000008, 6, 1, 0⟩
def TU_EVENT.tc_miss : Fld := ⟨0x90000008, 5, 1, 0⟩
def TU_EVENT.align_lost : Fld := ⟨0x90000008, 4, 1, 0⟩
def TU_EVENT.rearmed : Fld := ⟨0x90000008, 3, 1, 0⟩
def TU_EVENT.step_refused : Fld := ⟨0x90000008, 2, 1, 0⟩
def TU_EVENT.step_done : Fld := ⟨0x90000008, 1, 1, 0⟩
def TU_EVENT.pps_in : Fld := ⟨0x90000008, 0, 1, 0⟩
def TU_TIME_JUMP.jump : Fld := ⟨0x9000000C, 31, 1, 0⟩
def TU_TIME_JUMP.last_ns : Fld := ⟨0x9000000C, 0, 31, 0⟩
def TU_TIME_NS.value : Fld := ⟨0x90000010, 0, 32, 0⟩
def TU_TIME_S.value : Fld := ⟨0x90000014, 0, 48, 0⟩
def TU_LOCAL.value : Fld := ⟨0x9000001C, 0, 64, 0⟩
def TU_STEP_NS.value : Fld := ⟨0x90000024, 0, 32, 0⟩
def TU_STEP_S.value : Fld := ⟨0x90000028, 0, 48, 0⟩
def TU_FREQ.freq : Fld := ⟨0x90000030, 0, 32, 0⟩
def TU_OFFSET.offset_ns : Fld := ⟨0x90000034, 0, 32, 0⟩
def TU_REMAIN.offset_ns : Fld := ⟨0x90000038, 0, 32, 0⟩
def TU_SLEW_CFG.alarm_ns : Fld := ⟨0x9000003C, 8, 24, 1000⟩
def TU_SLEW_CFG.max_ppb : Fld := ⟨0x9000003C, 0, 7, 100⟩
def TU_TICK_CFG.frame_phase_ns : Fld := ⟨0x90000040, 0, 17, 0⟩
def TU_PPS_CFG.out_en : Fld := ⟨0x90000044, 31, 1, 0⟩
def TU_PPS_CFG.in_en : Fld := ⟨0x90000044, 30, 1, 0⟩
def TU_PPS_CFG.in_edge : Fld := ⟨0x90000044, 29, 1, 0⟩
def TU_PPS_CFG.width_ms : Fld := ⟨0x90000044, 16, 8, 100⟩
def TU_PPS_CFG.out_adj_ns : Fld := ⟨0x90000044, 0, 16, 0⟩
def TU_PPS_IN_NS.value : Fld := ⟨0x90000048, 0, 32, 0⟩
def TU_PPS_IN_S.value : Fld := ⟨0x9000004C, 0, 48, 0⟩
def TU_TOD_CFG.tx_en : Fld := ⟨0x90000054, 31, 1, 0⟩
def TU_TOD_CFG.rx_en : Fld := ⟨0x90000054, 30, 1, 0⟩
def TU_TOD_CFG.baud : Fld := ⟨0x90000054, 28, 2, 2⟩
def TU_TOD_CFG.traceable : Fld := ⟨0x90000054, 24, 1, 0⟩
def TU_TOD_CFG.clock_class : Fld := ⟨0x90000054, 16, 8, 255⟩
def TU_TOD_CFG.utc_offset : Fld := ⟨0x90000054, 0, 16, 37⟩
def TU_TOD_RX.valid : Fld := ⟨0x90000058, 31, 1, 0⟩
def TU_TOD_RX.count : Fld := ⟨0x90000058, 24, 6, 0⟩
def TU_TOD_RX.data : Fld := ⟨0x90000058, 0, 8, 0⟩
def TU_TC_CFG.en : Fld := ⟨0x9000005C, 0, 32, 0⟩
def TU_TC_TREES.en : Fld := ⟨0x90000060, 0, 32, 0⟩
def TU_TOD_REQ.go : Fld := ⟨0x90000064, 31, 1, 0⟩
def TU_TOD_REQ.ready : Fld := ⟨0x90000064, 30, 1, 0⟩
def TU_TOD_REQ.tree : Fld := ⟨0x90000064, 16, 5, 0⟩
def TU_TOD_REQ.ahead : Fld := ⟨0x90000064, 0, 12, 16⟩
def TU_TOD_SFC.value : Fld := ⟨0x90000068, 0, 51, 0⟩
def TU_TOD_RES_NS.value : Fld := ⟨0x90000070, 0, 32, 0⟩
def TU_TOD_RES_S.value : Fld := ⟨0x90000074, 0, 48, 0⟩
def TU_TRIM.tx_trim_ps (i : Nat) : Fld := ⟨0x90000100 + 0x4 * i, 16, 16, 0⟩
def TU_TRIM.rx_trim_ps (i : Nat) : Fld := ⟨0x90000100 + 0x4 * i, 0, 16, 0⟩
def TU_TXTS_TAG.valid (i : Nat) : Fld := ⟨0x90000200 + 0x10 * i, 31, 1, 0⟩
def TU_TXTS_TAG.msg_type (i : Nat) : Fld := ⟨0x90000200 + 0x10 * i, 24, 4, 0⟩
def TU_TXTS_TAG.domain (i : Nat) : Fld := ⟨0x90000200 + 0x10 * i, 16, 8, 0⟩
def TU_TXTS_TAG.seq_id (i : Nat) : Fld := ⟨0x90000200 + 0x10 * i, 0, 16, 0⟩
def TU_TXTS_NS.value (i : Nat) : Fld := ⟨0x90000204 + 0x10 * i, 0, 32, 0⟩
def TU_TXTS_S.value (i : Nat) : Fld := ⟨0x90000208 + 0x10 * i, 0, 48, 0⟩
def TU_STEP_CNT.count : Fld := ⟨0x90000300, 0, 32, 0⟩
def TU_JUMP_CNT.count : Fld := ⟨0x90000304, 0, 32, 0⟩
def TU_REARM_CNT.count : Fld := ⟨0x90000308, 0, 32, 0⟩
def TU_TC_CNT.count : Fld := ⟨0x9000030C, 0, 32, 0⟩
def TU_TC_MISS_CNT.count : Fld := ⟨0x90000310, 0, 32, 0⟩
def TU_TXTS_LOST_CNT.count : Fld := ⟨0x90000314, 0, 32, 0⟩
def TU_PPS_IN_CNT.count : Fld := ⟨0x90000318, 0, 32, 0⟩
def TU_TOD_RX_LOST_CNT.count : Fld := ⟨0x9000031C, 0, 32, 0⟩
def UL_PORT_CFG.admin_en (i : Nat) : Fld := ⟨0xA0000000 + 0x100 * i, 31, 1, 0⟩
def UL_PORT_CFG.down_ms (i : Nat) : Fld := ⟨0xA0000000 + 0x100 * i, 16, 8, 10⟩
def UL_PORT_CFG.up_ms (i : Nat) : Fld := ⟨0xA0000000 + 0x100 * i, 8, 8, 5⟩
def UL_PORT_STATUS.link (i : Nat) : Fld := ⟨0xA0000004 + 0x100 * i, 31, 1, 0⟩
def UL_PORT_STATUS.raw_up (i : Nat) : Fld := ⟨0xA0000004 + 0x100 * i, 30, 1, 0⟩
def UL_PORT_STATUS.swap_hold (i : Nat) : Fld := ⟨0xA0000004 + 0x100 * i, 29, 1, 0⟩
def UL_PORT_STATUS.out_of_service (i : Nat) : Fld := ⟨0xA0000004 + 0x100 * i, 28, 1, 0⟩
def UL_PORT_STATUS.lane_base (i : Nat) : Fld := ⟨0xA0000004 + 0x100 * i, 16, 8, 0⟩
def UL_PORT_STATUS.mode (i : Nat) : Fld := ⟨0xA0000004 + 0x100 * i, 0, 8, 0⟩
def UL_PORT_EVENT.bench_busy (i : Nat) : Fld := ⟨0xA0000008 + 0x100 * i, 3, 1, 0⟩
def UL_PORT_EVENT.stepped_down (i : Nat) : Fld := ⟨0xA0000008 + 0x100 * i, 2, 1, 0⟩
def UL_PORT_EVENT.skew_fail (i : Nat) : Fld := ⟨0xA0000008 + 0x100 * i, 1, 1, 0⟩
def UL_PORT_EVENT.link_down (i : Nat) : Fld := ⟨0xA0000008 + 0x100 * i, 0, 1, 0⟩
def UL_PORT_INJ.en (i : Nat) : Fld := ⟨0xA000000C + 0x100 * i, 31, 1, 0⟩
def UL_PORT_INJ.symbols (i : Nat) : Fld := ⟨0xA000000C + 0x100 * i, 16, 5, 1⟩
def UL_PORT_INJ.every (i : Nat) : Fld := ⟨0xA000000C + 0x100 * i, 0, 16, 1⟩
def UL_LANE_STATUS.am_lock (i : Nat) : Fld := ⟨0xA0000400 + 0x4 * i, 31, 1, 0⟩
def UL_LANE_STATUS.signal (i : Nat) : Fld := ⟨0xA0000400 + 0x4 * i, 30, 1, 0⟩
def UL_LANE_STATUS.slice_ok (i : Nat) : Fld := ⟨0xA0000400 + 0x4 * i, 29, 1, 0⟩
def UL_LANE_STATUS.skew_ns (i : Nat) : Fld := ⟨0xA0000400 + 0x4 * i, 16, 8, 0⟩
def UL_LANE_STATUS.pcs_lane (i : Nat) : Fld := ⟨0xA0000400 + 0x4 * i, 8, 8, 0⟩
def UL_SIDE_STATUS.b_down : Fld := ⟨0xA0000500, 1, 1, 1⟩
def UL_SIDE_STATUS.a_down : Fld := ⟨0xA0000500, 0, 1, 1⟩
def UL_FEC_CORR.count (i : Nat) : Fld := ⟨0xA0000040 + 0x100 * i, 0, 64, 0⟩
def UL_FEC_UNCORR.count (i : Nat) : Fld := ⟨0xA0000048 + 0x100 * i, 0, 64, 0⟩
def UL_LINK_DOWN_CNT.count (i : Nat) : Fld := ⟨0xA0000050 + 0x100 * i, 0, 32, 0⟩
def UL_SWAP_CNT.count (i : Nat) : Fld := ⟨0xA0000054 + 0x100 * i, 0, 32, 0⟩
def UL_GATE_OVERRUN_CNT.count (i : Nat) : Fld := ⟨0xA0000058 + 0x100 * i, 0, 32, 0⟩
def UL_RX_RESET_DROP_CNT.count (i : Nat) : Fld := ⟨0xA000005C + 0x100 * i, 0, 32, 0⟩
def BENCH_CFG.en (i : Nat) : Fld := ⟨0xA0004000 + 0x20 * i, 31, 1, 0⟩
def BENCH_CFG.loop (i : Nat) : Fld := ⟨0xA0004000 + 0x20 * i, 28, 2, 0⟩
def BENCH_CFG.pattern (i : Nat) : Fld := ⟨0xA0004000 + 0x20 * i, 24, 4, 0⟩
def BENCH_CFG.gen_en (i : Nat) : Fld := ⟨0xA0004000 + 0x20 * i, 23, 1, 0⟩
def BENCH_CFG.chk_en (i : Nat) : Fld := ⟨0xA0004000 + 0x20 * i, 22, 1, 0⟩
def BENCH_CFG.inj_exp (i : Nat) : Fld := ⟨0xA0004000 + 0x20 * i, 16, 6, 0⟩
def BENCH_CTRL.clear (i : Nat) : Fld := ⟨0xA0004004 + 0x20 * i, 1, 1, 0⟩
def BENCH_CTRL.inject (i : Nat) : Fld := ⟨0xA0004004 + 0x20 * i, 0, 1, 0⟩
def BENCH_STATUS.locked (i : Nat) : Fld := ⟨0xA0004008 + 0x20 * i, 31, 1, 0⟩
def BENCH_STATUS.refused (i : Nat) : Fld := ⟨0xA0004008 + 0x20 * i, 30, 1, 0⟩
def BENCH_STATUS.ended (i : Nat) : Fld := ⟨0xA0004008 + 0x20 * i, 29, 1, 0⟩
def BENCH_STATUS.lock_loss (i : Nat) : Fld := ⟨0xA0004008 + 0x20 * i, 0, 16, 0⟩
def BENCH_BITS.count (i : Nat) : Fld := ⟨0xA000400C + 0x20 * i, 0, 64, 0⟩
def BENCH_ERR.count (i : Nat) : Fld := ⟨0xA0004014 + 0x20 * i, 0, 64, 0⟩
def BENCH_USER.pattern : Fld := ⟨0xA0004F00, 0, 64, 0⟩
def LM_CTRL.swap_go : Fld := ⟨0xB0000000, 31, 1, 0⟩
def LM_CTRL.swap_lane : Fld := ⟨0xB0000000, 24, 3, 0⟩
def LM_CTRL.retrain : Fld := ⟨0xB0000000, 0, 1, 0⟩
def LM_STATUS.state : Fld := ⟨0xB0000004, 29, 3, 0⟩
def LM_STATUS.tx_width : Fld := ⟨0xB0000004, 27, 2, 0⟩
def LM_STATUS.rx_width : Fld := ⟨0xB0000004, 25, 2, 0⟩
def LM_STATUS.swap_active : Fld := ⟨0xB0000004, 24, 1, 0⟩
def LM_STATUS.tx_unacked : Fld := ⟨0xB0000004, 0, 12, 0⟩
def LM_EVENT.replay_fail : Fld := ⟨0xB0000008, 4, 1, 0⟩
def LM_EVENT.width_cut : Fld := ⟨0xB0000008, 3, 1, 0⟩
def LM_EVENT.swap_done : Fld := ⟨0xB0000008, 2, 1, 0⟩
def LM_EVENT.link_up : Fld := ⟨0xB0000008, 1, 1, 0⟩
def LM_EVENT.link_down : Fld := ⟨0xB0000008, 0, 1, 0⟩
def LM_TX_MAP.retired : Fld := ⟨0xB000000C, 15, 5, 0⟩
def LM_TX_MAP.spare : Fld := ⟨0xB000000C, 12, 3, 4⟩
/-- LM_TX_MAP (R454). -/
def LM_TX_MAP.lane (k : Nat) : Fld := ⟨0xB000000C, 3 * k, 3, k⟩
def LM_RX_MAP.retired : Fld := ⟨0xB0000010, 15, 5, 0⟩
def LM_RX_MAP.spare : Fld := ⟨0xB0000010, 12, 3, 7⟩
/-- LM_RX_MAP (R454). -/
def LM_RX_MAP.lane (k : Nat) : Fld := ⟨0xB0000010, 3 * k, 3, 7⟩
def LM_INT_CFG.resend_us : Fld := ⟨0xB0000014, 0, 16, 100⟩
def LM_HRX_BASE.base : Fld := ⟨0xB0000018, 0, 37, 0⟩
def LM_HRX_SIZE.value : Fld := ⟨0xB0000020, 0, 13, 0x10⟩
def LM_HRX_PROD.value : Fld := ⟨0xB0000024, 0, 13, 0⟩
def LM_HRX_CONS.value : Fld := ⟨0xB0000028, 0, 13, 0⟩
def LM_CREDIT.tx_avail (i : Nat) : Fld := ⟨0xB0000040 + 0x4 * i, 16, 16, 0⟩
def LM_CREDIT.rx_size (i : Nat) : Fld := ⟨0xB0000040 + 0x4 * i, 0, 16, ([64, 1024, 2048, 0].getD i 0)⟩
def LM_LANE_STATUS.signal (i : Nat) : Fld := ⟨0xB0000060 + 0x4 * i, 31, 1, 0⟩
def LM_LANE_STATUS.lock (i : Nat) : Fld := ⟨0xB0000060 + 0x4 * i, 30, 1, 0⟩
def LM_LANE_STATUS.tx_use (i : Nat) : Fld := ⟨0xB0000060 + 0x4 * i, 29, 1, 0⟩
def LM_LANE_STATUS.rx_use (i : Nat) : Fld := ⟨0xB0000060 + 0x4 * i, 28, 1, 0⟩
def LM_LANE_STATUS.rx_logical (i : Nat) : Fld := ⟨0xB0000060 + 0x4 * i, 20, 4, 15⟩
def LM_LANE_STATUS.skew_ns (i : Nat) : Fld := ⟨0xB0000060 + 0x4 * i, 0, 8, 0⟩
def LM_DOWN_CNT.count : Fld := ⟨0xB0000100, 0, 32, 0⟩
def LM_TRAIN_FAIL_CNT.count : Fld := ⟨0xB0000104, 0, 32, 0⟩
def LM_CRC_ERR_CNT.count : Fld := ⟨0xB0000108, 0, 32, 0⟩
def LM_REPLAY_CNT.count : Fld := ⟨0xB000010C, 0, 32, 0⟩
def LM_BLOCK_ERR_CNT.count : Fld := ⟨0xB0000110, 0, 32, 0⟩
def LM_MSG_BAD_CNT.count : Fld := ⟨0xB0000114, 0, 32, 0⟩
def LM_EXC_BAD_CNT.count : Fld := ⟨0xB0000118, 0, 32, 0⟩
def LM_SWAP_CNT.count : Fld := ⟨0xB000011C, 0, 32, 0⟩
def LM_LANE_BIP_CNT.count (i : Nat) : Fld := ⟨0xB0000140 + 0x4 * i, 0, 32, 0⟩
def WP_CFG.wake_en : Fld := ⟨0xB0008000, 31, 1, 1⟩
def WP_CFG.wake_addr : Fld := ⟨0xB0008000, 8, 7, Config.strapWakeAddr⟩
def WP_CFG.mgmt_addr : Fld := ⟨0xB0008000, 0, 7, Config.strapMgmtAddr⟩
def WP_ALERT.sources : Fld := ⟨0xB0008008, 0, 3, 0⟩
def WP_ALERT_MASK.sources : Fld := ⟨0xB000800C, 0, 3, 7⟩
def WP_WAKE_CNT.count : Fld := ⟨0xB0008100, 0, 32, 0⟩
def WP_PEC_ERR_CNT.count : Fld := ⟨0xB0008104, 0, 32, 0⟩
def WP_CMD_ERR_CNT.count : Fld := ⟨0xB0008108, 0, 32, 0⟩
def CLK_SRC_CFG.wait_s : Fld := ⟨0xC0000000, 16, 12, 10⟩
def CLK_SRC_CFG.xtal_keep : Fld := ⟨0xC0000000, 13, 1, 1⟩
def CLK_SRC_CFG.revertive : Fld := ⟨0xC0000000, 12, 1, 0⟩
def CLK_SRC_CFG.manual : Fld := ⟨0xC0000000, 11, 1, 0⟩
def CLK_SRC_CFG.manual_sel : Fld := ⟨0xC0000000, 9, 2, 0⟩
def CLK_SRC_CFG.prio2 : Fld := ⟨0xC0000000, 4, 2, 2⟩
def CLK_SRC_CFG.prio1 : Fld := ⟨0xC0000000, 2, 2, 1⟩
def CLK_SRC_CFG.prio0 : Fld := ⟨0xC0000000, 0, 2, 0⟩
def CLK_REF_CFG.bw : Fld := ⟨0xC0000004, 8, 3, 1⟩
def CLK_REF_CFG.refb_en : Fld := ⟨0xC0000004, 5, 1, 0⟩
def CLK_REF_CFG.refa_en : Fld := ⟨0xC0000004, 4, 1, 0⟩
def CLK_REF_CFG.refb_freq : Fld := ⟨0xC0000004, 1, 1, 0⟩
def CLK_REF_CFG.refa_freq : Fld := ⟨0xC0000004, 0, 1, 0⟩
def CLK_MON_CFG.thr : Fld := ⟨0xC0000008, 0, 16, 100⟩
def CLK_TRIM_CFG.auto : Fld := ⟨0xC000000C, 2, 1, 1⟩
def CLK_TRIM_CFG.src : Fld := ⟨0xC000000C, 0, 2, 0⟩
def CLK_STATUS.hpll_lock : Fld := ⟨0xC0000010, 26, 4, 0⟩
def CLK_STATUS.cpll_lock : Fld := ⟨0xC0000010, 25, 1, 0⟩
def CLK_STATUS.trim_locked : Fld := ⟨0xC0000010, 24, 1, 0⟩
def CLK_STATUS.trim_code : Fld := ⟨0xC0000010, 12, 12, 2048⟩
def CLK_STATUS.qual : Fld := ⟨0xC0000010, 8, 3, 0⟩
def CLK_STATUS.active : Fld := ⟨0xC0000010, 4, 2, 3⟩
def CLK_STATUS.spll_state : Fld := ⟨0xC0000010, 0, 3, 5⟩
def CLK_EVENT.relock_fail : Fld := ⟨0xC0000014, 6, 1, 0⟩
def CLK_EVENT.trim_lost : Fld := ⟨0xC0000014, 5, 1, 0⟩
def CLK_EVENT.holdover : Fld := ⟨0xC0000014, 4, 1, 0⟩
def CLK_EVENT.switched : Fld := ⟨0xC0000014, 3, 1, 0⟩
def CLK_EVENT.mon_xtal : Fld := ⟨0xC0000014, 2, 1, 0⟩
def CLK_EVENT.mon_refb : Fld := ⟨0xC0000014, 1, 1, 0⟩
def CLK_EVENT.mon_refa : Fld := ⟨0xC0000014, 0, 1, 0⟩
def CLK_HOLDOVER.active : Fld := ⟨0xC0000018, 31, 1, 0⟩
def CLK_HOLDOVER.seconds : Fld := ⟨0xC0000018, 0, 24, 0⟩
def CLK_FREQ_OFFS.offs (i : Nat) : Fld := ⟨0xC0000020 + 0x4 * i, 0, 16, 0⟩
def CLK_ISL_STATUS.feed (i : Nat) : Fld := ⟨0xC0000040 + 0x4 * i, 17, 2, (Config.islandFeed i)⟩
def CLK_ISL_STATUS.ramping (i : Nat) : Fld := ⟨0xC0000040 + 0x4 * i, 16, 1, 0⟩
def CLK_ISL_STATUS.div (i : Nat) : Fld := ⟨0xC0000040 + 0x4 * i, 0, 9, 0⟩
def CLK_SWITCH_CNT.count : Fld := ⟨0xC0000100, 0, 32, 0⟩
def CLK_HOLDOVER_CNT.count : Fld := ⟨0xC0000104, 0, 32, 0⟩
def CLK_MON_TRIP_CNT.count : Fld := ⟨0xC0000108, 0, 32, 0⟩
def CLK_STAB_FAIL_CNT.count : Fld := ⟨0xC000010C, 0, 32, 0⟩
def CLK_RELOCK_FAIL_CNT.count : Fld := ⟨0xC0000110, 0, 32, 0⟩
def PWR_CTRL.standby : Fld := ⟨0xC0008000, 0, 1, 0⟩
def PWR_STATUS.sup_ok : Fld := ⟨0xC0008004, 7, 1, 0⟩
def PWR_STATUS.feed_b_ok : Fld := ⟨0xC0008004, 6, 1, 0⟩
def PWR_STATUS.feed_a_ok : Fld := ⟨0xC0008004, 5, 1, 0⟩
def PWR_STATUS.state : Fld := ⟨0xC0008004, 0, 3, 0⟩
def PWR_EVENT.wake_done : Fld := ⟨0xC0008008, 10, 1, 0⟩
def PWR_EVENT.stby_abort : Fld := ⟨0xC0008008, 9, 1, 0⟩
def PWR_EVENT.stby_refused : Fld := ⟨0xC0008008, 8, 1, 0⟩
def PWR_EVENT.rail_fault : Fld := ⟨0xC0008008, 7, 1, 0⟩
def PWR_EVENT.sup_fail : Fld := ⟨0xC0008008, 6, 1, 0⟩
def PWR_EVENT.shed : Fld := ⟨0xC0008008, 5, 1, 0⟩
def PWR_EVENT.phase_lost : Fld := ⟨0xC0008008, 4, 1, 0⟩
def PWR_EVENT.feed_ov : Fld := ⟨0xC0008008, 3, 1, 0⟩
def PWR_EVENT.feed_b_lost : Fld := ⟨0xC0008008, 2, 1, 0⟩
def PWR_EVENT.feed_a_lost : Fld := ⟨0xC0008008, 1, 1, 0⟩
def PWR_FEED.vin_b_mv : Fld := ⟨0xC000800C, 16, 16, 0⟩
def PWR_FEED.vin_a_mv : Fld := ⟨0xC000800C, 0, 16, 0⟩
def PWR_BUDGET.cap_dw : Fld := ⟨0xC0008010, 16, 16, 1720⟩
def PWR_BUDGET.est_dw : Fld := ⟨0xC0008010, 0, 16, 0⟩
def PWR_BUDGET_CFG.base_dw : Fld := ⟨0xC0008014, 16, 16, 920⟩
def PWR_BUDGET_CFG.t50_dw : Fld := ⟨0xC0008014, 8, 8, 25⟩
def PWR_BUDGET_CFG.txgs_dw : Fld := ⟨0xC0008014, 0, 8, 12⟩
def PWR_PHASE.in_service : Fld := ⟨0xC0008018, 24, 5, 22⟩
def PWR_PHASE.retired : Fld := ⟨0xC0008018, 0, 24, 0⟩
def PWR_SUP_CFG.en : Fld := ⟨0xC0008020, 31, 1, 0⟩
def PWR_SUP_CFG.addr : Fld := ⟨0xC0008020, 24, 7, 16⟩
def PWR_SUP_CFG.thr_w : Fld := ⟨0xC0008020, 16, 8, 140⟩
def PWR_SUP_CFG.v_high : Fld := ⟨0xC0008020, 8, 8, 120⟩
def PWR_SUP_CFG.v_low : Fld := ⟨0xC0008020, 0, 8, 120⟩
def PWR_SUP_STATUS.result : Fld := ⟨0xC0008024, 30, 2, 0⟩
def PWR_SUP_STATUS.vout_mv : Fld := ⟨0xC0008024, 16, 14, 0⟩
def PWR_SUP_STATUS.setpoint : Fld := ⟨0xC0008024, 0, 8, 0⟩
def PWR_STBY_CFG.drain_ms : Fld := ⟨0xC0008028, 0, 8, 10⟩
def PWR_WAKE_CFG.sources : Fld := ⟨0xC000802C, 0, 4, 9⟩
def PWR_WAKE_SRC.sources : Fld := ⟨0xC0008030, 0, 4, 0⟩
def PWR_WAKE_FAIL.failed : Fld := ⟨0xC0008034, 31, 1, 0⟩
def PWR_WAKE_FAIL.cause : Fld := ⟨0xC0008034, 0, 8, 0⟩
def MGT_RET_FAIL.banks (i : Nat) : Fld := ⟨0x500 + 0x4 * i, 0, 32, 0⟩
def PWR_FEED_LOSS_CNT.count : Fld := ⟨0xC0008100, 0, 32, 0⟩
def PWR_SHED_CNT.count : Fld := ⟨0xC0008104, 0, 32, 0⟩
def PWR_SUP_FAIL_CNT.count : Fld := ⟨0xC0008108, 0, 32, 0⟩
def PWR_STBY_CNT.count : Fld := ⟨0xC000810C, 0, 32, 0⟩
def PWR_WAKE_CNT.count : Fld := ⟨0xC0008110, 0, 32, 0⟩
def PWR_WAKE_FAIL_CNT.count : Fld := ⟨0xC0008114, 0, 32, 0⟩
def POL_WQ_BASE.base : Fld := ⟨0xD0008020, 0, 37, 0⟩
def POL_RX_BASE.base : Fld := ⟨0xD0008028, 0, 37, 0⟩
def POL_TX_BASE.base : Fld := ⟨0xD0008030, 0, 37, 0⟩
def POL_RING_CFG.tx_size : Fld := ⟨0xD0008038, 16, 13, 16⟩
def POL_RING_CFG.rx_size : Fld := ⟨0xD0008038, 0, 13, 16⟩
def POL_WQ_TAKE.valid (i : Nat) : Fld := ⟨0xD0008080 + 0x4 * i, 31, 1, 0⟩
def POL_WQ_TAKE.index (i : Nat) : Fld := ⟨0xD0008080 + 0x4 * i, 0, 12, 0⟩
def POL_WQ_DONE.index (i : Nat) : Fld := ⟨0xD00080C0 + 0x4 * i, 0, 12, 0⟩
def POL_WQ_PROD.index (i : Nat) : Fld := ⟨0xD0008140 + 0x4 * i, 0, 12, 0⟩
def POL_RX_PROD.index (i : Nat) : Fld := ⟨0xD0008180 + 0x4 * i, 0, 13, 0⟩
def POL_RX_CONS.index (i : Nat) : Fld := ⟨0xD00081C0 + 0x4 * i, 0, 13, 0⟩
def POL_TX_PROD.index (i j : Nat) : Fld := ⟨0xD0008200 + 0x10 * i + 0x4 * j, 0, 13, 0⟩
def POL_TX_CONS.index (i j : Nat) : Fld := ⟨0xD0008300 + 0x10 * i + 0x4 * j, 0, 13, 0⟩
def POL_AGE.limit_us (i : Nat) : Fld := ⟨0xD0008404 + 0x4 * i, 0, 24, ([0x3E80, 0x186A0, 0xF4240, 0x186A0, 0xF4240, 0xF4240].getD i 0)⟩
def POL_WQ_AGED_CNT.count : Fld := ⟨0xD0008104, 0, 32, 0⟩
def POL_WQ_FULL_CNT.count : Fld := ⟨0xD0008108, 0, 32, 0⟩
def POL_TX_BAD_CNT.count : Fld := ⟨0xD000810C, 0, 32, 0⟩
def MGT_IDENTITY.part : Fld := ⟨0x0, 16, 16, 3250⟩
def MGT_IDENTITY.vendor : Fld := ⟨0x0, 8, 8, 90⟩
def MGT_IDENTITY.rev : Fld := ⟨0x0, 0, 4, 1⟩
def REL_EVENT.tlog_wrap : Fld := ⟨0xD0000000, 7, 1, 0⟩
def REL_EVENT.wear : Fld := ⟨0xD0000000, 6, 1, 0⟩
def REL_EVENT.exhausted : Fld := ⟨0xD0000000, 5, 1, 0⟩
def REL_EVENT.swap_done : Fld := ⟨0xD0000000, 4, 1, 0⟩
def REL_EVENT.swap_req : Fld := ⟨0xD0000000, 3, 1, 0⟩
def REL_EVENT.ue : Fld := ⟨0xD0000000, 2, 1, 0⟩
def REL_EVENT.parity : Fld := ⟨0xD0000000, 1, 1, 0⟩
def REL_SWAP_CMD.go : Fld := ⟨0xD0000004, 31, 1, 0⟩
def REL_SWAP_CMD.op : Fld := ⟨0xD0000004, 24, 4, 0⟩
def REL_SWAP_CMD.class_ : Fld := ⟨0xD0000004, 20, 4, 0⟩
def REL_SWAP_CMD.part : Fld := ⟨0xD0000004, 0, 12, 0⟩
def REL_SPARE.pending_part (i : Nat) : Fld := ⟨0xD0000024 + 0x4 * i, 20, 12, 0⟩
def REL_SPARE.pending (i : Nat) : Fld := ⟨0xD0000024 + 0x4 * i, 16, 1, 0⟩
def REL_SPARE.initial (i : Nat) : Fld := ⟨0xD0000024 + 0x4 * i, 8, 8, (Config.sparesInitial (i + 1))⟩
def REL_SPARE.remaining (i : Nat) : Fld := ⟨0xD0000024 + 0x4 * i, 0, 8, (Config.sparesInitial (i + 1))⟩
def REL_CE_CFG.scrub_h : Fld := ⟨0xD0000008, 24, 8, 24⟩
def REL_CE_CFG.threshold : Fld := ⟨0xD0000008, 16, 8, 16⟩
def REL_CE_CFG.leak_ms : Fld := ⟨0xD0000008, 0, 16, 1000⟩
def REL_CE_SUMMARY.value : Fld := ⟨0xD000000C, 0, 32, 0⟩
def REL_CE_LEVEL.value (i : Nat) : Fld := ⟨0xD0000100 + 0x4 * i, 0, 32, 0⟩
def REL_UE_LAST.last : Fld := ⟨0xD0000010, 0, 32, 0⟩
def REL_PARITY_LAST.last : Fld := ⟨0xD0000014, 0, 32, 0⟩
def REL_TLOG_HEAD.wrapped : Fld := ⟨0xD0000018, 7, 1, 0⟩
def REL_TLOG_HEAD.head : Fld := ⟨0xD0000018, 0, 6, 0⟩
def REL_TLOG_CTRL.clear : Fld := ⟨0xD000001C, 6, 1, 0⟩
def REL_DIE_ID.id (i : Nat) : Fld := ⟨0xD0000060 + 0x8 * i, 0, 64, (Config.dieId i).toNat⟩
def REL_HBM_ID.id (i : Nat) : Fld := ⟨0xD0000080 + 0x8 * i, 0, 64, (Config.hbmId i).toNat⟩
def REL_SLICE_MAP.bound (i j : Nat) : Fld := ⟨0xD0000200 + 0x80 * i + 0x4 * j, 6, 1, 1⟩
def REL_SLICE_MAP.slice (i j : Nat) : Fld := ⟨0xD0000200 + 0x80 * i + 0x4 * j, 0, 6, j⟩
def REL_WEAR.state (i : Nat) : Fld := ⟨0xD0002000 + 0x4 * i, 30, 2, (Config.wearState i)⟩
def REL_WEAR.wear_pct (i : Nat) : Fld := ⟨0xD0002000 + 0x4 * i, 0, 7, 0⟩
def REL_CE_CNT.count : Fld := ⟨0xD0000300, 0, 32, 0⟩
def REL_UE_CNT.count : Fld := ⟨0xD0000304, 0, 32, 0⟩
def REL_PARITY_CNT.count : Fld := ⟨0xD0000308, 0, 32, 0⟩
def REL_POISON_RD_CNT.count : Fld := ⟨0xD000030C, 0, 32, 0⟩
def REL_SWAP_CNT.count : Fld := ⟨0xD0000310, 0, 32, 0⟩
def POL_FW_CTRL.load : Fld := ⟨0xD0008000, 0, 1, 0⟩
def POL_FW_STATUS.svn : Fld := ⟨0xD0008004, 24, 8, 0⟩
def POL_FW_STATUS.error : Fld := ⟨0xD0008004, 16, 8, 0⟩
def POL_FW_STATUS.running : Fld := ⟨0xD0008004, 1, 1, 0⟩
def POL_FW_STATUS.busy : Fld := ⟨0xD0008004, 0, 1, 0⟩
def POL_FW_BASE.value : Fld := ⟨0xD0008008, 0, 37, 0⟩
def POL_FW_LEN.value : Fld := ⟨0xD0008010, 0, 32, 0⟩
def POL_CFG.wdog_ms : Fld := ⟨0xD0008014, 0, 16, 100⟩
def POL_CORE.state (i : Nat) : Fld := ⟨0xD0008040 + 0x4 * i, 30, 2, (if i < 8 then 0 else 1)⟩
def POL_CORE.last_reason (i : Nat) : Fld := ⟨0xD0008040 + 0x4 * i, 4, 4, 0⟩
def POL_CORE.crashes (i : Nat) : Fld := ⟨0xD0008040 + 0x4 * i, 0, 4, 0⟩
def POL_CRASH_CNT.count : Fld := ⟨0xD0008100, 0, 32, 0⟩
def MGT_INT_SUMMARY.blocks : Fld := ⟨0x600, 0, 23, 0⟩
def MGT_INT_HOST_MASK.blocks : Fld := ⟨0x604, 0, 23, 0⟩
def MGT_INT_POL_MASK.blocks : Fld := ⟨0x608, 0, 23, 0⟩
def MGT_INT_TREE.trees : Fld := ⟨0x60C, 0, 32, 0⟩
def MGT_UNMAPPED_LAST.last : Fld := ⟨0x610, 0, 44, 0⟩
def MGT_UNMAPPED_CNT.count : Fld := ⟨0x618, 0, 32, 0⟩
def MGT_INT_AUX.fw_load_failed : Fld := ⟨0x61C, 2, 1, 0⟩
def MGT_INT_AUX.fw_load_done : Fld := ⟨0x61C, 1, 1, 0⟩
def MGT_INT_AUX.pol_crash : Fld := ⟨0x61C, 0, 1, 0⟩

end Sys2Proof.Machine
end

