-- ==== Sys2Proof/Machine/State.lean ====
section
/-! DEFINITION. The state of the device as plain data. The register fields of the register index are held once, in
`State.fld`; memory behind the table windows, the HBM window and the staging window is held in `State.mem`; everything the
spec gives the device that no register or window shows lies in the structures below, one per chapter of the spec. -/

namespace Sys2Proof.Machine

/-- The steps of an island reset (R36). -/
inductive RstStep where
  | none | fence | assert | restore | rejoin
  deriving DecidableEq, Repr

/-- What MGT and island n keep of an island beside its registers: the reset sequence (R36), a gate request that is open or waits for a ramp (R465)
(R42), and the summary bits held since Fence, of a tree island those of its four trees (R524). MGT_ISLAND_STATE holds the state the registers show; `off` tells
Off from Failed where it reads 0b11. `stoppedNs` is the local count at the latest Fence, when the streams of the island stop. -/
structure IslSt where
  step : RstStep := .none
  retried : Bool := false
  off : Bool := true
  gateReq : Bool := false
  gateWaits : Bool := false
  heldSummary : BitVec 23 := 0
  stoppedNs : Nat := 0
  deriving DecidableEq, Repr


/-- An ingress stamp (R387): the time of day and the local count in units of 2^-16 ns. -/
structure Stamp where
  tod : Nat
  loc : Nat
  deriving DecidableEq, Repr

/-- A change of the poison marks of stored words (R497): from `lo` up to `hi`, poison or written again. The latest mark that
covers an address says whether it is poison. -/
structure PoisonMark where
  lo : Nat
  hi : Nat
  bad : Bool
  deriving DecidableEq, Repr

/-- The SIL's load sequence (R68). -/
inductive SilStep where
  | idle | parse | verify | check | apply
  deriving DecidableEq, Repr

/-- One TREE Drawer entry (R56). -/
structure TreeEntry where
  enabled : Bool := false
  mode : BitVec 3 := 0
  usRate : BitVec 2 := 0
  dozeEn : Bool := false
  maxReachKm : Nat := 0
  diffReachKm : Nat := 0
  deriving DecidableEq, Repr

/-- One FLOW Drawer partition entry (R58). -/
structure FlowPart where
  first : Nat
  count : Nat
  tenant : Nat
  kind : Nat
  target : Nat
  privileged : Bool
  slice : Nat
  deriving DecidableEq, Repr

/-- One port of the LANE Drawer (R57). -/
structure PortLanes where
  mode : Nat := 0
  base : Nat := 0
  deriving DecidableEq, Repr

/-- The two trunk records of one ASYM entry (R63), the asymmetries in picoseconds and the lengths in metres. -/
structure Asym where
  ps0 : Int := 0
  len0 : Nat := 0
  ps1 : Int := 0
  len1 : Nat := 0
  deriving DecidableEq, Repr

/-- One class record of the SPARE Drawer (R65). -/
structure SpareClass where
  swapMode : Nat := 1
  wearThr : Nat := 100
  deriving DecidableEq, Repr

/-- The structure in force: what the applied Drawers built (R55 to R65). -/
structure Structure where
  trees : List (Nat × TreeEntry) := []
  ports : List (Nat × PortLanes) := []
  ulTxPol : BitVec 32 := 0
  ulRxPol : BitVec 32 := 0
  ptxPol : BitVec 32 := 0
  prxPol : BitVec 32 := 0
  flows : List FlowPart := []
  tableMib : Nat := 0
  shelfCount : List (Nat × Nat) := []
  recirc : List (Nat × Nat) := []
  tenantMin : List (Nat × Nat) := []
  clockKhz : List (Nat × Nat) := []
  privTrees : BitVec 32 := 0
  mirrorCore : Nat := 0
  keymode : List (Nat × Nat) := []
  asym : List (Nat × Asym) := []
  shed : List Nat := []
  activeCores : Nat := 8
  spare : List (Nat × SpareClass) := []
  deriving DecidableEq, Repr

/-- The Structure Image loader in island 0 (R47, R68 to R77), beside its registers, and the fuses it can change. -/
structure Sil where
  step : SilStep := .idle
  applyRetried : Bool := false
  unstructPending : Bool := false
  wasStructured : Bool := false
  treeHeld : BitVec 32 := 0
  deferredSwaps : List (Nat × Nat) := []
  running : Structure := {}
  deriving DecidableEq, Repr


/-- The step of a tree's Dark-to-Lit (R101) or Lit-to-Dark (R102) sequence. -/
inductive TreeStep where
  | none | power | laser | sync | stop | drain
  deriving DecidableEq, Repr

/-- One tree-layer key slot (R105, R106): the key and the SFC at which it was written. -/
structure KeySlot where
  valid : Bool := false
  sfc : Nat := 0
  key : BitVec 128 := 0
  deriving DecidableEq, Repr

/-- A scheduled downstream key switch (R107). -/
structure KeySwitch where
  bcast : Bool
  onu : Nat
  index : Nat
  target : Nat
  deriving DecidableEq, Repr

/-- One reassembly context (R88). -/
structure Reasm where
  onu : Nat
  port : Nat
  octets : List (BitVec 8)
  deriving DecidableEq, Repr

/-- A downstream PLOAM message waiting for its partition (R117): the destination ONU-ID (0x3FF for all), the message
type, its content where the spec gives it, and the message integrity check (R116). -/
structure Ploam where
  onu : Nat
  kind : PloamKind
  arg : Int := 0
  body : List (BitVec 8) := []
  mic : BitVec 64 := 0
  deriving DecidableEq, Repr

/-- The settings that a PRX lane receives a burst with (R213, R214); `seed` is none where no CDR seed is used. -/
structure LaneSet where
  ctle : BitVec 4 := 0
  ffePre : BitVec 6 := 0
  ffePost : BitVec 6 := 0
  dfe1 : BitVec 6 := 0
  thresh : BitVec 8 := 0
  seed : Option (BitVec 7) := none
  deriving DecidableEq, Repr

/-- One queued calibration request (R222): the tree frame count at its start and whether it was counted late. -/
structure CalReq where
  tree : Nat
  onu : Nat
  since : Nat
  late : Bool := false
  deriving DecidableEq, Repr

/-- The Fallback Map of one tree (R188, R189): the copy in use. -/
structure Fallback where
  crc : BitVec 32 := 0
  generation : Nat := 0
  sent : Nat := 0
  omitted : Nat := 0
  entries : List (BitVec 64) := []
  deriving DecidableEq, Repr

/-- The purpose of one granted upstream burst. -/
inductive BurstKind where
  | data | serial | ranging | inService | empty
  deriving DecidableEq, Repr

/-- One burst expected from a serialised map (R91, R94): the terminal, the allocations granted with their octets, the
profile, the start in the upstream frame and the size in octets, the lane settings, and, of a calibration burst, that it is one and the
request it serves. -/
structure Burst where
  mapK : Nat
  onu : Nat
  kind : BurstKind
  allocs : List (Nat × Nat)
  profile : Nat
  fec : Bool
  start : Nat
  octets : Nat
  calibration : Bool := false
  lane : LaneSet := {}
  req : Option CalReq := none
  deriving DecidableEq, Repr

/-- A part of the payload of a downstream tree frame (R83): an XGEM frame, with the XGEM port ID, the key index, LF and the payload
octets as they leave, or a gap in octets, which idle XGEM frames fill. -/
inductive FramePart where
  | xgem (port keyIdx : Nat) (last : Bool) (payload : List (BitVec 8))
  | idle (octets : Nat)
  deriving DecidableEq, Repr

/-- A downstream tree frame (R81): the sequencer's physical synchronisation block with the SFC it carries, whether the sequencer
supplies the whole content (R89), the bursts that the bandwidth map allocates, the PLOAM messages, and the payload as far as it has
been handed over. -/
structure TreeFrame where
  k : Nat := 0
  sfc : Nat := 0
  block : List (BitVec 8) := []
  fill : Bool := false
  map : List Burst := []
  ploam : List Ploam := []
  payload : List FramePart := []
  deriving DecidableEq, Repr

/-- What a Tree Engine and its Continuity Sequencer keep beside the tree's registers, records and tables: `frame` is the tree frame that
leaves and `lastFrame` the one before it, `payTotal` and `payLeft` the payload octets of the first and those not yet used,
`bankCheck` says that the retention banks are still to be checked after Doze (R103), `lane` is what the PRX lane was last loaded with
(R214), `fbSealed` the Fallback Map that a seal called for, with its map number (R191), and `quietDue` a quiet window whose map was
withdrawn (R142). -/
structure TreeSt where
  step : TreeStep := .none
  powerRetried : Bool := false
  laserOn : Bool := false
  darkDeferred : Bool := false
  sfcLoadPending : Bool := false
  bufferDry : Bool := false
  fillNext : Bool := false
  fillCounted : Bool := false
  dozeDisc : Bool := false
  ukeys : List (Nat × KeySlot) := []
  bkeys : List (Nat × KeySlot) := []
  uInUse : List (Nat × Nat) := []
  bInUse : Nat := 0
  switches : List KeySwitch := []
  reasm : List Reasm := []
  payTotal : Nat := 0
  payLeft : Nat := 0
  frame : TreeFrame := {}
  lastFrame : TreeFrame := {}
  bankCheck : Bool := false
  lane : LaneSet := {}
  fbSealed : Option (Nat × Fallback) := none
  quietDue : Bool := false
  hwPloam : List Ploam := []
  fwPloam : List Ploam := []
  expected : List Burst := []
  disabledSn : List (BitVec 64) := []
  deriving DecidableEq, Repr


/-- The states of a terminal context (R114). -/
inductive TermState where
  | free | acquired | ranging | ranged | operation | held | quarantine
  deriving DecidableEq, Repr

/-- The step of the ranging sequence of one terminal (R126). -/
inductive RngStep where
  | none | place | range | equalise | approve
  deriving DecidableEq, Repr

/-- One terminal context: the terminal bank and the ranging bank that the record of R144 shows, and what the device keeps
of the terminal beside the record (R126, R128, R129, R132); `acks` counts the Ranging_Time messages that no Acknowledgement has
answered. -/
structure Term where
  serial : BitVec 64 := 0
  state : TermState := .free
  lastCause : Nat := 0
  rtd : Nat := 0
  eqd : Nat := 0
  drift : Int := 0
  unknown : Bool := false
  step : RngStep := .none
  retries : Nat := 0
  resent : Bool := false
  offsets : List Int := []
  correcting : Bool := false
  acks : Nat := 0
  holdFrames : Nat := 0
  misses : Nat := 0
  inService : Bool := false
  isTries : Nat := 0
  respNs : Nat := 0
  deriving DecidableEq, Repr

/-- A silence in a tree's upstream: the quiet window of an acquisition cycle (R119) or the ranging window of one terminal
(R124), or the silence of a slice swap (R508), in nanoseconds of the local count at the upstream receiver. `mapK` is the map that
carries its grant, and `zNs` is z of that grant. -/
structure Window where
  onu : Option Nat
  startNs : Nat
  lenNs : Nat
  mapK : Nat
  silent : Bool := false
  serialised : Bool := false
  zNs : Nat := 0
  deriving DecidableEq, Repr


/-- One allocation context (R145): the committed words 0 to 2, the shadows of words 1 and 2 (R146), the fields of word 3, and
what idle-fill monitoring (R153) and the digest of R176 keep. -/
structure Alloc where
  w0 : BitVec 64 := 0
  w1 : BitVec 64 := 0
  w2 : BitVec 64 := 0
  s1 : BitVec 64 := 0
  s2 : BitVec 64 := 0
  lastGrant : Nat := 0
  report : Nat := 0
  reportMap : Nat := 0
  age : Nat := 0
  outstanding : Nat := 0
  lastRx : Option (Nat × Nat) := none
  granted : Nat := 0
  idle : Nat := 0
  deriving DecidableEq, Repr

/-- One record of the AGR store (R158, R161), its window in nanoseconds of the time of day. -/
structure AgrRec where
  tree : Nat
  onu : Nat
  alloc : Nat
  startNs : Nat
  lenNs : Nat
  left : Nat
  reqId : Nat
  seq : Nat
  cut : Bool := false
  deriving DecidableEq, Repr

/-- Octets of late records that wait in an allocation's best-effort demand until their window ends (R160, R161). -/
structure LateDemand where
  tree : Nat
  alloc : Nat
  octets : Nat
  startNs : Nat
  endNs : Nat
  deriving DecidableEq, Repr

/-- An AGR frame on its way from the Prism to the Grant Engine (R157): its tenant, the frame without its FCS, and its stamp. -/
structure AgrFrame where
  tenant : Nat
  frame : List (BitVec 8)
  stamp : Option Stamp := none
  deriving DecidableEq, Repr

/-- One slot of a map (R163): a burst with its overhead and the guard in it, or one part of a split burst; of a calibration burst the
octets of its structure and the request it serves. -/
structure Slot where
  onu : Nat
  kind : BurstKind
  start : Nat
  len : Nat
  ovh : Nat
  allocs : List (Nat × Nat)
  profile : Nat
  fec : Bool
  calibration : Bool := false
  guard : Nat := 0
  lane : LaneSet := {}
  calOct : Nat := 0
  req : Option CalReq := none
  deriving DecidableEq, Repr

/-- What the snapshot of R155 holds of one allocation. -/
structure SnapAlloc where
  idx : Nat
  w0 : BitVec 64
  w1 : BitVec 64
  w2 : BitVec 64
  demand : Nat
  age : Nat
  ovh : Nat
  profile : Nat
  fec : Bool
  late : Nat
  lane : LaneSet := {}
  deriving DecidableEq, Repr

/-- The configuration of a tree as the snapshot of a map holds it (R155): a rebuild keeps it (R167). -/
structure MapCfg where
  beRes : Nat := 0
  beMin : Nat := 0
  guard : Nat := 0
  ovhMax : Nat := 0
  calOct : Nat := 0
  calFec : Bool := false
  deriving DecidableEq, Repr

/-- The life of a map (R155). -/
inductive MapStage where
  | building | built | honoured | sealed | replaced | withdrawn
  deriving DecidableEq, Repr

/-- Map k of one tree (R155): where it stands, its snapshot, its exclusion zones in octets, its reserved structures and slots,
whether it makes a served frame (R165), the octets served per AGR record, the requests of its calibration bursts with the lane
settings of their terminals, rr_ptr at its build, and whether the Fallback Map replaces it at its seal (R180, R182). -/
structure GMap where
  k : Nat
  tree : Nat
  stage : MapStage
  snap : List SnapAlloc
  zones : List (Nat × Nat)
  reserved : List Slot
  slots : List Slot
  servedOk : Bool := true
  agr : List (AgrRec × Nat) := []
  cals : List (CalReq × LaneSet) := []
  replace : Bool := false
  rr : Nat := 0
  cfg : MapCfg := {}
  deriving DecidableEq, Repr

/-- What the Grant Engine keeps beside its registers and the allocation table. -/
structure Ge where
  k : Nat := 0
  tickNs : Nat := 0
  maps : List GMap := []
  agr : List AgrRec := []
  late : List LateDemand := []
  agrIn : List AgrFrame := []
  agrSeq : Nat := 0
  begun : Nat := 0
  rrPtr : List (Nat × Nat) := []
  digest : Nat := 0
  inService : List (Nat × Nat) := []
  served : List (Nat × Nat) := []
  deriving DecidableEq, Repr


/-- The Mirror's own copy of the dynamic state of the privileged trees (R178): age and outstanding octets by allocation, rr_ptr by tree,
and the AGR records of those trees. -/
structure MirCopy where
  dyn : List (Nat × Nat × Nat) := []
  rr : List (Nat × Nat) := []
  agr : List AgrRec := []
  deriving DecidableEq, Repr

/-- What MIRROR and island 0 keep of the Mirror cores beside MIR_STATUS: the copy of the dynamic state and the maps built from it
(R178), whether the copy is to be taken from the Grant Engine's snapshot (R182, R187), a check that is due, running or forced (R180,
R181), the Retire step, the retirement records, when the Grant Engine's check last failed, and the trees whose copy waits for the checks
and those whose copy is replaced at the next Build begins (R180); `failed` holds from the failure of MIRROR to the Rejoin of a later
reset of it (R502). -/
structure Mir where
  copy : MirCopy := {}
  maps : List GMap := []
  takeAll : Bool := false
  checkDue : Bool := false
  checking : Bool := false
  forced : Bool := false
  geDone : Bool := false
  loading : Option Nat := none
  retired : BitVec 2 := 0
  geFailedUs : Option Nat := none
  resync : List Nat := []
  ready : List Nat := []
  failed : Bool := false
  deriving DecidableEq, Repr

/-- The steps of a take of the interlock (R193). -/
inductive ProtStep where
  | none | assert | confirm
  deriving DecidableEq, Repr

/-- What island 0 keeps of the Type B interlock beside its registers (R193 to R198): `laser` are the trees whose Laser step runs, `sync`
those that wait for the tick of their Sync step. -/
structure Prot where
  step : ProtStep := .none
  releaseAtTick : Bool := false
  offDelay : Bool := false
  laser : List Nat := []
  sync : List Nat := []
  built : Nat := 0
  deriving DecidableEq, Repr

/-- What an FRER stream keeps: the history of the vector recovery algorithm (R205) and the read-only fields of its entry. -/
structure FrerStream where
  take : Bool := true
  recovSeq : Nat := 0
  history : List Bool := []
  passed : Nat := 0
  discarded : Nat := 0
  outOfOrder : Nat := 0
  rogue : Nat := 0
  resets : Nat := 0
  deriving DecidableEq, Repr


/-- The states of a receive profile (R212, R213). -/
inductive RxState where
  | uncalibrated | calibrated | stale | unwritten
  deriving DecidableEq, Repr

/-- One receive profile (R212), field by field; `staleUs` is when it became Stale, and `staleTick` the tick whose evaluation made it
Stale (R220, R221). -/
structure RxProfile where
  state : RxState := .uncalibrated
  prof : BitVec 2 := 0
  staleCause : BitVec 3 := 0
  seedOk : Bool := false
  cdrSeed : BitVec 7 := 0
  thresh : BitVec 8 := 0
  dfe1 : BitVec 6 := 0
  ffePost : BitVec 6 := 0
  ffePre : BitVec 6 := 0
  ctle : BitVec 4 := 0
  needOct : Nat := 0
  marginQ : BitVec 8 := 0
  rxStamp : BitVec 9 := 0
  termStamp : BitVec 8 := 0x80
  bandStamp : BitVec 2 := 0
  sfcStamp : BitVec 16 := 0
  lockRun : Nat := 0
  lateRun : Nat := 0
  refined : Nat := 0
  staleUs : Nat := 0
  staleTick : Option Nat := none
  deriving DecidableEq, Repr

/-- What the Burst Calibrator keeps beside its registers and the receive profiles. -/
structure Bc where
  reqs : List CalReq := []
  termTemp : List (Nat × BitVec 8) := []
  grants : List (Nat × List Nat) := []
  needs : List (Nat × Nat × Nat) := []
  defCopy : List (Nat × BitVec 32) := []
  deriving DecidableEq, Repr


/-- Where a frame came from (R236). -/
inductive Origin where
  | uplink (port : Nat)
  | tree (tree : Nat) (onu : Nat) (xgem : Nat)
  | host (slice : Nat)
  | core (c : Nat) (slice : Nat)
  deriving DecidableEq, Repr

/-- Where a frame that has not been accepted stands: in staging, in a Prism pass, waiting for a token, waiting for a larger
shelf (R303), or with its commit record on the way to the Journal (R307). -/
inductive InStage where
  | staging | pass | token | spill | commit
  deriving DecidableEq, Repr

/-- A frame that the device holds and has not accepted: its octets with the FCS, its arrival stamp, the launch time it carries (R344), and what the Prism and the
Shelf Manager have decided of it so far. -/
structure InFrame where
  id : Nat
  octets : List (BitVec 8)
  origin : Origin
  stamp : Option Stamp := none
  launch : Option Nat := none
  stage : InStage
  slice : Nat
  gen : Bool := false
  second : Bool := false
  lif1 : Nat := 0
  tenant1 : Nat := 0
  tkind : Bool := false
  tag : BitVec 32 := 0
  tenant : Nat := 0
  lif : Nat := 0
  flow : Nat := 0xFFFF
  ptidx : Nat := 0
  excCode : Option Nat := none
  recirc : Bool := false
  shelf : Nat := 0
  bufs : Nat := 0
  fromMin : Nat := 0
  slot : Option Nat := none
  bufIds : List Nat := []
  copies : List (Nat × Nat) := []
  group : Nat := 0
  deriving DecidableEq, Repr

/-- One staging buffer of R256 (also used for the scheduling and node tables, R327): the entry and the words staged. -/
structure Staged where
  entry : Nat
  words : List (Nat × BitVec 64)
  deriving DecidableEq, Repr

/-- What the Prisms keep beside registers and tables: the active copies of the per-generation registers (R260), the
staging buffers, the LO halves written for PR_KPROF_k (key k) and PR_HPROF_k (key 8 + k) and not yet committed, the tokens held
per slice, and the frames not yet accepted. -/
structure Pr where
  kprofAct : List (Nat × Nat) := []
  hprofAct : List (Nat × Nat) := []
  seedAct : Nat := 0xFFFFFFFF
  staged : List (Nat × Staged) := []
  pairLo : List (Nat × Nat) := []
  tokensHeld : List (Nat × Nat) := []
  nextId : Nat := 0
  frames : List InFrame := []
  deriving DecidableEq, Repr


/-- One record of the hold cache (R277). -/
structure HoldRec where
  tenant : Nat
  vid : Nat
  mac : Nat
  lif : Nat
  startUs : Nat
  deriving DecidableEq, Repr

/-- An entry that a sweeper pass has removed, as the lookups of the very cycle of its removal see it (R284): its words 0 to 2. -/
structure FwdGhost where
  w0 : BitVec 64
  w1 : BitVec 64
  w2 : BitVec 64
  deriving DecidableEq, Repr

/-- What FWD keeps beside registers and tables: the hold cache; the entries that the lookups of the cycle of a sweeper pass still see
(R284) and those whose hit the pass's abort has cleared (R282); the windows whose next command a SHELF reset catches, and those with a
command running that ends with RETRY, with the tenant, VID and MAC of its key (R288); a mode change that the next pass applies (R283);
and a bank copy under way (R286). -/
structure Fwd where
  hold : List HoldRec := []
  ghosts : List FwdGhost := []
  spent : List Nat := []
  caught : List Nat := []
  running : List (Nat × Nat × Nat × Nat) := []
  modeInForce : Bool := false
  copy : Option (Nat × Nat) := none
  copyLost : Bool := false
  retiredBanks : List Nat := []
  spareBank : Option Nat := some 8
  deriving DecidableEq, Repr


/-- One commit record (R308) in one copy, its fields as the record gives them, and whether its crc holds (R313). -/
structure JRec where
  seq : Nat
  flow : Nat
  state : Nat
  cause : Nat := 0
  priv : Bool
  sides : BitVec 2 := 0
  kind : Nat
  tenant : Nat
  shelf : Nat
  len : Nat
  head : Nat
  rtagSeq : Nat := 0
  target : Nat
  resends : Nat := 0
  acceptNs : BitVec 32 := 0
  good : Bool := true
  deriving DecidableEq, Repr

/-- The buffers of one frame, shared by its flood copies (R305): the shelf, the buffer indexes in chain order, the tenant
charged, whether the charge lies on the recirculation quota (R301), and the reference count. -/
structure BufGroup where
  shelf : Nat
  ids : List Nat
  tenant : Nat
  quota : Bool
  refs : Nat
  octets : List (BitVec 8)
  deriving DecidableEq, Repr

/-- What the slice of an accepted frame keeps of it beside its record: its slot, its buffers, whether replication was on at
its acceptance (R203), its metadata towards a ring (R443, R516), its launch time and whether it has come (R343, R344), the local count at its acceptance, and the sides
where it is on its way out or done. -/
structure Held where
  slot : Nat
  seq : Nat
  flow : Nat
  group : Nat
  ptidx : Nat
  repl : Bool
  excCode : Option Nat := none
  origin : Origin
  stamp : Option Stamp := none
  lif : Nat := 0
  departing : List Nat := []
  sent : List Nat := []
  passed : List Nat := []
  interrupted : List Nat := []
  launchAt : Option Nat := none
  launchDue : Bool := true
  acceptNs : Nat := 0
  causeHeld : Option Nat := none
  decided : Option Nat := none
  pn : Option Nat := none
  resend : Bool := false
  deriving DecidableEq, Repr

/-- One entry of a completion log (R309). -/
structure Done where
  slot : Nat
  seq : Nat
  deriving DecidableEq, Repr

/-- The phases of a returning Journal copy (R312). -/
inductive JnlPhase where
  | idle | copy | close
  deriving DecidableEq, Repr

/-- What the Journal keeps beside its registers: the two copies, the slots reserved, the commit sequence, the dirty map in
island 0 (the copy it describes and its blocks), the phase of each copy, and the held reports of R314. -/
structure Jnl where
  copyA : List (Nat × JRec) := []
  copyB : List (Nat × JRec) := []
  reserved : List Nat := []
  seq : Nat := 1
  dirtyOf : Option Bool := none
  dirty : List Nat := []
  phaseA : JnlPhase := .idle
  phaseB : JnlPhase := .idle
  heldReports : List (Nat × Nat) := []
  logs : List (Nat × List Done) := []
  rtag : List (Nat × Nat) := []
  deriving DecidableEq, Repr

/-- The arbiter of one HBM stack (R298): the requests that wait, as class and size in 64-octet units, oldest first, the deficits by
class, and the requests that the latest round served, in order. -/
structure HbmArb where
  waiting : List (Nat × Nat) := []
  deficit : List (Nat × Nat) := []
  served : List (Nat × Nat) := []
  deriving DecidableEq, Repr

/-- What the Shelf Manager keeps beside its registers: the buffers in use by group, the data segments that lie in their set's check
segment, those that R297 re-pointed, with the pseudo-channel each lies in now and, while nothing has been written there since, in
`fresh`, the pseudo-channels failed and being rebuilt in order, the lost segments, the cuts not yet re-pointed, the minimums as R297
reduced them, and the arbiters of the stacks. -/
structure Shm where
  groups : List (Nat × BufGroup) := []
  repointed : List (Nat × Nat) := []
  relocated : List (Nat × Nat) := []
  fresh : List (Nat × Nat) := []
  arb : List (Nat × HbmArb) := []
  nextGroup : Nat := 0
  rebuilding : List Nat := []
  lostSegs : List (Nat × Nat) := []
  cuts : List (Nat × Nat × Nat) := []
  cutMib : Nat := 0
  minCut : List (Nat × Nat) := []
  deriving DecidableEq, Repr


/-- One token bucket (R333): the balance in units of 10^-6 octet, and the values in force (R336). -/
structure Bucket where
  bal : Int := 0
  rate : Nat := 0
  burst : Nat := 0
  idleMode : Bool := false
  deriving DecidableEq, Repr

/-- The gate list state of one port (R338, R341): the operational list's length, cycle and base time, the administrative
list while a change is pending, and the instant within the cycle of the entry in force. -/
structure GateSt where
  operLen : Nat := 0
  operCycle : Nat := 1000000000
  operBase : Nat := 0
  adminLen : Nat := 0
  adminCycle : Nat := 0
  adminBase : Nat := 0
  deriving DecidableEq, Repr

/-- A departure under way on a port (R29, R86, R311): the slot of the frame, the octets it leaves with, and on a tree the XGEM
port ID and the octets of the frame not yet sent in a fragment. -/
structure Departure where
  slot : Nat
  seq : Nat
  octets : List (BitVec 8) := []
  xgem : Nat := 0
  left : Nat := 0
  deriving DecidableEq, Repr

/-- The closing sequence with which the next stage downstream ends a departure cut short (R29): the slot of the frame, how many of
its octets had been sent, the four octets, and on a tree that they leave in an XGEM frame which marks the last fragment. -/
structure Closing where
  slot : Nat
  sent : Nat
  octets : List (BitVec 8)
  xgem : Nat := 0
  lastFragment : Bool := false
  deriving DecidableEq, Repr

/-- What the slices keep of queues, schedulers, gates and the Lens beside registers and tables, and the latest closing sequence of
each uplink port and tree. -/
structure Sch where
  flowQ : List (Nat × List Nat) := []
  buckets : List (Nat × Bucket) := []
  deficit : List (Nat × Int) := []
  pointer : List (Nat × Nat) := []
  gates : List (Nat × GateSt) := []
  leaving : List (Nat × List Departure) := []
  closings : List (Nat × Closing) := []
  edgeHeld : List Nat := []
  soj : List (Nat × Nat) := []
  staged : List (Nat × Staged) := []
  held : List (Nat × Held) := []
  lens : List Nat := []
  deriving DecidableEq, Repr


/-- The states of a key slot (R359). -/
inductive SaState where
  | empty | valid | rekeyDue | keyWait | installing
  deriving DecidableEq, Repr

/-- One key slot of the Key Vault: the state entry of R359, the key material no register returns, the state an install that
is running found (R365), and the packet numbers verified within the replay window (R368). -/
structure SaSlot where
  state : SaState := .empty
  prior : SaState := .empty
  rx : Bool := false
  alg256 : Bool := false
  derived : Bool := false
  tree : Nat := 0
  tenant : Nat := 0
  idx : Nat := 0
  pn : Nat := 0
  epoch : Nat := 0
  frames : Nat := 0
  tagFail : Nat := 0
  replay : Nat := 0
  key : BitVec 256 := 0
  salt : BitVec 32 := 0
  seen : List Nat := []
  deriving DecidableEq, Repr

/-- A Key Vault command as its window held it when go was written (R363). -/
structure KvCmd where
  req : Nat
  op : Nat
  slot : Nat
  tree : Nat
  tenant : Nat
  idx : Nat
  rx : Bool
  alg256 : Bool
  keyIndex : Nat
  epoch : Nat
  blob : List (BitVec 8)
  held : Bool := false
  deriving DecidableEq, Repr

/-- The Key Vault and the cipher beside registers and tables: key slots, SA map, root keys, terminal KEKs, and the commands in
go order, the running one first. -/
structure Kv where
  slots : List (Nat × SaSlot) := []
  saMap : List (Nat × Nat) := []
  roots : List (Nat × BitVec 256) := []
  keks : List (Nat × BitVec 128) := []
  cmds : List KvCmd := []
  started : Bool := false
  reseeds : Nat := 0
  deriving DecidableEq, Repr


/-- One transmit stamp of the FIFO of R388, the time of day in nanoseconds. -/
structure TxStamp where
  msgType : Nat
  domain : Nat
  seqId : Nat
  todNs : Nat
  deriving DecidableEq, Repr

/-- The time keeper and the rest of the Time Unit beside its registers (R383, R390, R400). The local count and the ToD offset
are in units of 2^-16 ns; `rem` carries the fraction of that unit, in parts of 256 * 10^9; `f` is the syntonisation term in
1/256 ppb with `fRem` its fraction, in parts of 10^6; `slewRem` is the part of a nanosecond already slewed. -/
structure Tu where
  running : Bool := false
  count : Nat := 0
  todOff : Int := 0
  rem : Int := 0
  f : Int := 0
  fRem : Nat := 0
  slewRem : Nat := 0
  base : Nat := 0
  absPending : Option Nat := none
  ppsHigh : Bool := false
  ppsEdgeS : Nat := 0
  ppsMsgDue : Bool := false
  todSeq : Nat := 0
  todSent : List (BitVec 8) := []
  todRx : List (BitVec 8) := []
  txts : List (Nat × List TxStamp) := []
  todReqTarget : Option (Nat × Nat) := none
  deriving DecidableEq, Repr


/-- What an uplink port keeps beside its registers: the up_ms and down_ms counts that run (R405), whether a swap holds the port raw-down
(R407), the FEC codewords sent since the latest corrupted one, and the symbols corrupted in the latest codeword (R418). -/
structure PortSt where
  upRun : Bool := false
  downRun : Bool := false
  swapRaw : Bool := false
  codewords : Nat := 0
  hurt : Nat := 0
  deriving DecidableEq, Repr

/-- What a Bench keeps beside its registers (R415 to R418): the lock search that runs and an injected bit flip that waits; the pattern
that the generator sends, its latest 64 bits and the bits since the latest flip of inj_exp; what the latest run drove; and the
checker's latest 64 reference bits, its run of error-free bits, and the bits and errors of its present block. -/
structure BenchSt where
  search : Bool := false
  inject : Bool := false
  genCode : Nat := 0
  gen : Nat := 0
  since : Nat := 0
  line : List Bool := []
  ref : Nat := 0
  run : Nat := 0
  blk : Nat := 0
  blkErr : Nat := 0
  deriving DecidableEq, Repr

/-- What an uplink lane keeps of its alignment markers (R404): the consecutive valid ones and the consecutive missing ones. -/
structure LaneMark where
  good : Nat := 0
  bad : Nat := 0
  deriving DecidableEq, Repr

/-- A message of the link (R430): its pool and its body words. -/
structure LMsg where
  pool : Nat
  body : List (BitVec 64)
  deriving DecidableEq, Repr

/-- What waits to go out on the line (R422, R430): a message with its number, an ACK, credits returned, an INIT. -/
inductive LinkItem where
  | msg (seq : Nat) (m : LMsg)
  | ack (nak : Bool) (seq : Nat)
  | credit (pool n : Nat)
  | init (pool n : Nat)
  deriving DecidableEq, Repr

/-- A block on a lane (R421): the sync header and the 8 octets of the payload. -/
structure LinkBlk where
  sync : Nat
  octets : List (BitVec 8)
  deriving DecidableEq, Repr

/-- The transmit side of a physical lane (R421, R423): the scrambler, none before its first block, and the parity since the marker. -/
structure TxLane where
  scr : Option (List Bool) := none
  bip : BitVec 8 := 0
  deriving DecidableEq, Repr

/-- The receive side of a physical lane (R421, R423): the descrambler, the parity and the blocks since the marker, the run of valid
markers and of expected positions without one. -/
structure RxLane where
  scr : List Bool := []
  bip : BitVec 8 := 0
  gap : Nat := 0
  good : Nat := 0
  bad : Nat := 0
  deriving DecidableEq, Repr

/-- A message on its way in (R430): the octets of START, the words so far, and a corrupted block among them. -/
structure RxMsg where
  start : List (BitVec 8)
  body : List (BitVec 64) := []
  bad : Bool := false
  deriving DecidableEq, Repr

/-- The line of the link (R421 to R425): what waits to go out, the blocks of the item that goes out, the columns since the marker and
since the last FILL column, an SOF that is due, the column sent last by physical lane, the lanes, and on the receive side the SOF blocks and
the message on its way in, and a lane that joins under a swap. -/
structure Line where
  queue : List LinkItem := []
  blocks : List LinkBlk := []
  cols : Nat := 0
  fillGap : Nat := 0
  sofDue : Bool := false
  column : List (Nat × LinkBlk) := []
  tx : List (Nat × TxLane) := []
  rx : List (Nat × RxLane) := []
  sofLast : Option Nat := none
  sofGap : Nat := 0
  sofGood : Nat := 0
  msg : Option RxMsg := none
  join : Option (Nat × Nat) := none
  deriving DecidableEq, Repr

/-- A host request the device has accepted and not yet executed (R439, R440): its pool, arrival order, body, and whether the
message is malformed (R437). -/
structure LReq where
  pool : Nat
  order : Nat
  body : List (BitVec 64)
  bad : Bool
  deriving DecidableEq, Repr

/-- The steps of a transmit lane swap (R428). -/
inductive SwapStep where
  | none | prepare | mirror | switch
  deriving DecidableEq, Repr

/-- The Linman link beside its registers (R426 to R435, R443 to R445) and the Wake Port. -/
structure Link where
  nextTx : Nat := 0
  nextRx : Nat := 0
  unacked : List (Nat × LMsg) := []
  txq : List LMsg := []
  rxq : List LReq := []
  rxOrder : Nat := 0
  naked : Bool := false
  altPool2 : Bool := false
  replays : Nat := 0
  inits : List Nat := []
  sendInit : Bool := false
  credOut : List (Nat × Nat) := []
  txAvail : List (Nat × Nat) := []
  markerCount : Nat := 0
  frameNo : Nat := 0
  swap : SwapStep := .none
  swapLane : Nat := 0
  swapWaiting : List Nat := []
  spareMarkers : Nat := 4
  lastMasked : Nat := 0
  beaconGood : Nat := 0
  beaconLast : Option Nat := none
  beaconWake : Nat := 0
  beaconLock : Bool := false
  wakeHeld : Nat := 0
  wakeNotice : Bool := false
  widthNotice : Option Nat := none
  line : Line := {}
  caught : Option Nat := none
  deriving DecidableEq, Repr

/-- What a source monitor and stability counter keep of one source (R459, R460): judged stable, tripped, and its offset measured against
the crystal that runs. -/
structure SrcSt where
  stable : Bool := false
  tripped : Bool := false
  measured : Bool := false
  deriving DecidableEq, Repr

/-- The steps of the clock start-up (R462). -/
inductive ClkStep where
  | none | qualify | lock | derived | hold
  deriving DecidableEq, Repr

/-- The steps of a source switch (R466). -/
inductive SwitchStep where
  | none | hold | ease | relock | restore
  deriving DecidableEq, Repr

/-- The clocks beside their registers (R459 to R472): the per-source monitors, the start-up step with its retry, whether the
crystal runs, whether the SPLL has locked since power-on (R463), the switch with its fallback, the held write of CLK_SRC_CFG
(R472), the good trim windows and whether the trim loop had a source (R461), and the divider at which each ramping compute island ends. -/
structure Clk where
  src : List (Nat × SrcSt) := []
  step : ClkStep := .none
  retried : Bool := false
  xtalRuns : Bool := false
  xtalFailed : Bool := false
  lockedOnce : Bool := false
  switch : SwitchStep := .none
  fallback : Nat := 3
  heldWrite : Option (BitVec 32) := none
  trimGood : Nat := 0
  trimOk : Bool := false
  target : List (Nat × Nat) := []
  holdUs : Nat := 0
  xtalCheck : Bool := false
  deriving DecidableEq, Repr

/-- Where the boot order (R489), Standby (R484) or a wake (R486) stands. -/
inductive PwrStep where
  | none | resetHeld | feed | island0 | bootSupply | bootRails | bootClocks | bootLink | bootStopped
  | stop | drain | save | off | wakeSupply | wakeRails | wakeClocks | wakeRestore | wakeResume
  deriving DecidableEq, Repr

/-- What a negotiation of the Supply Port is for (R480). -/
inductive NegFor where
  | none | tree | boot | wake
  deriving DecidableEq, Repr

/-- A transaction of the Supply Port (R480): the address, the command, whether it reads, the data octets and the PEC octet. -/
structure SupplyMsg where
  addr : Nat
  command : Nat
  read : Bool
  data : List (BitVec 8)
  pec : Nat
  deriving DecidableEq, Repr

/-- The power controller beside its registers (R474 to R491): the step with its retry, the negotiation that runs with its set
point and the trees that wait on a grant, the wake sources held for a Standby under way (R450), the structure state when
Standby was entered, the set point in force (0: none), the octet that the converter answers to VOUT_MODE, and the latest
transactions of the Supply Port. -/
structure Pwr where
  step : PwrStep := .none
  retried : Bool := false
  neg : NegFor := .none
  negSet : Nat := 0
  negRetried : Bool := false
  waiting : List Nat := []
  granted : List Nat := []
  resetN : Bool := false
  structuredBefore : Bool := false
  ingressOff : Bool := false
  inForce : Nat := 0
  voutMode : BitVec 8 := 0
  supply : List SupplyMsg := []
  deriving DecidableEq, Repr

/-- One entry of the Trouble Log (R500). -/
structure TlogEntry where
  seq : Nat
  kind : Nat
  source : Nat
  arg : Nat
  timeUs : Nat
  deriving DecidableEq, Repr

/-- The steps of a slice swap (R508). -/
inductive SliceStep where
  | prepare | switch | upstream
  deriving DecidableEq, Repr

/-- A slice swap under way: the lane's part index, the spare slice and the step. -/
structure SliceSwap where
  lane : Nat
  spare : Nat
  step : SliceStep
  failed : Bool
  deriving DecidableEq, Repr

/-- The states of a work queue entry (R515); an entry that the list does not name is free. -/
inductive WqState where
  | written | taken
  deriving DecidableEq, Repr

/-- A work queue entry that is not free: its seq, kind, deadline, what it concerns, and its body octets. -/
structure WqEntry where
  state : WqState
  seq : Nat
  kind : Nat
  deadline : Nat
  tree : Nat
  tenant : Nat
  body : List (BitVec 8)
  deriving DecidableEq, Repr

/-- Reliability and policy cores beside their registers (R495 to R516): the Trouble Log by ring index with the entries latched
by requester, the groups of R499 that wait to be armed again, the retirement record by 4096 * class + part, the parts whose loss
stands with no spare brought in, slice swaps, the attempts of parity retries, work queues by 4096 * core + entry, the next seq of
each queue, the summary masked for policy firmware as last seen (R513), the crash times of each core, the times of
uncorrectable reads by 4096 * class + part (R507), the class and part of the substitution that REL_SWAP_CMD began, the
parts that wait to await approval behind another of their class, and the cores a
firmware load has still to restart. -/
structure Rel where
  tlog : List (Nat × TlogEntry) := []
  tlogSeq : Nat := 0
  tlogLatch : List (Nat × TlogEntry) := []
  disarmed : List Nat := []
  retired : List (Nat × Nat) := []
  failed : List (Nat × Nat) := []
  swaps : List SliceSwap := []
  crossRetry : List (Nat × Nat) := []
  wq : List (Nat × WqEntry) := []
  wqSeq : List (Nat × Nat) := []
  lastPol : Nat := 0
  crashUs : List (Nat × List Nat) := []
  ueUs : List (Nat × List Nat) := []
  goSwap : Option (Nat × Nat) := none
  asking : List (Nat × Nat) := []
  fwTurn : List Nat := []
  fwLoading : Bool := false
  deriving DecidableEq, Repr

/-- The states of the TAP controller (R540). -/
inductive TapState where
  | reset | idle | selectDr | captureDr | shiftDr | exit1Dr | pauseDr | exit2Dr | updateDr
  | selectIr | captureIr | shiftIr | exit1Ir | pauseIr | exit2Ir | updateIr
  deriving DecidableEq, Repr

/-- The instructions of the TAP (R540). -/
inductive TapInstr where
  | idcode | sample | extest | clamp | highz | bypass
  deriving DecidableEq, Repr

/-- The CMOS balls of the boundary chain (R531, R540). -/
inductive Ball where
  | brst (t : Nat) | txdis (t : Nat) | optScl (b : Nat) | optSda (b : Nat)
  | wakeScl | wakeSda | alertN | wakeAd0 | wakeAd1 | supScl | supSda | ppsIn | ppsOut | todTx | todRx
  | resetN | protHoldOut | protHoldIn | protPrio
  deriving DecidableEq, Repr

/-- The TAP (R538, R540, R541): the controller, TRST_N, the instruction in force, the two shift registers, the bit next to TDO first,
the latched outputs of the boundary cells, and TDO, none while it is high-impedance. -/
structure Tap where
  st : TapState := .reset
  trstLow : Bool := true
  instr : TapInstr := .idcode
  ir : List Bool := []
  dr : List Bool := []
  latched : List Bool := []
  tdo : Option Bool := none
  deriving DecidableEq, Repr

/-- What reaches the device from outside, or comes about in it, and has no row in the table of operations and events (log 127). -/
inductive Input where
  /-- A request at an HBM stack: its class, and its size in 64-octet units (R298). -/
  | hbmRequest (stack : Fin 4) (cls : Fin 7) (units : Nat)
  /-- A round of a stack's arbiter (R298). -/
  | hbmRound (stack : Fin 4)
  /-- A period of TCK with the levels of TMS and TDI (R540). -/
  | tapClock (tms tdi : Bool)
  /-- TRST_N goes low or high (R540). -/
  | tapReset (low : Bool)
  /-- Policy firmware queues a downstream PLOAM message for a terminal, or for all with 0x3FF (R116, R117). -/
  | fwPloam (t : Tree) (onu : BitVec 10) (kind : PloamKind) (body : List (BitVec 8))
  /-- Policy firmware disables a serial number on a tree, or enables it again (R121). -/
  | serialDisabled (t : Tree) (serial : BitVec 64) (disabled : Bool)
  /-- The Mirror's copy of the age and the outstanding octets of an allocation is upset (R178, R179). -/
  | mirrorUpset (t : Tree) (i : Fin 512) (age : BitVec 4) (outstanding : BitVec 20)
  /-- A SHELF reset takes effect while the next command of a window of FWD runs (R288). -/
  | fwdCatch (r : Requester)
  /-- A serial lane runs for as many bit times as bits reach its receiver from the line (R415 to R418). -/
  | benchBits (i : Fin 69) (rx : List Bool)
  /-- An alignment marker of a PCS lane is valid, or missing or invalid, at its expected position (R404). -/
  | laneMarker (k : Fin 32) (good : Bool) (pcs : BitVec 8)
  /-- The receive signal of an uplink lane comes or goes. -/
  | laneSignal (k : Fin 32) (present : Bool)
  /-- An uplink port receives an RS-FEC codeword with a number of symbols in error (R402, R419). -/
  | fecReceived (p : UpPort) (symbols : Nat)
  /-- An uplink port sends an RS-FEC codeword (R418). -/
  | fecSent (p : UpPort)
  /-- A transaction on the Wake Port: the address octet, the octets written, and whether a repeated START reads (R446 to R448). -/
  | wpTransfer (first : BitVec 8) (octets : List (BitVec 8)) (again : Bool)
  /-- The link sends a column other than a marker column (R422 to R425). -/
  | linkColumn
  /-- A block arrives on a physical lane of the link, its sync header and its payload (R421). -/
  | linkBlock (lane : Fin 5) (sync : BitVec 2) (payload : BitVec 64)
  /-- LINK resets once n words of the next DMA or fill are done (R452). -/
  | dmaCatch (n : Nat)
  /-- The converter answers VOUT_MODE with another octet (R480). -/
  | voutMode (mode : BitVec 8)
  /-- Events of several wake sources fall in one cycle (R485). -/
  | wakeEvents (sources : BitVec 4)
  /-- Several parts are declared failed in one cycle, by class and part index (R505, R506). -/
  | partsFail (parts : List (BitVec 4 × BitVec 12))
  /-- A wear monitor measures a percentage (R503). -/
  | wearMeasured (k : Fin 380) (pct : BitVec 7)
  /-- The memory of a policy core returns an uncorrectable word (R509). -/
  | coreMemError (c : Fin 10)
  /-- An approve and a host swap of one class land in the same cycle (R512). -/
  | swapTogether (cls : BitVec 4) (part : BitVec 12)
  deriving DecidableEq, Repr

/-- What the master of an optics bus drives (R111): START or repeated START, an octet, the acknowledgement of a read octet or, for the
last, its absence, clock pulses that free the bus, and STOP. -/
inductive OptWire where
  | start
  | octet (o : BitVec 8)
  | ack (last : Bool)
  | clocks (n : Nat)
  | stop
  deriving DecidableEq, Repr

/-- An optics bus (R111): the command as it stood when go was written, and what the latest transaction drove. -/
structure OptBus where
  addr : Nat := 0
  wr : List (BitVec 8) := []
  rd : Nat := 0
  wire : List OptWire := []
  deriving DecidableEq, Repr

/-- What the latest access answered (R38, R438): the requester, the status code and the words read. -/
structure Access where
  requester : Nat := 0
  status : Nat := 0
  data : List (BitVec 64) := []
  deriving DecidableEq, Repr

/-- Why a command stops the model: it has no constructor, for no command of this block faults; an error that the spec
describes is a next state. Safe. -/
inductive Fault
  deriving DecidableEq, Repr

/-- Why a command has no meaning in the model. -/
inductive Refusal where
  /-- Raised by the arms of Dispatch.lean that have no meaning yet. Safe: nothing can be proved of such a command. -/
  | notModelled (mnemonic : String)
  deriving DecidableEq, Repr

/-- The device (R9 to R549). `fld` holds every register field that differs from its reset value, by the key of Fld.key, as
the exclusive or of the value and the reset value; `mem` holds every octet of window and HBM memory that is not 0; both
are canonical: keys strictly rising, no entry 0. `us` is the MGT microsecond count (R500), `freeCtr` the number of open
values drawn so far (a field of the model, not of the spec), `latch` and `todLatch` the LO/HI and time-of-day latches of
the requesters (R401, R522), `last` the answer of the latest access, `wpAnswer` that of the latest Wake Port read and `wpAck` the acknowledgements of the latest
Wake Port transaction. `inputs` holds
what waits to reach the device beside the commands (a field of the model, log 127). -/
structure State where
  pending : List Instr := []
  inputs : List Input := []
  fld : List (Nat × Nat) := []
  mem : List Host.Cell := []
  poison : List PoisonMark := []
  us : Nat := 0
  freeCtr : Nat := 0
  latch : List (Nat × Nat) := []
  todLatch : List (Nat × Nat) := []
  last : Access := {}
  wpAnswer : List (BitVec 8) := []
  wpAck : List Bool := []
  islands : List (Nat × IslSt) := []
  sil : Sil := {}
  trees : List (Nat × TreeSt) := []
  terms : List (Nat × Term) := []
  windows : List (Nat × List Window) := []
  allocs : List (Nat × Alloc) := []
  ge : Ge := {}
  fallback : List (Nat × Fallback) := []
  mir : Mir := {}
  prot : Prot := {}
  frer : List (Nat × FrerStream) := []
  rx : List (Nat × RxProfile) := []
  bc : Bc := {}
  pr : Pr := {}
  fwd : Fwd := {}
  jnl : Jnl := {}
  shm : Shm := {}
  sch : Sch := {}
  kv : Kv := {}
  tu : Tu := {}
  ports : List (Nat × PortSt) := []
  bench : List (Nat × BenchSt) := []
  lanes : List (Nat × LaneMark) := []
  link : Link := {}
  clk : Clk := {}
  pwr : Pwr := {}
  rel : Rel := {}
  tap : Tap := {}
  opt : List (Nat × OptBus) := []
  deriving DecidableEq, Repr

/-- The device right after a power-on reset or RESET_N (R13, R489): every register field at its reset value, no memory
written, no command waiting, and the boot order waiting for a feed. -/
def State.reset : State := {}

end Sys2Proof.Machine
end

