-- ==== Sys2Proof/Machine/Ops.lean ====
section
/-! DEFINITION. The named operations over the state: sparse maps, register fields, memory, open values, the Trouble Log,
island states, and messages towards host software and policy firmware. -/

namespace Sys2Proof.Machine

/-! ## Sparse maps: lists of (key, value) with strictly rising keys -/

/-- The value at a key. -/
def mget {β : Type} (k : Nat) : List (Nat × β) → Option β
  | [] => none
  | (j, w) :: r => if j = k then some w else mget k r

/-- The value at a key, or a default. -/
def mgetD {β : Type} (k : Nat) (d : β) (m : List (Nat × β)) : β := (mget k m).getD d

/-- The map with a value at a key. -/
def mset {β : Type} (k : Nat) (v : β) : List (Nat × β) → List (Nat × β)
  | [] => [(k, v)]
  | (j, w) :: r =>
    if k < j then (k, v) :: (j, w) :: r
    else if k = j then (k, v) :: r
    else (j, w) :: mset k v r

/-- The map without a key. -/
def mdel {β : Type} (k : Nat) (m : List (Nat × β)) : List (Nat × β) := m.filter fun e => e.1 != k

/-- The map with the value at a key changed. -/
def mmod {β : Type} (k : Nat) (d : β) (f : β → β) (m : List (Nat × β)) : List (Nat × β) :=
  mset k (f (mgetD k d m)) m

/-- The map of numbers with a value at a key, 0 being kept by absence. -/
def nset (k v : Nat) (m : List (Nat × Nat)) : List (Nat × Nat) := if v = 0 then mdel k m else mset k v m

/-- Keys strictly rising from a bound. -/
def risingFrom {β : Type} : Nat → List (Nat × β) → Bool
  | _, [] => true
  | b, (k, _) :: r => decide (b ≤ k) && risingFrom (k + 1) r

/-- The canonical form of a sparse map of numbers: keys strictly rising, no entry 0. -/
def numWf (m : List (Nat × Nat)) : Bool := risingFrom 0 m && m.all fun e => e.2 != 0

/-! ## Register fields -/

/-- The key of a field in State.fld. -/
def Fld.key (f : Fld) : Nat := f.addr * 32 + f.lo

/-- The value of a field (R9). -/
def State.get (s : State) (f : Fld) : Nat := mgetD f.key 0 s.fld ^^^ f.rst

/-- Whether a one-bit field is 1. -/
def State.on (s : State) (f : Fld) : Bool := s.get f != 0

/-- The state with a field at a value, cut to the field's width. -/
def State.put (s : State) (f : Fld) (v : Nat) : State :=
  { s with fld := nset f.key ((v % 2 ^ f.width) ^^^ f.rst) s.fld }

/-- The state with a field at 1, as an event bit is set. -/
def State.set1 (s : State) (f : Fld) : State := s.put f 1

/-- The state with a field at its reset value. -/
def State.rst (s : State) (f : Fld) : State := s.put f f.rst

/-- The state with bit b of a field set. -/
def State.setBit (s : State) (f : Fld) (b : Nat) : State := s.put f (s.get f ||| 1 <<< b)

/-- The state with bit b of a field clear. -/
def State.clrBit (s : State) (f : Fld) (b : Nat) : State :=
  s.put f (if bit1 (s.get f) b then s.get f - 1 <<< b else s.get f)

/-- A counter that advances by n and saturates at its greatest value (R11). -/
def State.incBy (s : State) (f : Fld) (n : Nat) : State := s.put f (min (s.get f + n) (2 ^ f.width - 1))

/-- A counter that advances by one and saturates (R11). -/
def State.inc (s : State) (f : Fld) : State := s.incBy f 1

/-- A counter that advances by one and wraps. -/
def State.incWrap (s : State) (f : Fld) : State := s.put f (s.get f + 1)

/-- The state with every register field whose address lies in a range at its reset value. -/
def State.resetRange (s : State) (lo hi : Nat) : State :=
  { s with fld := s.fld.filter fun e => !(decide (lo ≤ e.1 / 32) && decide (e.1 / 32 < hi)) }

/-! ## Memory -/

/-- What an octet of window or HBM memory that nothing has written reads as. DESIGN CHOICE (log 2): 0. -/
def unwritten : Byte := 0

/-- The octet at an address of memory. -/
def memGet (a : Nat) : List Host.Cell → Byte
  | [] => unwritten
  | (b, v) :: r => if b = a then v else memGet a r

/-- Memory with an octet at an address. -/
def memPut (a : Nat) (v : Byte) : List Host.Cell → List Host.Cell
  | [] => if v = unwritten then [] else [(a, v)]
  | (b, w) :: r =>
    if a < b then (if v = unwritten then (b, w) :: r else (a, v) :: (b, w) :: r)
    else if a = b then (if v = unwritten then r else (a, v) :: r)
    else (b, w) :: memPut a v r

/-- Memory is in canonical form. -/
def Memory.wf (m : List Host.Cell) : Bool := risingFrom 0 m && m.all fun e => e.2 != unwritten

/-- The octet at an address. -/
def State.byteAt (s : State) (a : Nat) : Byte := memGet a s.mem

/-- n octets from an address. -/
def State.bytesAt (s : State) (a n : Nat) : List Byte := (List.range n).map fun i => s.byteAt (a + i)

/-- Memory with octets from an address. -/
def memPuts (a : Nat) : List Byte → List Host.Cell → List Host.Cell
  | [], m => m
  | b :: r, m => memPuts (a + 1) r (memPut a b m)

/-- The state with octets at an address. -/
def State.putBytes (s : State) (a : Nat) (l : List Byte) : State := { s with mem := memPuts a l s.mem }

/-- The 64-bit word at an address, most significant octet at the lowest address (R7). -/
def State.word (s : State) (a : Nat) : Nat := ofOctets (s.bytesAt a 8)

/-- The set and the data segment of an address of the HBM window (R291). -/
def segOf (a : Nat) : Nat × Nat := ((a - 0x8000000000) / 2048 % 256, (a - 0x8000000000) % 2048 / 256)

/-- The address lies in a segment of packet memory that is lost (R291, R296). -/
def State.inLost (s : State) (a : Nat) : Bool := decide (0x8000000000 ≤ a) && s.shm.lostSegs.contains (segOf a)

/-- The address lies in a segment that R297 has re-pointed. -/
def State.inFresh (s : State) (a : Nat) : Bool := decide (0x8000000000 ≤ a) && s.shm.fresh.contains (segOf a)

/-- The word at an address is poison (R497): every word of a lost segment is (R296), and a word of a re-pointed segment until it is
written (DESIGN CHOICE, log 124). -/
def State.poisoned (s : State) (a : Nat) : Bool :=
  s.inLost a || match s.poison.find? fun m => decide (m.lo ≤ a) && decide (a < m.hi) with
    | some m => m.bad
    | none => s.inFresh a

/-- The state with a range of words made poison (R483, R496). -/
def State.markPoison (s : State) (lo hi : Nat) : State := { s with poison := ⟨lo, hi, true⟩ :: s.poison }

/-- The state with a whole 64-bit word written, which clears poison (R497). -/
def State.putWord (s : State) (a v : Nat) : State :=
  let s1 := s.putBytes a (octetsBE 8 v)
  if s.poisoned a then { s1 with poison := ⟨a, a + 8, false⟩ :: s.poison } else s1

/-- A word becomes poison: data 0 with the poison mark (R497). -/
def State.poisonWord (s : State) (a : Nat) : State := (s.putBytes a (octetsBE 8 0)).markPoison a (a + 8)

/-- A block of n octets at an address holds the octets given, padded with 0. -/
def State.putBlock (s : State) (a n : Nat) (l : List Byte) : State :=
  State.putBytes { s with mem := s.mem.filter fun e => !(decide (a ≤ e.1) && decide (e.1 < a + n)) } a (l.take n)

/-! ## Open values -/

/-- The next open value. -/
def State.freeVal (s : State) : Nat := Config.freeNat s.freeCtr

/-- The state after an open value has been drawn. -/
def State.drawn (s : State) : State := { s with freeCtr := s.freeCtr + 1 }

/-! ## Islands (R14, R36 to R43) -/

/-- The state code of an island: 0 Run, 1 Idle, 2 in reset, 3 Off or Failed (R46). -/
def State.isl (s : State) (n : Nat) : Nat := s.get (MGT_ISLAND_STATE.island n)

/-- The island is in Run or Idle. -/
def State.up (s : State) (n : Nat) : Bool := s.isl n < 2

/-- The record of an island's reset and gate sequences. -/
def State.islSt (s : State) (n : Nat) : IslSt := mgetD n {} s.islands

/-- The state with an island's record changed. -/
def State.modIsl (s : State) (n : Nat) (f : IslSt → IslSt) : State := { s with islands := mmod n {} f s.islands }

/-- The island is Off, and not Failed (R36). -/
def State.isOff (s : State) (n : Nat) : Bool := s.isl n == 3 && (s.islSt n).off

/-- An access ungates an island in Idle (R43). -/
def State.ungate (s : State) (n : Nat) : State :=
  if s.isl n = 1 then s.put (MGT_ISLAND_STATE.island n) 0 else s

/-- The tree island of a tree (R14). -/
def treeIsl (t : Nat) : Nat := 2 + t / 4

/-! ## The Trouble Log (R500) -/

/-- The source codes of R500. -/
inductive Src where
  | mgt | sil | te | ge | mir | bc | pr | fwd | shm | jnl | bench | pol | sch | lns | cip | kv | tu | ul | lm | wp | clk
  | pwr | rel
  deriving DecidableEq, Repr

/-- The number of a source code (R500). -/
def Src.code (x : Src) : Nat := x.ctorIdx

/-- A Trouble Log entry is written (R500). -/
def State.tlog (s : State) (kind : Nat) (src : Src) (arg : Nat) : State :=
  let h := s.get REL_TLOG_HEAD.head
  let full := (mget h s.rel.tlog).isSome
  let e : TlogEntry := ⟨s.rel.tlogSeq % 65536, kind, src.code, arg % 2 ^ 32, s.us⟩
  let s := { s with rel := { s.rel with tlog := mset h e s.rel.tlog, tlogSeq := s.rel.tlogSeq + 1 } }
  let s := s.put REL_TLOG_HEAD.head (h + 1)
  if full then (s.set1 REL_TLOG_HEAD.wrapped).set1 REL_EVENT.tlog_wrap else s

/-- A block event named by another chapter is logged, kind 0x09 (R500). -/
def State.tlogEvent (s : State) (src : Src) (bitPos concerns : Nat) : State :=
  s.tlog 0x09 src (bitPos % 32 + (concerns % 65536) * 65536)

/-! ## Trees, terminals and structure -/

/-- What a Tree Engine keeps beside registers. -/
def State.tree (s : State) (t : Nat) : TreeSt := mgetD t {} s.trees

/-- The state with that record changed. -/
def State.modTree (s : State) (t : Nat) (f : TreeSt → TreeSt) : State := { s with trees := mmod t {} f s.trees }

/-- The key of a terminal. -/
def termKey (t onu : Nat) : Nat := t * 256 + onu

/-- A terminal context (R114). -/
def State.term (s : State) (t onu : Nat) : Term := mgetD (termKey t onu) {} s.terms

/-- The state with a terminal context changed. -/
def State.modTerm (s : State) (t onu : Nat) (f : Term → Term) : State :=
  { s with terms := mmod (termKey t onu) {} f s.terms }

/-- The terminals of a tree whose context is not Free. -/
def State.termsOf (s : State) (t : Nat) : List (Nat × Term) :=
  (s.terms.filter fun e => e.1 / 256 == t && decide (e.2.state ≠ .free)).map fun e => (e.1 % 256, e.2)

/-- An allocation context (R145). -/
def State.alloc (s : State) (t i : Nat) : Alloc := mgetD (t * 512 + i) {} s.allocs

/-- The state with an allocation context changed. -/
def State.modAlloc (s : State) (t i : Nat) (f : Alloc → Alloc) : State :=
  { s with allocs := mmod (t * 512 + i) {} f s.allocs }

/-- The structure in force (R47). -/
def State.struct (s : State) : Structure := s.sil.running

/-- The TREE Drawer entry of a tree (R56). -/
def State.treeEntry (s : State) (t : Nat) : TreeEntry := mgetD t {} s.struct.trees

/-- The tree runs in XGS-PON mode (R56). -/
def State.isXgs (s : State) (t : Nat) : Bool := (s.treeEntry t).mode == 1

/-- The tree is privileged (R62). -/
def State.privTree (s : State) (t : Nat) : Bool := bit1 s.struct.privTrees.toNat t

/-- The states of a tree (R99): 0 Off, 1 Dark, 2 Lit, 3 Active, 4 Doze, 5 going Lit, 6 going Dark. -/
def State.treeState (s : State) (t : Nat) : Nat := s.get (TE_STATUS.state t)

/-- The device is Structured (R47). -/
def State.structured (s : State) : Bool := s.get SIL_STATUS.state == 2

/-! ## Messages of the link (R430 to R435) -/

/-- The link is Up (R426). -/
def State.linkUp (s : State) : Bool := s.get LM_STATUS.state == 5

/-- The credits a message costs (R433). -/
def LMsg.cost (m : LMsg) : Nat := ceilDiv m.body.length 8

/-- The first waiting message of a pool. -/
def firstOf (pool : Nat) (q : List LMsg) : Option LMsg := q.find? fun m => m.pool == pool

/-- The message the sender takes next (R435): pool 0, then pool 3, then pools 1 and 2 in turn, each only when its pool has the
credits (R433) and fewer than 2,048 messages are unacknowledged (R432). -/
def Link.choose (l : Link) : Option LMsg :=
  let ok (p : Nat) : Option LMsg :=
    (firstOf p l.txq).filter fun m => decide (m.cost ≤ mgetD p 0 l.txAvail)
  if 2048 ≤ l.unacked.length then none
  else (ok 0).or ((ok 3).or (if l.altPool2 then (ok 2).or (ok 1) else (ok 1).or (ok 2)))

/-- One message is sent: it takes its credits and the next sequence number, and waits for its ACK (R431 to R433). -/
def Link.sendOne (l : Link) (m : LMsg) : Link :=
  { l with
    txq := l.txq.erase m
    unacked := l.unacked ++ [(l.nextTx, m)]
    nextTx := (l.nextTx + 1) % 4096
    txAvail := nset m.pool (mgetD m.pool 0 l.txAvail - m.cost) l.txAvail
    altPool2 := if m.pool = 1 then true else if m.pool = 2 then false else l.altPool2
    line := { l.line with queue := l.line.queue ++ [.msg l.nextTx m] } }

/-- Messages are sent while one can be (R433, R435). -/
def Link.pump : Nat → Link → Link
  | 0, l => l
  | n + 1, l => match l.choose with
    | none => l
    | some m => Link.pump n (l.sendOne m)

/-- A message is queued towards the host and sent when its credits allow; nothing is queued while the link is not Up. -/
def State.sendMsg (s : State) (pool : Nat) (body : List (BitVec 64)) : State :=
  if s.linkUp then
    let l := { s.link with txq := s.link.txq ++ [LMsg.mk pool body] }
    { s with link := l.pump (l.txq.length) }
  else s

/-- Word 0 of a message (R436). -/
def msgHeader (opcode tag flags addr : Nat) : BitVec 64 :=
  BitVec.ofNat 64 (opcode <<< 56 ||| tag <<< 48 ||| flags <<< 44 ||| addr)

/-- A NOTICE message (R437, R444). -/
def State.notice (s : State) (code arg : Nat) : State :=
  s.sendMsg 3 [msgHeader 0xC1 0 0 0, BitVec.ofNat 64 (code <<< 8 ||| arg)]

/-! ## Work items for policy firmware (R513 to R515) -/

/-- The active cores in ascending number (R514). -/
def State.activeCores (s : State) : List Nat :=
  (List.range 10).filter fun c => s.get (POL_CORE.state c) == 0 || s.get (POL_CORE.state c) == 2

/-- The core of a rank, stepping over cores that restart (R514). -/
def State.coreOfRank (s : State) (r : Nat) : Option Nat :=
  let act := s.activeCores
  let rot := act.drop (r % act.length) ++ act.take (r % act.length)
  match rot.find? fun c => s.get (POL_CORE.state c) == 0 with
  | some c => some c
  | none => rot.head?

/-- The logical address of HBM lies in the HBM window from here (R520). -/
def hbmBase : Nat := 0x8000000000

/-- A base register in the layout of LM_HRX_BASE (R454). -/
def State.hbmReg (s : State) (f : Fld) : Nat := hbmBase + s.get f

/-- The address of entry e of the work queue of core c (R513). -/
def State.wqAddr (s : State) (c e : Nat) : Nat := s.hbmReg POL_WQ_BASE.base + c * 0x01100000 + e * 4160

/-- The key of a work queue entry. -/
def wqKey (c e : Nat) : Nat := c * 4096 + e

/-- The age limit of items of a kind (R515, R517). -/
def State.ageLimit (s : State) (kind : Nat) : Nat := max 1 (s.get (POL_AGE.limit_us (kind - 1)))

/-- The rank that R514 gives an item. -/
def itemRank (kind tree tenant : Nat) : Nat :=
  if kind = 1 ∨ kind = 4 ∨ kind = 6 then tree else if kind = 2 ∨ kind = 3 then tenant else 0

/-- The queue entry that the next item of a kind would take: the core and the entry (R514, R515). -/
def State.itemSlot (s : State) (kind tree tenant : Nat) : Option (Nat × Nat) :=
  (s.coreOfRank (itemRank kind tree tenant)).map fun c => (c, mgetD c 0 s.rel.wqSeq % 4096)

/-- The octets of a work queue entry: the header of R513 and the body. -/
def itemOctets (kind seq deadline tree tenant : Nat) (body : List Byte) : List Byte :=
  octetsBE 8 (kind <<< 56 ||| body.length <<< 32 ||| seq % 2 ^ 32) ++ octetsBE 8 deadline ++
    octetsBE 8 (tree <<< 59 ||| tenant <<< 53) ++ octetsBE 8 0 ++ body

/-- A work item is written, or a full queue turns it away (R515). With no active core left the default actions of R20 apply at
once, which leave the state as it is (R507). -/
def State.workItem (s : State) (kind tree tenant : Nat) (body : List Byte) : State :=
  match s.itemSlot kind tree tenant with
  | none => s
  | some (c, e) =>
    if (mget (wqKey c e) s.rel.wq).isSome then
      s.inc POL_WQ_FULL_CNT.count
    else
      let q := mgetD c 0 s.rel.wqSeq
      let dl := s.us + s.ageLimit kind
      let s := s.putBytes (s.wqAddr c e) (itemOctets kind q dl tree tenant body)
      { s with rel := { s.rel with
          wq := mset (wqKey c e) ⟨.written, q % 2 ^ 32, kind, dl, tree, tenant, body⟩ s.rel.wq
          wqSeq := mset c (q + 1) s.rel.wqSeq } }.put (POL_WQ_PROD.index c) (q + 1)

end Sys2Proof.Machine
end

