-- ==== Sys2Proof/Machine/Flags.lean ====
section
/-! DEFINITION. The event flags of the blocks, the interrupt summary they raise (R523, R524), and what a change of the
masked summary sends (R444, R513). -/

namespace Sys2Proof.Machine

/-- The block whose summary bit the field at this address and lowest bit raises, trees apart (R523). -/
def intBlock (a lo : Nat) : Option Nat :=
  if a = 0x110 ∨ a = 0x410 ∨ (0x500 ≤ a ∧ a < 0x514) then some 0
  else if a = 0x1000008 then some 1
  else if a = 0x30000008 then some 3
  else if a = 0x34000008 then some 4
  else if a = 0x38000008 then some 5
  else if a = 0x4000000C then some 6
  else if a = 0x50000008 then some 7
  else if a = 0x60000004 then (if lo = 7 ∨ lo = 0 then none else some 8)
  else if a = 0x60008004 then (if lo = 2 then none else some 9)
  else if a = 0x61C then some 11
  else if a = 0x70000008 then some 12
  else if a = 0x8000000C then some 14
  else if a = 0x80008004 then some 15
  else if a = 0x90000008 then (if lo = 0 then none else some 16)
  else if a = 0x9000000C then (if lo = 31 then some 16 else none)
  else if a = 0xA0000008 ∨ a = 0xA0000108 ∨ a = 0xA0000208 ∨ a = 0xA0000308 ∨ a = 0xA0008004 then some 17
  else if a = 0xB0000008 then some 18
  else if a = 0xB0008008 then some 19
  else if a = 0xC0000014 then some 20
  else if a = 0xC0008008 then some 21
  else if a = 0xC0008034 then (if lo = 31 then some 21 else none)
  else if a = 0xD0000000 ∨ a = 0xD000000C then some 22
  else none

/-- The tree whose bit of MGT_INT_TREE the field at this address raises (R523). -/
def intTree (a : Nat) : Option Nat :=
  if 0x10000000 ≤ a ∧ a < 0x12000000 ∧ ((a % 0x100000 = 0x8) ∨ (a % 0x100000 = 0x218)) then
    some ((a - 0x10000000) / 0x100000)
  else none

/-- The islands that hold the source registers of a block, where one island alone does not gate it none (R524). -/
def blockIslands (b : Nat) : List Nat :=
  match b with
  | 3 => [10] | 4 => [11] | 5 => [12] | 6 => [13, 14, 15, 16] | 7 => [17] | 8 => [17] | 9 => [18, 19]
  | 12 => [13, 14, 15, 16] | 14 => [20] | 15 => [20] | 16 => [21] | 18 => [23] | _ => []

/-- The trees with an event, as the registers stand. -/
def State.liveTrees (s : State) : Nat :=
  s.fld.foldl (fun m e => match intTree (e.1 / 32) with | some t => m ||| 1 <<< t | none => m) 0

/-- The blocks with an event, as the registers stand; bit 2 stands for the trees. -/
def State.liveBlocks (s : State) : Nat :=
  s.fld.foldl (fun m e => match intBlock (e.1 / 32) (e.1 % 32) with | some b => m ||| 1 <<< b | none => m) 0

/-- MGT_INT_TREE, the bits of a tree island between Fence and Rejoin held (R523, R524). -/
def State.intTrees (s : State) : Nat :=
  let live := s.liveTrees
  bitSum ((List.range 32).filter fun t =>
    if s.isl (treeIsl t) = 2 then bit1 (s.islSt (treeIsl t)).heldSummary.toNat (t % 4) else bit1 live t)

/-- A block's source registers stand in islands of which none is in Run or Idle and one is between Fence and Rejoin (R524). -/
def State.blockHeld (s : State) (b : Nat) : Option Nat :=
  let is := blockIslands b
  if is.any s.up then none else is.find? fun n => s.isl n == 2

/-- MGT_INT_SUMMARY (R523, R524). -/
def State.summary (s : State) : Nat :=
  let live := s.liveBlocks
  let trees := s.intTrees
  bitSum ((List.range 23).filter fun b =>
    if b = 2 then trees != 0
    else match s.blockHeld b with
      | some n => bit1 (s.islSt n).heldSummary.toNat b
      | none => bit1 live b)

/-- The summary masked for host software. -/
def State.hostMasked (s : State) : Nat := s.summary &&& s.get MGT_INT_HOST_MASK.blocks

/-- The summary masked for policy firmware. -/
def State.polMasked (s : State) : Nat := s.summary &&& s.get MGT_INT_POL_MASK.blocks

/-- The policy core whose external interrupt is raised, if any: the lowest-numbered active one (R523). -/
def State.externalInt (s : State) : Option Nat :=
  if s.polMasked = 0 then none else (List.range 10).find? fun c => s.get (POL_CORE.state c) == 0

/-- An INT message (R437, R444). -/
def State.sendInt (s : State) (m : Nat) : State := s.sendMsg 3 [msgHeader 0xC0 0 0 0, BitVec.ofNat 64 m]

/-- The body of an alarm item (R513). -/
def State.alarmBody (s : State) : List Byte := octetsBE 4 s.polMasked ++ octetsBE 4 s.intTrees

/-- The alarm items of the bits that rose (R513). -/
def State.alarms (s : State) : List Nat → State
  | [] => s
  | _ :: r => State.alarms (s.workItem 5 0 0 s.alarmBody) r

/-- The bits of the summary masked for policy firmware that have risen since the last look (R513). -/
def State.risen (s : State) : List Nat :=
  (bitList 23 s.polMasked).filter fun b => !bit1 s.rel.lastPol b

/-- What the interrupt logic does after a command: an INT message when the masked summary leaves 0 (R444), an alarm item for
each bit that rises towards policy firmware (R513). -/
def State.irq (s : State) : State :=
  let h := s.hostMasked
  let p := s.polMasked
  let s1 := if s.link.lastMasked = 0 ∧ h ≠ 0 then s.sendInt h else s
  let s2 := s1.alarms s.risen
  { s2 with
    link := { s2.link with lastMasked := h }
    rel := { s2.rel with lastPol := p } }

/-- The link is in SOF lock, at full rate (R424) or in Beacon (R445). -/
def State.sofLock (s : State) : Bool := decide (4 ≤ s.get LM_STATUS.state) || s.link.beaconLock

/-- The crystal is stopped under R468, not in Standby. -/
def State.xtalStopped (s : State) : Bool :=
  !s.clk.xtalRuns && !s.on CLK_SRC_CFG.xtal_keep && s.get PWR_STATUS.state != 3 && s.get PWR_STATUS.state != 5 && s.clk.step == .none

/-- The trim loop of the MIO has a usable source (R461, R468). -/
def State.trimUsable (s : State) : Bool :=
  let auto := s.on CLK_TRIM_CFG.auto && s.sofLock
  match s.get CLK_TRIM_CFG.src with
  | 0 => bit1 (s.get CLK_STATUS.qual) 2 || (s.xtalStopped && bit1 (s.get CLK_STATUS.qual) 0) || auto
  | 1 => bit1 (s.get CLK_STATUS.qual) 0 || auto
  | 2 => s.sofLock
  | _ => false

/-- When no usable trim source remains, trimming freezes (R461). -/
def State.trimWatch (s : State) : State :=
  if s.trimUsable = s.clk.trimOk then s
  else if s.trimUsable then { s with clk := { s.clk with trimOk := true } }
  else { (s.put CLK_STATUS.trim_locked 0).set1 CLK_EVENT.trim_lost with clk := { s.clk with trimOk := false, trimGood := 0 } }

/-- What follows the effect of every command: the trim loop's sources (R461) and the interrupt logic are looked at. -/
def State.settle (s : State) : State := s.trimWatch.irq

/-- A command's outcome: the next state, settled. -/
def State.done (s : State) : Host.Outcome State Fault Refusal := .next s.settle

end Sys2Proof.Machine
end

