-- ==== Sys2Proof/Machine/RegMap.lean ====
section
/-! DEFINITION. The register index of R527 as rows: which addresses a register occupies, which island holds it, what a
reset of that island does to it, and its fields with their access types (R9). An address that no row occupies is
unmapped (R520, R521). -/

namespace Sys2Proof.Machine

/-- The registers by name, index suffixes left off. -/
inductive RName where
  | MGT_ISLAND_RST | MGT_ISLAND_STATE | MGT_RST_DONE | MGT_ISLAND_FAILED | MGT_GATE_REFUSED | MGT_GATE_REFUSED_CNT
  | MGT_IDLE_TIMER | MGT_RST_CAUSE | SIL_CTRL | SIL_STATUS | SIL_EVENT | SIL_STAGE_LEN
  | SIL_CHECK_FAIL | SIL_LOADED | SIL_BUILD | SIL_FUSE_KEY | SIL_FUSE_SVN | SIL_LOAD_CNT
  | SIL_FAIL_CNT | SIL_UNSTRUCT_DISCARD | SIL_PARTIAL_DONE | SIL_PARTIAL_TENANT | SIL_IMAGE_HASH | MGT_OPT_CFG
  | MGT_OPT_CMD | MGT_OPT_STATUS | MGT_OPT_DATA | TE_CTRL | TE_STATUS | TE_EVENT
  | TE_FRAME_CFG | TE_BURST_WIN | TE_BRST_CFG | TE_TX_CFG | TE_DOZE_CFG | TE_KEY_SWITCH
  | TE_KEY_SW_SFC | TE_DELIM_FALSE_CNT | TE_DELIM_MISS_CNT | TE_WRONG_ID_CNT | TE_XGEM_HEC_CNT | TE_REASM_TO_CNT
  | TE_OVERSIZE_CNT | TE_KEY_INVALID_CNT | TE_FRAG_CNT | TE_EDGE_WAIT_CNT | TE_CS_FILL_CNT | TE_CS_LOST_ALLOC_CNT
  | TE_CS_CTRL | TE_SFC | TE_SFC_SET | TE_ACT_CFG | TE_RNG_CFG | TE_TDD_CFG
  | TE_TDD_W | TE_TRUNK | TE_TERM_CMD | TE_RNG_STATUS | TE_RNG_EVENT | TE_TEQ
  | TE_DEREG_LAST | TE_SN_RESP_CNT | TE_SN_COLL_CNT | TE_QW_SKIP_CNT | TE_RNG_FAIL_CNT | TE_DRIFT_ADJ_CNT
  | TE_DEREG_CNT | TE_PLOAM_MIC_CNT | GE_MAP_CTRL | GE_STATUS | GE_EVENT | GE_AGR_CFG
  | GE_FW_CFG | GE_ALLOC_REFUSE | GE_AGR_LAST_BAD | GE_TREE_CFG | GE_TREE_RES | GE_TREE_CALRES
  | GE_TREE_STAT | GE_TREE_COMMIT | GE_AGR_RX_CNT | GE_AGR_LATE_CNT | GE_AGR_BAD_CNT | GE_AGR_CUT_CNT
  | GE_AGR_CANCEL_CNT | GE_AGR_FULL_CNT | GE_AGR_MISS_CNT | GE_BUILD_LATE_CNT | GE_ORPHAN_CNT | GE_EMPTY_CNT
  | GE_TRIM_CNT | GE_DISPLACED_CNT | GE_BE_IMPAIR_CNT | GE_LIMIT_FAIL_CNT | GE_FALLBACK_CNT | GE_RECOMP_CNT
  | MIR_CTRL | MIR_STATUS | MIR_EVENT | MIR_LAST_MISMATCH | MIR_PRIV | MIR_MISMATCH_CNT
  | MIR_CHECK_CNT | MIR_SWAP_CNT | MIR_GAP_CNT | MIR_UNMIRRORED_CNT | MGT_PROT_CFG | MGT_PROT_TREES
  | MGT_PROT_CTRL | MGT_PROT_STATUS | MGT_PROT_EVENT | MGT_PROT_US_LIGHT | MGT_PROT_SWITCH_CNT | UL_FRER_CFG
  | UL_FRER_EVENT | UL_FRER_DISC_CNT | UL_FRER_ROGUE_CNT | UL_FRER_NOTAG_CNT | BC_CFG | BC_STATUS
  | BC_EVENT | BC_CMD | BC_TERM_TEMP | BC_TREE_CFG | BC_TREE_STAT | BC_DEF
  | BC_PEND | BC_PROF | BC_MEAS_CNT | BC_REFINE_CNT | BC_STALE_CNT | BC_BAND_CNT
  | BC_CAL_REQ_CNT | BC_CAL_DONE_CNT | BC_CAL_LATE_CNT | BC_PROMOTE_CNT | BC_DEMOTE_CNT | PR_CTRL
  | PR_GEN_STATUS | PR_GEN_CFG | PR_EVENT | PR_PARSE_CFG | PR_PARSE_CFG2 | PR_HASH_SEED
  | PR_RECIRC_CFG | PR_EXC_DEST | PR_KPROF | PR_HPROF | PR_EXC | PR_SLICE_STATUS
  | PR_RX_CNT | PR_PASS2_CNT | PR_PARSE_DEEP_CNT | PR_LEN_CONFLICT_CNT | PR_CSUM_CNT | PR_P0_MISS_CNT
  | PR_P2_HIT_CNT | PR_DENY_CNT | PR_ACT_DROP_CNT | PR_EXC_DROP_CNT | PR_EXC_HOST_CNT | PR_EXC_POL_CNT
  | PR_TABLE_ERR_CNT | PR_FLOW_REFUSE_CNT | PR_DRAIN_REFUSE_CNT | PR_DISABLED_CNT | FWD_CTRL | FWD_STATUS
  | FWD_EVENT | FWD_LEARN_CFG | FWD_AGE_CFG | FWD_NOW | FWD_BANK_MAP | FWD_LOCK_CFG
  | FWD_VERSION | FWD_CMD | FWD_CMD_KEY0 | FWD_CMD_KEY1 | FWD_CMD_DATA | FWD_CMD_LIF
  | FWD_CMD_EXP | FWD_CMD_RVER | FWD_CMD_RDATA | FWD_CMD_RLIF | FWD_DST_HIT_CNT | FWD_DST_MISS_CNT
  | FWD_FLOOD_DROP_CNT | FWD_NOTIFY_CNT | FWD_NOTIFY_SUPP_CNT | FWD_CONTEST_CNT | FWD_NOTIFY_DROP_CNT | FWD_AGED_CNT
  | FWD_AGE_ABORT_CNT | FWD_BAD_SRC_CNT | FWD_STATIC_MOVE_CNT | FWD_UNCORR_CNT | FWD_LOCK_TO_CNT | FWD_NO_SPACE_CNT
  | FWD_BANK_LOST_CNT | FWD_DISABLED_CNT | SHM_STATUS | SHM_EVENT | SHM_USABLE | SHM_REFUSE_LAST
  | SHM_SHELF_CNT | SHM_SHARED_FREE | SHM_RECIRC_FREE | SHM_DRR_Q | SHM_PC_FAILED | SHM_SET_SPENT
  | SHM_USE | SHM_REFUSE_CNT | SHM_CONTEST_CNT | SHM_SPILL_CNT | SHM_DEGRADED_RD_CNT | SHM_SEG_LOST_CNT
  | JNL_STATUS | JNL_EVENT | JNL_SLOTS | JNL_USED | JNL_RPT_PROD | JNL_RPT_CONS
  | JNL_ACCEPT_CNT | JNL_DELIV_CNT | JNL_UNDELIV_CNT | JNL_RESEND_CNT | JNL_RPT_LOST_CNT | JNL_REPAIR_CNT
  | JNL_LOST_CNT | SCH_CTRL | SCH_CFG | SCH_EVENT | SCH_CFG_REFUSE | SCH_PORT_CFG
  | SCH_PORT_RATE | SCH_PORT_BURST | SCH_GATE_CTRL | SCH_GATE_CYCLE | SCH_GATE_BASE_NS | SCH_GATE_BASE_S
  | SCH_GATE_STATUS | SCH_GATE_REFUSE_CNT | SCH_EDGE_HOLD_CNT | SCH_LATE_CNT | SCH_LAUNCH_BAD_CNT | LNS_CTRL
  | LNS_CFG | LNS_MISSED_CNT | CIP_CTRL | CIP_CFG | CIP_STATUS | CIP_EVENT
  | CIP_CFG_REFUSE | CIP_TAG_FAIL_CNT | CIP_CT_FAIL_CNT | CIP_REPLAY_CNT | CIP_NO_TSH_CNT | CIP_REKEY_DUE_CNT
  | CIP_KEYWAIT_CNT | CIP_HOLD_REFUSE_CNT | KV_STATUS | KV_EVENT | KV_DKEK_KCV | KV_CMD_CNT
  | KV_FAIL_CNT | KV_LAST_EPOCH | KV_CMD | KV_ARG | KV_EPOCH | KV_RES
  | KV_OUT | KV_BLOB | TU_CTRL | TU_STATUS | TU_EVENT | TU_TIME_JUMP
  | TU_TIME_NS | TU_TIME_S | TU_LOCAL | TU_STEP_NS | TU_STEP_S | TU_FREQ
  | TU_OFFSET | TU_REMAIN | TU_SLEW_CFG | TU_TICK_CFG | TU_PPS_CFG | TU_PPS_IN_NS
  | TU_PPS_IN_S | TU_TOD_CFG | TU_TOD_RX | TU_TC_CFG | TU_TC_TREES | TU_TOD_REQ
  | TU_TOD_SFC | TU_TOD_RES_NS | TU_TOD_RES_S | TU_TRIM | TU_TXTS_TAG | TU_TXTS_NS
  | TU_TXTS_S | TU_STEP_CNT | TU_JUMP_CNT | TU_REARM_CNT | TU_TC_CNT | TU_TC_MISS_CNT
  | TU_TXTS_LOST_CNT | TU_PPS_IN_CNT | TU_TOD_RX_LOST_CNT | UL_PORT_CFG | UL_PORT_STATUS | UL_PORT_EVENT
  | UL_PORT_INJ | UL_LANE_STATUS | UL_SIDE_STATUS | UL_FEC_CORR | UL_FEC_UNCORR | UL_LINK_DOWN_CNT
  | UL_SWAP_CNT | UL_GATE_OVERRUN_CNT | UL_RX_RESET_DROP_CNT | BENCH_CFG | BENCH_CTRL | BENCH_STATUS
  | BENCH_BITS | BENCH_ERR | BENCH_USER | LM_CTRL | LM_STATUS | LM_EVENT
  | LM_TX_MAP | LM_RX_MAP | LM_INT_CFG | LM_HRX_BASE | LM_HRX_SIZE | LM_HRX_PROD
  | LM_HRX_CONS | LM_CREDIT | LM_LANE_STATUS | LM_DOWN_CNT | LM_TRAIN_FAIL_CNT | LM_CRC_ERR_CNT
  | LM_REPLAY_CNT | LM_BLOCK_ERR_CNT | LM_MSG_BAD_CNT | LM_EXC_BAD_CNT | LM_SWAP_CNT | LM_LANE_BIP_CNT
  | WP_CFG | WP_ALERT | WP_ALERT_MASK | WP_WAKE_CNT | WP_PEC_ERR_CNT | WP_CMD_ERR_CNT
  | CLK_SRC_CFG | CLK_REF_CFG | CLK_MON_CFG | CLK_TRIM_CFG | CLK_STATUS | CLK_EVENT
  | CLK_HOLDOVER | CLK_FREQ_OFFS | CLK_ISL_STATUS | CLK_SWITCH_CNT | CLK_HOLDOVER_CNT | CLK_MON_TRIP_CNT
  | CLK_STAB_FAIL_CNT | CLK_RELOCK_FAIL_CNT | PWR_CTRL | PWR_STATUS | PWR_EVENT | PWR_FEED
  | PWR_BUDGET | PWR_BUDGET_CFG | PWR_PHASE | PWR_SUP_CFG | PWR_SUP_STATUS | PWR_STBY_CFG
  | PWR_WAKE_CFG | PWR_WAKE_SRC | PWR_WAKE_FAIL | MGT_RET_FAIL | PWR_FEED_LOSS_CNT | PWR_SHED_CNT
  | PWR_SUP_FAIL_CNT | PWR_STBY_CNT | PWR_WAKE_CNT | PWR_WAKE_FAIL_CNT | POL_WQ_BASE | POL_RX_BASE
  | POL_TX_BASE | POL_RING_CFG | POL_WQ_TAKE | POL_WQ_DONE | POL_WQ_PROD | POL_RX_PROD
  | POL_RX_CONS | POL_TX_PROD | POL_TX_CONS | POL_AGE | POL_WQ_AGED_CNT | POL_WQ_FULL_CNT
  | POL_TX_BAD_CNT | MGT_IDENTITY | REL_EVENT | REL_SWAP_CMD | REL_SPARE | REL_CE_CFG
  | REL_CE_SUMMARY | REL_CE_LEVEL | REL_UE_LAST | REL_PARITY_LAST | REL_TLOG_HEAD | REL_TLOG_CTRL
  | REL_DIE_ID | REL_HBM_ID | REL_SLICE_MAP | REL_WEAR | REL_CE_CNT | REL_UE_CNT
  | REL_PARITY_CNT | REL_POISON_RD_CNT | REL_SWAP_CNT | POL_FW_CTRL | POL_FW_STATUS | POL_FW_BASE
  | POL_FW_LEN | POL_CFG | POL_CORE | POL_CRASH_CNT | MGT_INT_SUMMARY | MGT_INT_HOST_MASK
  | MGT_INT_POL_MASK | MGT_INT_TREE | MGT_UNMAPPED_LAST | MGT_UNMAPPED_CNT | MGT_INT_AUX
  deriving DecidableEq, Repr

/-- Which part of the device holds a register: island 0, one island, the tree island of the tree that the first index
names, the slice of the first index, all four slices in step, both Journal islands in step (R548), or a SerDes
chiplet. -/
inductive Owner where
  | mgt | island (n : Nat) | tree | slice | slices | journals | chiplet
  deriving DecidableEq, Repr

/-- What a reset of the holding island does: nothing, returns counters and W1C fields to their reset values, returns
all but the W1CS fields, or the rule of R267, R323, R401 or R454. -/
inductive Keep where
  | keep | countersAndW1c | allButW1cs | slices | journals | time | link
  deriving DecidableEq, Repr

/-- One row of the index: `n1` by `n2` registers at `base + s1 * i + s2 * j`. `wide` marks a LO/HI pair. -/
structure Row where
  name : RName
  base : Nat
  n1 : Nat
  s1 : Nat
  n2 : Nat
  s2 : Nat
  wide : Bool
  owner : Owner
  keep : Keep
  fields : Nat → Nat → List (Fld × Acc)

def rowsMGT0 : List Row := [
  ⟨.MGT_ISLAND_RST, 0x100, 1, 0x0, 1, 0x0, false, .mgt, .keep, fun _ _ => [(MGT_ISLAND_RST.req, .wsc)]⟩,
  ⟨.MGT_ISLAND_STATE, 0x104, 2, 0x4, 1, 0x0, false, .mgt, .keep, fun i _ => ((List.range 16).filterMap fun m => if 16 * i + m < 28 then some (MGT_ISLAND_STATE.island (16 * i + m), Acc.ro) else none)⟩,
  ⟨.MGT_RST_DONE, 0x10C, 1, 0x0, 1, 0x0, false, .mgt, .keep, fun _ _ => [(MGT_RST_DONE.done, .w1cs)]⟩,
  ⟨.MGT_ISLAND_FAILED, 0x110, 1, 0x0, 1, 0x0, false, .mgt, .keep, fun _ _ => [(MGT_ISLAND_FAILED.failed, .w1cs)]⟩,
  ⟨.MGT_GATE_REFUSED, 0x114, 1, 0x0, 1, 0x0, false, .mgt, .keep, fun _ _ => [(MGT_GATE_REFUSED.refused, .w1cs)]⟩,
  ⟨.MGT_GATE_REFUSED_CNT, 0x118, 1, 0x0, 1, 0x0, false, .mgt, .keep, fun _ _ => [(MGT_GATE_REFUSED_CNT.count, .rc)]⟩,
  ⟨.MGT_IDLE_TIMER, 0x200, 28, 0x4, 1, 0x0, false, .mgt, .keep, fun i _ => [(MGT_IDLE_TIMER.eligible i, .ro), (MGT_IDLE_TIMER.timer_us i, .rw)]⟩,
  ⟨.MGT_RST_CAUSE, 0x300, 28, 0x4, 1, 0x0, false, .mgt, .keep, fun i _ => [(MGT_RST_CAUSE.count i, .ro), (MGT_RST_CAUSE.cause i, .ro)]⟩,
  ⟨.MGT_OPT_CFG, 0x700, 8, 0x20, 1, 0x0, false, .mgt, .keep, fun i _ => [(MGT_OPT_CFG.en i, .rw), (MGT_OPT_CFG.speed i, .rw), (MGT_OPT_CFG.stretch_ms i, .rw)]⟩,
  ⟨.MGT_OPT_CMD, 0x704, 8, 0x20, 1, 0x0, false, .mgt, .keep, fun i _ => [(MGT_OPT_CMD.go i, .wsc), (MGT_OPT_CMD.wr_len i, .rw), (MGT_OPT_CMD.rd_len i, .rw), (MGT_OPT_CMD.addr i, .rw)]⟩,
  ⟨.MGT_OPT_STATUS, 0x708, 8, 0x20, 1, 0x0, false, .mgt, .keep, fun i _ => [(MGT_OPT_STATUS.busy i, .ro), (MGT_OPT_STATUS.result i, .ro), (MGT_OPT_STATUS.nack_at i, .ro), (MGT_OPT_STATUS.errors i, .ro)]⟩,
  ⟨.MGT_OPT_DATA, 0x710, 8, 0x20, 4, 0x4, false, .mgt, .keep, fun i j => [(MGT_OPT_DATA.data i j, .rw)]⟩,
  ⟨.MGT_PROT_CFG, 0x400, 1, 0x0, 1, 0x0, false, .mgt, .keep, fun _ _ => [(MGT_PROT_CFG.en, .rw), (MGT_PROT_CFG.auto_take, .rw), (MGT_PROT_CFG.rel_uplink_ms, .rw), (MGT_PROT_CFG.off_delay_us, .rw)]⟩,
  ⟨.MGT_PROT_TREES, 0x404, 1, 0x0, 1, 0x0, false, .mgt, .keep, fun _ _ => [(MGT_PROT_TREES.trees, .rw)]⟩,
  ⟨.MGT_PROT_CTRL, 0x408, 1, 0x0, 1, 0x0, false, .mgt, .keep, fun _ _ => [(MGT_PROT_CTRL.release, .wsc), (MGT_PROT_CTRL.take, .wsc)]⟩,
  ⟨.MGT_PROT_STATUS, 0x40C, 1, 0x0, 1, 0x0, false, .mgt, .keep, fun _ _ => [(MGT_PROT_STATUS.prio, .ro), (MGT_PROT_STATUS.hold_in, .ro), (MGT_PROT_STATUS.hold_out, .ro), (MGT_PROT_STATUS.state, .ro)]⟩,
  ⟨.MGT_PROT_EVENT, 0x410, 1, 0x0, 1, 0x0, false, .mgt, .keep, fun _ _ => [(MGT_PROT_EVENT.peer_lost, .w1cs), (MGT_PROT_EVENT.conflict, .w1cs), (MGT_PROT_EVENT.take_contest, .w1cs), (MGT_PROT_EVENT.take_refused, .w1cs), (MGT_PROT_EVENT.released, .w1cs), (MGT_PROT_EVENT.taken, .w1cs)]⟩,
  ⟨.MGT_PROT_US_LIGHT, 0x414, 1, 0x0, 1, 0x0, false, .mgt, .keep, fun _ _ => [(MGT_PROT_US_LIGHT.light, .ro)]⟩,
  ⟨.MGT_PROT_SWITCH_CNT, 0x418, 1, 0x0, 1, 0x0, false, .mgt, .keep, fun _ _ => [(MGT_PROT_SWITCH_CNT.count, .rc)]⟩,
  ⟨.MGT_RET_FAIL, 0x500, 5, 0x4, 1, 0x0, false, .mgt, .keep, fun i _ => [(MGT_RET_FAIL.banks i, .w1cs)]⟩,
  ⟨.MGT_IDENTITY, 0x0, 1, 0x0, 1, 0x0, false, .mgt, .keep, fun _ _ => [(MGT_IDENTITY.part, .ro), (MGT_IDENTITY.vendor, .ro), (MGT_IDENTITY.rev, .ro)]⟩,
  ⟨.MGT_INT_SUMMARY, 0x600, 1, 0x0, 1, 0x0, false, .mgt, .keep, fun _ _ => [(MGT_INT_SUMMARY.blocks, .ro)]⟩,
  ⟨.MGT_INT_HOST_MASK, 0x604, 1, 0x0, 1, 0x0, false, .mgt, .keep, fun _ _ => [(MGT_INT_HOST_MASK.blocks, .rw)]⟩,
  ⟨.MGT_INT_POL_MASK, 0x608, 1, 0x0, 1, 0x0, false, .mgt, .keep, fun _ _ => [(MGT_INT_POL_MASK.blocks, .rw)]⟩]

def rowsMGT1 : List Row := [
  ⟨.MGT_INT_TREE, 0x60C, 1, 0x0, 1, 0x0, false, .mgt, .keep, fun _ _ => [(MGT_INT_TREE.trees, .ro)]⟩,
  ⟨.MGT_UNMAPPED_LAST, 0x610, 1, 0x0, 1, 0x0, true, .mgt, .keep, fun _ _ => [(MGT_UNMAPPED_LAST.last, .ro)]⟩,
  ⟨.MGT_UNMAPPED_CNT, 0x618, 1, 0x0, 1, 0x0, false, .mgt, .keep, fun _ _ => [(MGT_UNMAPPED_CNT.count, .rc)]⟩,
  ⟨.MGT_INT_AUX, 0x61C, 1, 0x0, 1, 0x0, false, .mgt, .keep, fun _ _ => [(MGT_INT_AUX.fw_load_failed, .w1cs), (MGT_INT_AUX.fw_load_done, .w1cs), (MGT_INT_AUX.pol_crash, .w1cs)]⟩]

def rowsSIL0 : List Row := [
  ⟨.SIL_CTRL, 0x1000000, 1, 0x0, 1, 0x0, false, .mgt, .keep, fun _ _ => [(SIL_CTRL.revoke, .wo), (SIL_CTRL.burn_svn, .wsc), (SIL_CTRL.unstructure, .wsc), (SIL_CTRL.load, .wsc)]⟩,
  ⟨.SIL_STATUS, 0x1000004, 1, 0x0, 1, 0x0, false, .mgt, .keep, fun _ _ => [(SIL_STATUS.step, .ro), (SIL_STATUS.error, .ro), (SIL_STATUS.partial, .ro), (SIL_STATUS.busy, .ro), (SIL_STATUS.state, .ro)]⟩,
  ⟨.SIL_EVENT, 0x1000008, 1, 0x0, 1, 0x0, false, .mgt, .keep, fun _ _ => [(SIL_EVENT.tree_hold, .w1cs), (SIL_EVENT.stage_write_busy, .w1cs), (SIL_EVENT.load_failed, .w1cs), (SIL_EVENT.load_done, .w1cs)]⟩,
  ⟨.SIL_STAGE_LEN, 0x100000C, 1, 0x0, 1, 0x0, false, .mgt, .keep, fun _ _ => [(SIL_STAGE_LEN.length, .rw)]⟩,
  ⟨.SIL_CHECK_FAIL, 0x1000010, 1, 0x0, 1, 0x0, false, .mgt, .keep, fun _ _ => [(SIL_CHECK_FAIL.entry, .ro), (SIL_CHECK_FAIL.check, .ro), (SIL_CHECK_FAIL.drawer, .ro)]⟩,
  ⟨.SIL_LOADED, 0x1000014, 1, 0x0, 1, 0x0, false, .mgt, .keep, fun _ _ => [(SIL_LOADED.key_slot, .ro), (SIL_LOADED.svn, .ro), (SIL_LOADED.partials, .ro)]⟩,
  ⟨.SIL_BUILD, 0x1000018, 1, 0x0, 1, 0x0, true, .mgt, .keep, fun _ _ => [(SIL_BUILD.build, .ro)]⟩,
  ⟨.SIL_FUSE_KEY, 0x1000020, 1, 0x0, 1, 0x0, false, .mgt, .keep, fun _ _ => [(SIL_FUSE_KEY.revoked, .ro), (SIL_FUSE_KEY.programmed, .ro)]⟩,
  ⟨.SIL_FUSE_SVN, 0x1000024, 1, 0x0, 1, 0x0, false, .mgt, .keep, fun _ _ => [(SIL_FUSE_SVN.min_svn, .ro)]⟩,
  ⟨.SIL_LOAD_CNT, 0x1000028, 1, 0x0, 1, 0x0, false, .mgt, .keep, fun _ _ => [(SIL_LOAD_CNT.partial, .rc), (SIL_LOAD_CNT.full, .rc)]⟩,
  ⟨.SIL_FAIL_CNT, 0x100002C, 1, 0x0, 1, 0x0, false, .mgt, .keep, fun _ _ => [(SIL_FAIL_CNT.busy, .rc), (SIL_FAIL_CNT.failed, .rc)]⟩,
  ⟨.SIL_UNSTRUCT_DISCARD, 0x1000030, 1, 0x0, 1, 0x0, true, .mgt, .keep, fun _ _ => [(SIL_UNSTRUCT_DISCARD.count, .ro)]⟩,
  ⟨.SIL_PARTIAL_DONE, 0x1000038, 1, 0x0, 1, 0x0, false, .mgt, .keep, fun _ _ => [(SIL_PARTIAL_DONE.trees, .ro)]⟩,
  ⟨.SIL_PARTIAL_TENANT, 0x1000070, 1, 0x0, 1, 0x0, true, .mgt, .keep, fun _ _ => [(SIL_PARTIAL_TENANT.tenants, .ro)]⟩,
  ⟨.SIL_IMAGE_HASH, 0x1000040, 12, 0x4, 1, 0x0, false, .mgt, .keep, fun i _ => [(SIL_IMAGE_HASH.hash i, .ro)]⟩]

def rowsTE0 : List Row := [
  ⟨.TE_CTRL, 0x10000000, 32, 0x100000, 1, 0x0, false, .tree, .countersAndW1c, fun i _ => [(TE_CTRL.wake i, .wsc), (TE_CTRL.state_req i, .rw)]⟩,
  ⟨.TE_STATUS, 0x10000004, 32, 0x100000, 1, 0x0, false, .tree, .countersAndW1c, fun i _ => [(TE_STATUS.active i, .ro), (TE_STATUS.laser_permit i, .ro), (TE_STATUS.txdis i, .ro), (TE_STATUS.cs_filling i, .ro), (TE_STATUS.state i, .ro)]⟩,
  ⟨.TE_EVENT, 0x10000008, 32, 0x100000, 1, 0x0, false, .tree, .countersAndW1c, fun i _ => [(TE_EVENT.sfc_load_refused i, .w1cs), (TE_EVENT.brst_clamped i, .w1cs), (TE_EVENT.key_lost i, .w1cs), (TE_EVENT.key_refused i, .w1cs), (TE_EVENT.key_wrap i, .w1cs), (TE_EVENT.cs_took_over i, .w1cs), (TE_EVENT.light_fail i, .w1cs)]⟩,
  ⟨.TE_FRAME_CFG, 0x10000010, 32, 0x100000, 1, 0x0, false, .tree, .countersAndW1c, fun i _ => [(TE_FRAME_CFG.reasm_frames i, .rw), (TE_FRAME_CFG.max_len i, .rw)]⟩,
  ⟨.TE_BURST_WIN, 0x10000014, 32, 0x100000, 1, 0x0, false, .tree, .countersAndW1c, fun i _ => [(TE_BURST_WIN.max_err i, .rw), (TE_BURST_WIN.half_bits i, .rw)]⟩,
  ⟨.TE_BRST_CFG, 0x10000018, 32, 0x100000, 1, 0x0, false, .tree, .countersAndW1c, fun i _ => [(TE_BRST_CFG.mode i, .rw), (TE_BRST_CFG.pol i, .rw), (TE_BRST_CFG.width i, .rw), (TE_BRST_CFG.delay i, .rw)]⟩,
  ⟨.TE_TX_CFG, 0x1000001C, 32, 0x100000, 1, 0x0, false, .tree, .countersAndW1c, fun i _ => [(TE_TX_CFG.txdis_pol i, .rw), (TE_TX_CFG.on_delay_us i, .rw)]⟩,
  ⟨.TE_DOZE_CFG, 0x10000020, 32, 0x100000, 1, 0x0, false, .tree, .countersAndW1c, fun i _ => [(TE_DOZE_CFG.disc_period i, .rw), (TE_DOZE_CFG.idle_s i, .rw)]⟩,
  ⟨.TE_KEY_SWITCH, 0x10000030, 32, 0x100000, 1, 0x0, false, .tree, .countersAndW1c, fun i _ => [(TE_KEY_SWITCH.pending i, .ro), (TE_KEY_SWITCH.ahead i, .rw), (TE_KEY_SWITCH.terminal i, .rw), (TE_KEY_SWITCH.index i, .rw), (TE_KEY_SWITCH.bcast i, .rw), (TE_KEY_SWITCH.go i, .wsc)]⟩,
  ⟨.TE_KEY_SW_SFC, 0x10000034, 32, 0x100000, 1, 0x0, true, .tree, .countersAndW1c, fun i _ => [(TE_KEY_SW_SFC.sfc i, .ro)]⟩,
  ⟨.TE_DELIM_FALSE_CNT, 0x10000100, 32, 0x100000, 1, 0x0, false, .tree, .countersAndW1c, fun i _ => [(TE_DELIM_FALSE_CNT.count i, .rc)]⟩,
  ⟨.TE_DELIM_MISS_CNT, 0x10000104, 32, 0x100000, 1, 0x0, false, .tree, .countersAndW1c, fun i _ => [(TE_DELIM_MISS_CNT.count i, .rc)]⟩,
  ⟨.TE_WRONG_ID_CNT, 0x10000108, 32, 0x100000, 1, 0x0, false, .tree, .countersAndW1c, fun i _ => [(TE_WRONG_ID_CNT.count i, .rc)]⟩,
  ⟨.TE_XGEM_HEC_CNT, 0x1000010C, 32, 0x100000, 1, 0x0, false, .tree, .countersAndW1c, fun i _ => [(TE_XGEM_HEC_CNT.count i, .rc)]⟩,
  ⟨.TE_REASM_TO_CNT, 0x10000110, 32, 0x100000, 1, 0x0, false, .tree, .countersAndW1c, fun i _ => [(TE_REASM_TO_CNT.count i, .rc)]⟩,
  ⟨.TE_OVERSIZE_CNT, 0x10000114, 32, 0x100000, 1, 0x0, false, .tree, .countersAndW1c, fun i _ => [(TE_OVERSIZE_CNT.count i, .rc)]⟩,
  ⟨.TE_KEY_INVALID_CNT, 0x10000118, 32, 0x100000, 1, 0x0, false, .tree, .countersAndW1c, fun i _ => [(TE_KEY_INVALID_CNT.count i, .rc)]⟩,
  ⟨.TE_FRAG_CNT, 0x1000011C, 32, 0x100000, 1, 0x0, false, .tree, .countersAndW1c, fun i _ => [(TE_FRAG_CNT.count i, .rc)]⟩,
  ⟨.TE_EDGE_WAIT_CNT, 0x10000120, 32, 0x100000, 1, 0x0, false, .tree, .countersAndW1c, fun i _ => [(TE_EDGE_WAIT_CNT.count i, .rc)]⟩,
  ⟨.TE_CS_FILL_CNT, 0x10080004, 32, 0x100000, 1, 0x0, false, .chiplet, .keep, fun i _ => [(TE_CS_FILL_CNT.count i, .rc)]⟩,
  ⟨.TE_CS_LOST_ALLOC_CNT, 0x10080008, 32, 0x100000, 1, 0x0, false, .chiplet, .keep, fun i _ => [(TE_CS_LOST_ALLOC_CNT.count i, .rc)]⟩,
  ⟨.TE_CS_CTRL, 0x10080000, 32, 0x100000, 1, 0x0, false, .chiplet, .keep, fun i _ => [(TE_CS_CTRL.sfc_load i, .wsc)]⟩,
  ⟨.TE_SFC, 0x10080010, 32, 0x100000, 1, 0x0, true, .chiplet, .keep, fun i _ => [(TE_SFC.sfc i, .ro)]⟩,
  ⟨.TE_SFC_SET, 0x10080018, 32, 0x100000, 1, 0x0, true, .chiplet, .keep, fun i _ => [(TE_SFC_SET.sfc i, .rw)]⟩]

def rowsTE1 : List Row := [
  ⟨.TE_ACT_CFG, 0x10000200, 32, 0x100000, 1, 0x0, false, .tree, .countersAndW1c, fun i _ => [(TE_ACT_CFG.disc_en i, .rw), (TE_ACT_CFG.rng_retries i, .rw), (TE_ACT_CFG.sn_period_ms i, .rw), (TE_ACT_CFG.approve_ms i, .rw)]⟩,
  ⟨.TE_RNG_CFG, 0x10000204, 32, 0x100000, 1, 0x0, false, .tree, .countersAndW1c, fun i _ => [(TE_RNG_CFG.lob_n i, .rw), (TE_RNG_CFG.drift_bits i, .rw), (TE_RNG_CFG.drift_n i, .rw), (TE_RNG_CFG.hold_s i, .rw)]⟩,
  ⟨.TE_TDD_CFG, 0x10000208, 32, 0x100000, 1, 0x0, false, .tree, .countersAndW1c, fun i _ => [(TE_TDD_CFG.en i, .rw), (TE_TDD_CFG.period_slots i, .rw), (TE_TDD_CFG.phase_us i, .rw)]⟩,
  ⟨.TE_TDD_W, 0x10000240, 32, 0x100000, 10, 0x4, false, .tree, .countersAndW1c, fun i j => ((List.range 8).map fun m => (TE_TDD_W.weight i (8 * j + m), Acc.rw))⟩,
  ⟨.TE_TRUNK, 0x1000020C, 32, 0x100000, 1, 0x0, false, .tree, .countersAndW1c, fun i _ => [(TE_TRUNK.active i, .rw), (TE_TRUNK.rt_ps_per_m i, .rw)]⟩,
  ⟨.TE_TERM_CMD, 0x10000210, 32, 0x100000, 1, 0x0, false, .tree, .countersAndW1c, fun i _ => [(TE_TERM_CMD.go i, .wsc), (TE_TERM_CMD.cmd i, .rw), (TE_TERM_CMD.onu i, .rw)]⟩,
  ⟨.TE_RNG_STATUS, 0x10000214, 32, 0x100000, 1, 0x0, false, .tree, .countersAndW1c, fun i _ => [(TE_RNG_STATUS.no_discovery i, .ro), (TE_RNG_STATUS.rerange_active i, .ro), (TE_RNG_STATUS.held i, .ro)]⟩,
  ⟨.TE_RNG_EVENT, 0x10000218, 32, 0x100000, 1, 0x0, false, .tree, .countersAndW1c, fun i _ => [(TE_RNG_EVENT.cmd_refused i, .w1cs), (TE_RNG_EVENT.trunk_reach i, .w1cs), (TE_RNG_EVENT.tdd_refused i, .w1cs), (TE_RNG_EVENT.rerange_all i, .w1cs), (TE_RNG_EVENT.dup_serial i, .w1cs)]⟩,
  ⟨.TE_TEQ, 0x1000021C, 32, 0x100000, 1, 0x0, false, .tree, .countersAndW1c, fun i _ => [(TE_TEQ.teq i, .ro)]⟩,
  ⟨.TE_DEREG_LAST, 0x10000220, 32, 0x100000, 1, 0x0, false, .tree, .countersAndW1c, fun i _ => [(TE_DEREG_LAST.cause i, .ro), (TE_DEREG_LAST.onu i, .ro)]⟩,
  ⟨.TE_SN_RESP_CNT, 0x10000280, 32, 0x100000, 1, 0x0, false, .tree, .countersAndW1c, fun i _ => [(TE_SN_RESP_CNT.count i, .rc)]⟩,
  ⟨.TE_SN_COLL_CNT, 0x10000284, 32, 0x100000, 1, 0x0, false, .tree, .countersAndW1c, fun i _ => [(TE_SN_COLL_CNT.count i, .rc)]⟩,
  ⟨.TE_QW_SKIP_CNT, 0x10000288, 32, 0x100000, 1, 0x0, false, .tree, .countersAndW1c, fun i _ => [(TE_QW_SKIP_CNT.count i, .rc)]⟩,
  ⟨.TE_RNG_FAIL_CNT, 0x1000028C, 32, 0x100000, 1, 0x0, false, .tree, .countersAndW1c, fun i _ => [(TE_RNG_FAIL_CNT.count i, .rc)]⟩,
  ⟨.TE_DRIFT_ADJ_CNT, 0x10000290, 32, 0x100000, 1, 0x0, false, .tree, .countersAndW1c, fun i _ => [(TE_DRIFT_ADJ_CNT.count i, .rc)]⟩,
  ⟨.TE_DEREG_CNT, 0x10000294, 32, 0x100000, 1, 0x0, false, .tree, .countersAndW1c, fun i _ => [(TE_DEREG_CNT.count i, .rc)]⟩,
  ⟨.TE_PLOAM_MIC_CNT, 0x10000298, 32, 0x100000, 1, 0x0, false, .tree, .countersAndW1c, fun i _ => [(TE_PLOAM_MIC_CNT.count i, .rc)]⟩]

def rowsGE0 : List Row := [
  ⟨.GE_MAP_CTRL, 0x30000000, 1, 0x0, 1, 0x0, false, (.island 10), .countersAndW1c, fun _ _ => [(GE_MAP_CTRL.run_ahead, .rw)]⟩,
  ⟨.GE_STATUS, 0x30000004, 1, 0x0, 1, 0x0, false, (.island 10), .allButW1cs, fun _ _ => [(GE_STATUS.agr_used, .ro), (GE_STATUS.build_us, .ro)]⟩,
  ⟨.GE_EVENT, 0x30000008, 1, 0x0, 1, 0x0, false, (.island 10), .countersAndW1c, fun _ _ => [(GE_EVENT.build_late, .w1cs), (GE_EVENT.agr_full, .w1cs), (GE_EVENT.agr_bad, .w1cs), (GE_EVENT.limit_fail, .w1cs), (GE_EVENT.alloc_refused, .w1cs), (GE_EVENT.ra_refused, .w1cs)]⟩,
  ⟨.GE_AGR_CFG, 0x3000000C, 1, 0x0, 1, 0x0, false, (.island 10), .countersAndW1c, fun _ _ => [(GE_AGR_CFG.en, .rw), (GE_AGR_CFG.ethertype, .rw)]⟩,
  ⟨.GE_FW_CFG, 0x30000010, 1, 0x0, 1, 0x0, false, (.island 10), .countersAndW1c, fun _ _ => [(GE_FW_CFG.digest_frames, .rw)]⟩,
  ⟨.GE_ALLOC_REFUSE, 0x30000014, 1, 0x0, 1, 0x0, false, (.island 10), .allButW1cs, fun _ _ => [(GE_ALLOC_REFUSE.tree, .ro), (GE_ALLOC_REFUSE.index, .ro), (GE_ALLOC_REFUSE.reason, .ro)]⟩,
  ⟨.GE_AGR_LAST_BAD, 0x30000018, 1, 0x0, 1, 0x0, false, (.island 10), .allButW1cs, fun _ _ => [(GE_AGR_LAST_BAD.reason, .ro), (GE_AGR_LAST_BAD.tree, .ro), (GE_AGR_LAST_BAD.seq, .ro)]⟩,
  ⟨.GE_TREE_CFG, 0x30001000, 32, 0x100, 1, 0x0, false, (.island 10), .countersAndW1c, fun i _ => [(GE_TREE_CFG.guard_extra i, .rw), (GE_TREE_CFG.cal_max i, .rw), (GE_TREE_CFG.be_min_oct i, .rw)]⟩,
  ⟨.GE_TREE_RES, 0x30001004, 32, 0x100, 1, 0x0, false, (.island 10), .countersAndW1c, fun i _ => [(GE_TREE_RES.be_res_oct i, .rw)]⟩,
  ⟨.GE_TREE_CALRES, 0x30001010, 32, 0x100, 1, 0x0, false, (.island 10), .countersAndW1c, fun i _ => [(GE_TREE_CALRES.cal_res_oct i, .rw)]⟩,
  ⟨.GE_TREE_STAT, 0x30001008, 32, 0x100, 1, 0x0, false, (.island 10), .countersAndW1c, fun i _ => [(GE_TREE_STAT.word_oct i, .ro), (GE_TREE_STAT.ovh_max i, .ro), (GE_TREE_STAT.guar_count i, .ro)]⟩,
  ⟨.GE_TREE_COMMIT, 0x3000100C, 32, 0x100, 1, 0x0, false, (.island 10), .countersAndW1c, fun i _ => [(GE_TREE_COMMIT.committed i, .ro)]⟩,
  ⟨.GE_AGR_RX_CNT, 0x30000100, 1, 0x0, 1, 0x0, false, (.island 10), .countersAndW1c, fun _ _ => [(GE_AGR_RX_CNT.count, .rc)]⟩,
  ⟨.GE_AGR_LATE_CNT, 0x30000104, 1, 0x0, 1, 0x0, false, (.island 10), .countersAndW1c, fun _ _ => [(GE_AGR_LATE_CNT.count, .rc)]⟩,
  ⟨.GE_AGR_BAD_CNT, 0x30000108, 1, 0x0, 1, 0x0, false, (.island 10), .countersAndW1c, fun _ _ => [(GE_AGR_BAD_CNT.count, .rc)]⟩,
  ⟨.GE_AGR_CUT_CNT, 0x3000010C, 1, 0x0, 1, 0x0, false, (.island 10), .countersAndW1c, fun _ _ => [(GE_AGR_CUT_CNT.count, .rc)]⟩,
  ⟨.GE_AGR_CANCEL_CNT, 0x30000110, 1, 0x0, 1, 0x0, false, (.island 10), .countersAndW1c, fun _ _ => [(GE_AGR_CANCEL_CNT.count, .rc)]⟩,
  ⟨.GE_AGR_FULL_CNT, 0x30000114, 1, 0x0, 1, 0x0, false, (.island 10), .countersAndW1c, fun _ _ => [(GE_AGR_FULL_CNT.count, .rc)]⟩,
  ⟨.GE_AGR_MISS_CNT, 0x30000118, 1, 0x0, 1, 0x0, false, (.island 10), .countersAndW1c, fun _ _ => [(GE_AGR_MISS_CNT.count, .rc)]⟩,
  ⟨.GE_BUILD_LATE_CNT, 0x3000011C, 1, 0x0, 1, 0x0, false, (.island 10), .countersAndW1c, fun _ _ => [(GE_BUILD_LATE_CNT.count, .rc)]⟩,
  ⟨.GE_ORPHAN_CNT, 0x30001040, 32, 0x100, 1, 0x0, false, (.island 10), .countersAndW1c, fun i _ => [(GE_ORPHAN_CNT.count i, .rc)]⟩,
  ⟨.GE_EMPTY_CNT, 0x30001044, 32, 0x100, 1, 0x0, false, (.island 10), .countersAndW1c, fun i _ => [(GE_EMPTY_CNT.count i, .rc)]⟩,
  ⟨.GE_TRIM_CNT, 0x30001048, 32, 0x100, 1, 0x0, false, (.island 10), .countersAndW1c, fun i _ => [(GE_TRIM_CNT.count i, .rc)]⟩,
  ⟨.GE_DISPLACED_CNT, 0x3000104C, 32, 0x100, 1, 0x0, false, (.island 10), .countersAndW1c, fun i _ => [(GE_DISPLACED_CNT.count i, .rc)]⟩]

def rowsGE1 : List Row := [
  ⟨.GE_BE_IMPAIR_CNT, 0x30001050, 32, 0x100, 1, 0x0, false, (.island 10), .countersAndW1c, fun i _ => [(GE_BE_IMPAIR_CNT.count i, .rc)]⟩,
  ⟨.GE_LIMIT_FAIL_CNT, 0x30001054, 32, 0x100, 1, 0x0, false, (.island 10), .countersAndW1c, fun i _ => [(GE_LIMIT_FAIL_CNT.count i, .rc)]⟩,
  ⟨.GE_FALLBACK_CNT, 0x30001058, 32, 0x100, 1, 0x0, false, (.island 10), .countersAndW1c, fun i _ => [(GE_FALLBACK_CNT.count i, .rc)]⟩,
  ⟨.GE_RECOMP_CNT, 0x3000105C, 32, 0x100, 1, 0x0, false, (.island 10), .countersAndW1c, fun i _ => [(GE_RECOMP_CNT.count i, .rc)]⟩]

def rowsMIR0 : List Row := [
  ⟨.MIR_CTRL, 0x34000000, 1, 0x0, 1, 0x0, false, (.island 11), .allButW1cs, fun _ _ => [(MIR_CTRL.force_check, .wsc), (MIR_CTRL.swap, .wsc), (MIR_CTRL.gap_mode, .rw)]⟩,
  ⟨.MIR_STATUS, 0x34000004, 1, 0x0, 1, 0x0, false, (.island 11), .allButW1cs, fun _ _ => [(MIR_STATUS.unmirrored, .ro), (MIR_STATUS.gap, .ro), (MIR_STATUS.core1, .ro), (MIR_STATUS.core0, .ro)]⟩,
  ⟨.MIR_EVENT, 0x34000008, 1, 0x0, 1, 0x0, false, (.island 11), .allButW1cs, fun _ _ => [(MIR_EVENT.fb_corrupt, .w1cs), (MIR_EVENT.late, .w1cs), (MIR_EVENT.unmirrored, .w1cs), (MIR_EVENT.core_retired, .w1cs), (MIR_EVENT.check_fail_ge, .w1cs), (MIR_EVENT.check_fail_mir, .w1cs), (MIR_EVENT.mismatch, .w1cs)]⟩,
  ⟨.MIR_LAST_MISMATCH, 0x3400000C, 1, 0x0, 1, 0x0, false, (.island 11), .allButW1cs, fun _ _ => [(MIR_LAST_MISMATCH.tree, .ro), (MIR_LAST_MISMATCH.kind, .ro), (MIR_LAST_MISMATCH.index, .ro), (MIR_LAST_MISMATCH.sfc, .ro)]⟩,
  ⟨.MIR_PRIV, 0x34000010, 1, 0x0, 1, 0x0, false, (.island 11), .allButW1cs, fun _ _ => [(MIR_PRIV.trees, .ro)]⟩,
  ⟨.MIR_MISMATCH_CNT, 0x34000100, 1, 0x0, 1, 0x0, false, (.island 11), .allButW1cs, fun _ _ => [(MIR_MISMATCH_CNT.count, .rc)]⟩,
  ⟨.MIR_CHECK_CNT, 0x34000104, 1, 0x0, 1, 0x0, false, (.island 11), .allButW1cs, fun _ _ => [(MIR_CHECK_CNT.count, .rc)]⟩,
  ⟨.MIR_SWAP_CNT, 0x34000108, 1, 0x0, 1, 0x0, false, (.island 11), .allButW1cs, fun _ _ => [(MIR_SWAP_CNT.count, .rc)]⟩,
  ⟨.MIR_GAP_CNT, 0x3400010C, 1, 0x0, 1, 0x0, false, (.island 11), .allButW1cs, fun _ _ => [(MIR_GAP_CNT.count, .rc)]⟩,
  ⟨.MIR_UNMIRRORED_CNT, 0x34000110, 1, 0x0, 1, 0x0, false, (.island 11), .allButW1cs, fun _ _ => [(MIR_UNMIRRORED_CNT.count, .rc)]⟩]

def rowsUL0 : List Row := [
  ⟨.UL_FRER_CFG, 0xA0008000, 1, 0x0, 1, 0x0, false, (.island 22), .allButW1cs, fun _ _ => [(UL_FRER_CFG.rcv_en, .rw), (UL_FRER_CFG.gen_en, .rw)]⟩,
  ⟨.UL_FRER_EVENT, 0xA0008004, 1, 0x0, 1, 0x0, false, (.island 22), .allButW1cs, fun _ _ => [(UL_FRER_EVENT.no_tag, .w1cs), (UL_FRER_EVENT.reset, .w1cs), (UL_FRER_EVENT.rogue, .w1cs)]⟩,
  ⟨.UL_FRER_DISC_CNT, 0xA0008008, 1, 0x0, 1, 0x0, false, (.island 22), .allButW1cs, fun _ _ => [(UL_FRER_DISC_CNT.count, .rc)]⟩,
  ⟨.UL_FRER_ROGUE_CNT, 0xA000800C, 1, 0x0, 1, 0x0, false, (.island 22), .allButW1cs, fun _ _ => [(UL_FRER_ROGUE_CNT.count, .rc)]⟩,
  ⟨.UL_FRER_NOTAG_CNT, 0xA0008010, 1, 0x0, 1, 0x0, false, (.island 22), .allButW1cs, fun _ _ => [(UL_FRER_NOTAG_CNT.count, .rc)]⟩,
  ⟨.UL_PORT_CFG, 0xA0000000, 4, 0x100, 1, 0x0, false, .chiplet, .keep, fun i _ => [(UL_PORT_CFG.admin_en i, .rw), (UL_PORT_CFG.down_ms i, .rw), (UL_PORT_CFG.up_ms i, .rw)]⟩,
  ⟨.UL_PORT_STATUS, 0xA0000004, 4, 0x100, 1, 0x0, false, .chiplet, .keep, fun i _ => [(UL_PORT_STATUS.link i, .ro), (UL_PORT_STATUS.raw_up i, .ro), (UL_PORT_STATUS.swap_hold i, .ro), (UL_PORT_STATUS.out_of_service i, .ro), (UL_PORT_STATUS.lane_base i, .ro), (UL_PORT_STATUS.mode i, .ro)]⟩,
  ⟨.UL_PORT_EVENT, 0xA0000008, 4, 0x100, 1, 0x0, false, .chiplet, .keep, fun i _ => [(UL_PORT_EVENT.bench_busy i, .w1cs), (UL_PORT_EVENT.stepped_down i, .w1cs), (UL_PORT_EVENT.skew_fail i, .w1cs), (UL_PORT_EVENT.link_down i, .w1cs)]⟩,
  ⟨.UL_PORT_INJ, 0xA000000C, 4, 0x100, 1, 0x0, false, .chiplet, .keep, fun i _ => [(UL_PORT_INJ.en i, .rw), (UL_PORT_INJ.symbols i, .rw), (UL_PORT_INJ.every i, .rw)]⟩,
  ⟨.UL_LANE_STATUS, 0xA0000400, 32, 0x4, 1, 0x0, false, .chiplet, .keep, fun i _ => [(UL_LANE_STATUS.am_lock i, .ro), (UL_LANE_STATUS.signal i, .ro), (UL_LANE_STATUS.slice_ok i, .ro), (UL_LANE_STATUS.skew_ns i, .ro), (UL_LANE_STATUS.pcs_lane i, .ro)]⟩,
  ⟨.UL_SIDE_STATUS, 0xA0000500, 1, 0x0, 1, 0x0, false, .chiplet, .keep, fun _ _ => [(UL_SIDE_STATUS.b_down, .ro), (UL_SIDE_STATUS.a_down, .ro)]⟩,
  ⟨.UL_FEC_CORR, 0xA0000040, 4, 0x100, 1, 0x0, true, .chiplet, .keep, fun i _ => [(UL_FEC_CORR.count i, .ro)]⟩,
  ⟨.UL_FEC_UNCORR, 0xA0000048, 4, 0x100, 1, 0x0, true, .chiplet, .keep, fun i _ => [(UL_FEC_UNCORR.count i, .ro)]⟩,
  ⟨.UL_LINK_DOWN_CNT, 0xA0000050, 4, 0x100, 1, 0x0, false, .chiplet, .keep, fun i _ => [(UL_LINK_DOWN_CNT.count i, .rc)]⟩,
  ⟨.UL_SWAP_CNT, 0xA0000054, 4, 0x100, 1, 0x0, false, .chiplet, .keep, fun i _ => [(UL_SWAP_CNT.count i, .rc)]⟩,
  ⟨.UL_GATE_OVERRUN_CNT, 0xA0000058, 4, 0x100, 1, 0x0, false, .chiplet, .keep, fun i _ => [(UL_GATE_OVERRUN_CNT.count i, .rc)]⟩,
  ⟨.UL_RX_RESET_DROP_CNT, 0xA000005C, 4, 0x100, 1, 0x0, false, .chiplet, .keep, fun i _ => [(UL_RX_RESET_DROP_CNT.count i, .rc)]⟩,
  ⟨.BENCH_CFG, 0xA0004000, 69, 0x20, 1, 0x0, false, .chiplet, .keep, fun i _ => [(BENCH_CFG.en i, .rw), (BENCH_CFG.loop i, .rw), (BENCH_CFG.pattern i, .rw), (BENCH_CFG.gen_en i, .rw), (BENCH_CFG.chk_en i, .rw), (BENCH_CFG.inj_exp i, .rw)]⟩,
  ⟨.BENCH_CTRL, 0xA0004004, 69, 0x20, 1, 0x0, false, .chiplet, .keep, fun i _ => [(BENCH_CTRL.clear i, .wsc), (BENCH_CTRL.inject i, .wsc)]⟩,
  ⟨.BENCH_STATUS, 0xA0004008, 69, 0x20, 1, 0x0, false, .chiplet, .keep, fun i _ => [(BENCH_STATUS.locked i, .ro), (BENCH_STATUS.refused i, .w1cs), (BENCH_STATUS.ended i, .w1cs), (BENCH_STATUS.lock_loss i, .ro)]⟩,
  ⟨.BENCH_BITS, 0xA000400C, 69, 0x20, 1, 0x0, true, .chiplet, .keep, fun i _ => [(BENCH_BITS.count i, .ro)]⟩,
  ⟨.BENCH_ERR, 0xA0004014, 69, 0x20, 1, 0x0, true, .chiplet, .keep, fun i _ => [(BENCH_ERR.count i, .ro)]⟩,
  ⟨.BENCH_USER, 0xA0004F00, 1, 0x0, 1, 0x0, true, .chiplet, .keep, fun _ _ => [(BENCH_USER.pattern, .rw)]⟩]

def rowsBC0 : List Row := [
  ⟨.BC_CFG, 0x38000000, 1, 0x0, 1, 0x0, false, (.island 12), .countersAndW1c, fun _ _ => [(BC_CFG.demote_n, .rw), (BC_CFG.promote_n, .rw), (BC_CFG.hyst_pct, .rw), (BC_CFG.load_win_sh, .rw), (BC_CFG.alpha_sh, .rw)]⟩,
  ⟨.BC_STATUS, 0x38000004, 1, 0x0, 1, 0x0, false, (.island 12), .countersAndW1c, fun _ _ => [(BC_STATUS.bank_unwritten, .ro)]⟩,
  ⟨.BC_EVENT, 0x38000008, 1, 0x0, 1, 0x0, false, (.island 12), .countersAndW1c, fun _ _ => [(BC_EVENT.p3_short, .w1cs), (BC_EVENT.cmd_refused, .w1cs), (BC_EVENT.prof_refused, .w1cs), (BC_EVENT.cal_late, .w1cs), (BC_EVENT.bank_lost, .w1cs)]⟩,
  ⟨.BC_CMD, 0x3800000C, 1, 0x0, 1, 0x0, false, (.island 12), .countersAndW1c, fun _ _ => [(BC_CMD.go, .wsc), (BC_CMD.cmd, .rw), (BC_CMD.tree, .rw), (BC_CMD.onu, .rw)]⟩,
  ⟨.BC_TERM_TEMP, 0x38000010, 1, 0x0, 1, 0x0, false, (.island 12), .countersAndW1c, fun _ _ => [(BC_TERM_TEMP.go, .wsc), (BC_TERM_TEMP.temp, .rw), (BC_TERM_TEMP.tree, .rw), (BC_TERM_TEMP.onu, .rw)]⟩,
  ⟨.BC_TREE_CFG, 0x38001000, 32, 0x100, 1, 0x0, false, (.island 12), .countersAndW1c, fun i _ => [(BC_TREE_CFG.cal_en i, .rw), (BC_TREE_CFG.cal_pay_oct i, .rw), (BC_TREE_CFG.margin_oct i, .rw)]⟩,
  ⟨.BC_TREE_STAT, 0x38001004, 32, 0x100, 1, 0x0, false, (.island 12), .countersAndW1c, fun i _ => [(BC_TREE_STAT.band i, .ro), (BC_TREE_STAT.load_pct i, .ro), (BC_TREE_STAT.rx_temp i, .ro), (BC_TREE_STAT.need_max i, .ro)]⟩,
  ⟨.BC_DEF, 0x38001008, 32, 0x100, 1, 0x0, false, (.island 12), .countersAndW1c, fun i _ => [(BC_DEF.thresh i, .rw), (BC_DEF.dfe1 i, .rw), (BC_DEF.ffe_post i, .rw), (BC_DEF.ffe_pre i, .rw), (BC_DEF.ctle i, .rw)]⟩,
  ⟨.BC_PEND, 0x3800100C, 32, 0x100, 1, 0x0, false, (.island 12), .countersAndW1c, fun i _ => [(BC_PEND.pending i, .ro)]⟩,
  ⟨.BC_PROF, 0x38001010, 32, 0x100, 4, 0x4, false, (.island 12), .countersAndW1c, fun i j => [(BC_PROF.terms i j, .ro), (BC_PROF.fec i j, .rw), (BC_PROF.delim8 i j, .rw), (BC_PROF.pre_byte i j, .rw), (BC_PROF.pre_oct i j, .rw)]⟩,
  ⟨.BC_MEAS_CNT, 0x38001040, 32, 0x100, 1, 0x0, false, (.island 12), .countersAndW1c, fun i _ => [(BC_MEAS_CNT.count i, .rc)]⟩,
  ⟨.BC_REFINE_CNT, 0x38001044, 32, 0x100, 1, 0x0, false, (.island 12), .countersAndW1c, fun i _ => [(BC_REFINE_CNT.count i, .rc)]⟩,
  ⟨.BC_STALE_CNT, 0x38001048, 32, 0x100, 1, 0x0, false, (.island 12), .countersAndW1c, fun i _ => [(BC_STALE_CNT.count i, .rc)]⟩,
  ⟨.BC_BAND_CNT, 0x3800104C, 32, 0x100, 1, 0x0, false, (.island 12), .countersAndW1c, fun i _ => [(BC_BAND_CNT.count i, .rc)]⟩,
  ⟨.BC_CAL_REQ_CNT, 0x38001050, 32, 0x100, 1, 0x0, false, (.island 12), .countersAndW1c, fun i _ => [(BC_CAL_REQ_CNT.count i, .rc)]⟩,
  ⟨.BC_CAL_DONE_CNT, 0x38001054, 32, 0x100, 1, 0x0, false, (.island 12), .countersAndW1c, fun i _ => [(BC_CAL_DONE_CNT.count i, .rc)]⟩,
  ⟨.BC_CAL_LATE_CNT, 0x38001058, 32, 0x100, 1, 0x0, false, (.island 12), .countersAndW1c, fun i _ => [(BC_CAL_LATE_CNT.count i, .rc)]⟩,
  ⟨.BC_PROMOTE_CNT, 0x3800105C, 32, 0x100, 1, 0x0, false, (.island 12), .countersAndW1c, fun i _ => [(BC_PROMOTE_CNT.count i, .rc)]⟩,
  ⟨.BC_DEMOTE_CNT, 0x38001060, 32, 0x100, 1, 0x0, false, (.island 12), .countersAndW1c, fun i _ => [(BC_DEMOTE_CNT.count i, .rc)]⟩]

def rowsPR0 : List Row := [
  ⟨.PR_CTRL, 0x40000000, 1, 0x0, 1, 0x0, false, .slices, .slices, fun _ _ => [(PR_CTRL.swap, .wsc), (PR_CTRL.en, .rw)]⟩,
  ⟨.PR_GEN_STATUS, 0x40000004, 1, 0x0, 1, 0x0, false, .slices, .slices, fun _ _ => [(PR_GEN_STATUS.inflight, .ro), (PR_GEN_STATUS.draining, .ro), (PR_GEN_STATUS.active, .ro)]⟩,
  ⟨.PR_GEN_CFG, 0x40000008, 1, 0x0, 1, 0x0, false, .slices, .slices, fun _ _ => [(PR_GEN_CFG.drain_us, .rw)]⟩,
  ⟨.PR_EVENT, 0x4000000C, 1, 0x0, 1, 0x0, false, .slices, .slices, fun _ _ => [(PR_EVENT.tenant_refused, .w1cs), (PR_EVENT.drain_refused, .w1cs), (PR_EVENT.swap_done, .w1cs), (PR_EVENT.swap_refused, .w1cs), (PR_EVENT.gen_write_refused, .w1cs), (PR_EVENT.stage_discard, .w1cs), (PR_EVENT.kprof_refused, .w1cs), (PR_EVENT.parse_flag, .w1cs)]⟩,
  ⟨.PR_PARSE_CFG, 0x40000010, 1, 0x0, 1, 0x0, false, .slices, .slices, fun _ _ => [(PR_PARSE_CFG.vxlan_port, .rw), (PR_PARSE_CFG.tpid3, .rw)]⟩,
  ⟨.PR_PARSE_CFG2, 0x40000014, 1, 0x0, 1, 0x0, false, .slices, .slices, fun _ _ => [(PR_PARSE_CFG2.ecpri_port, .rw), (PR_PARSE_CFG2.gtpu_port, .rw)]⟩,
  ⟨.PR_HASH_SEED, 0x40000018, 1, 0x0, 1, 0x0, false, .slices, .slices, fun _ _ => [(PR_HASH_SEED.seed, .rw)]⟩,
  ⟨.PR_RECIRC_CFG, 0x40000020, 1, 0x0, 1, 0x0, false, .slices, .slices, fun _ _ => [(PR_RECIRC_CFG.tokens, .rw)]⟩,
  ⟨.PR_EXC_DEST, 0x40000024, 1, 0x0, 1, 0x0, false, .slices, .slices, fun _ _ => [(PR_EXC_DEST.host_flow, .rw), (PR_EXC_DEST.pol_flow, .rw)]⟩,
  ⟨.PR_KPROF, 0x40000040, 8, 0x8, 1, 0x0, true, .slices, .slices, fun i _ => [(PR_KPROF.mask i, .rw)]⟩,
  ⟨.PR_HPROF, 0x40000080, 8, 0x8, 1, 0x0, true, .slices, .slices, fun i _ => [(PR_HPROF.mask i, .rw)]⟩,
  ⟨.PR_EXC, 0x40000400, 64, 0x4, 1, 0x0, false, .slices, .slices, fun i _ => ((List.range 6).map fun m => (PR_EXC.code i m, Acc.rw))⟩,
  ⟨.PR_SLICE_STATUS, 0x40010000, 4, 0x1000, 1, 0x0, false, .slice, .slices, fun i _ => [(PR_SLICE_STATUS.waiting i, .ro), (PR_SLICE_STATUS.tokens_free i, .ro)]⟩,
  ⟨.PR_RX_CNT, 0x40010100, 4, 0x1000, 1, 0x0, false, .slice, .slices, fun i _ => [(PR_RX_CNT.count i, .rc)]⟩,
  ⟨.PR_PASS2_CNT, 0x40010104, 4, 0x1000, 1, 0x0, false, .slice, .slices, fun i _ => [(PR_PASS2_CNT.count i, .rc)]⟩,
  ⟨.PR_PARSE_DEEP_CNT, 0x40010108, 4, 0x1000, 1, 0x0, false, .slice, .slices, fun i _ => [(PR_PARSE_DEEP_CNT.count i, .rc)]⟩,
  ⟨.PR_LEN_CONFLICT_CNT, 0x4001010C, 4, 0x1000, 1, 0x0, false, .slice, .slices, fun i _ => [(PR_LEN_CONFLICT_CNT.count i, .rc)]⟩,
  ⟨.PR_CSUM_CNT, 0x40010110, 4, 0x1000, 1, 0x0, false, .slice, .slices, fun i _ => [(PR_CSUM_CNT.count i, .rc)]⟩,
  ⟨.PR_P0_MISS_CNT, 0x40010114, 4, 0x1000, 1, 0x0, false, .slice, .slices, fun i _ => [(PR_P0_MISS_CNT.count i, .rc)]⟩,
  ⟨.PR_P2_HIT_CNT, 0x40010118, 4, 0x1000, 1, 0x0, false, .slice, .slices, fun i _ => [(PR_P2_HIT_CNT.count i, .rc)]⟩,
  ⟨.PR_DENY_CNT, 0x4001011C, 4, 0x1000, 1, 0x0, false, .slice, .slices, fun i _ => [(PR_DENY_CNT.count i, .rc)]⟩,
  ⟨.PR_ACT_DROP_CNT, 0x40010120, 4, 0x1000, 1, 0x0, false, .slice, .slices, fun i _ => [(PR_ACT_DROP_CNT.count i, .rc)]⟩,
  ⟨.PR_EXC_DROP_CNT, 0x40010124, 4, 0x1000, 1, 0x0, false, .slice, .slices, fun i _ => [(PR_EXC_DROP_CNT.count i, .rc)]⟩,
  ⟨.PR_EXC_HOST_CNT, 0x40010128, 4, 0x1000, 1, 0x0, false, .slice, .slices, fun i _ => [(PR_EXC_HOST_CNT.count i, .rc)]⟩]

def rowsPR1 : List Row := [
  ⟨.PR_EXC_POL_CNT, 0x4001012C, 4, 0x1000, 1, 0x0, false, .slice, .slices, fun i _ => [(PR_EXC_POL_CNT.count i, .rc)]⟩,
  ⟨.PR_TABLE_ERR_CNT, 0x40010130, 4, 0x1000, 1, 0x0, false, .slice, .slices, fun i _ => [(PR_TABLE_ERR_CNT.count i, .rc)]⟩,
  ⟨.PR_FLOW_REFUSE_CNT, 0x40010134, 4, 0x1000, 1, 0x0, false, .slice, .slices, fun i _ => [(PR_FLOW_REFUSE_CNT.count i, .rc)]⟩,
  ⟨.PR_DRAIN_REFUSE_CNT, 0x40010138, 4, 0x1000, 1, 0x0, false, .slice, .slices, fun i _ => [(PR_DRAIN_REFUSE_CNT.count i, .rc)]⟩,
  ⟨.PR_DISABLED_CNT, 0x4001013C, 4, 0x1000, 1, 0x0, false, .slice, .slices, fun i _ => [(PR_DISABLED_CNT.count i, .rc)]⟩]

def rowsFWD0 : List Row := [
  ⟨.FWD_CTRL, 0x50000000, 1, 0x0, 1, 0x0, false, (.island 17), .countersAndW1c, fun _ _ => [(FWD_CTRL.sweep_now, .wsc), (FWD_CTRL.en, .rw)]⟩,
  ⟨.FWD_STATUS, 0x50000004, 1, 0x0, 1, 0x0, false, (.island 17), .countersAndW1c, fun _ _ => [(FWD_STATUS.pass_active, .ro), (FWD_STATUS.swap_active, .ro), (FWD_STATUS.banks_out, .ro), (FWD_STATUS.entries, .ro)]⟩,
  ⟨.FWD_EVENT, 0x50000008, 1, 0x0, 1, 0x0, false, (.island 17), .countersAndW1c, fun _ _ => [(FWD_EVENT.win_refused, .w1cs), (FWD_EVENT.bank_out, .w1cs), (FWD_EVENT.swap_done, .w1cs), (FWD_EVENT.notify_drop, .w1cs), (FWD_EVENT.lock_timeout, .w1cs), (FWD_EVENT.uncorr, .w1cs), (FWD_EVENT.no_space, .w1cs), (FWD_EVENT.static_move, .w1cs)]⟩,
  ⟨.FWD_LEARN_CFG, 0x5000000C, 1, 0x0, 1, 0x0, false, (.island 17), .countersAndW1c, fun _ _ => [(FWD_LEARN_CFG.dst_refresh, .rw), (FWD_LEARN_CFG.en, .rw)]⟩,
  ⟨.FWD_AGE_CFG, 0x50000010, 1, 0x0, 1, 0x0, false, (.island 17), .countersAndW1c, fun _ _ => [(FWD_AGE_CFG.mode, .rw), (FWD_AGE_CFG.notify, .rw), (FWD_AGE_CFG.en, .rw), (FWD_AGE_CFG.period_s, .rw), (FWD_AGE_CFG.age_s, .rw)]⟩,
  ⟨.FWD_NOW, 0x50000014, 1, 0x0, 1, 0x0, false, (.island 17), .countersAndW1c, fun _ _ => [(FWD_NOW.now, .ro)]⟩,
  ⟨.FWD_BANK_MAP, 0x50000018, 1, 0x0, 1, 0x0, false, (.island 17), .countersAndW1c, fun _ _ => ((List.range 8).map fun m => (FWD_BANK_MAP.phys m, Acc.ro))⟩,
  ⟨.FWD_LOCK_CFG, 0x5000001C, 1, 0x0, 1, 0x0, false, (.island 17), .countersAndW1c, fun _ _ => [(FWD_LOCK_CFG.lock_us, .rw)]⟩,
  ⟨.FWD_VERSION, 0x50000020, 1, 0x0, 1, 0x0, false, (.island 17), .countersAndW1c, fun _ _ => [(FWD_VERSION.version, .ro)]⟩,
  ⟨.FWD_CMD, 0x50001000, 11, 0x40, 1, 0x0, false, (.island 17), .countersAndW1c, fun i _ => [(FWD_CMD.go i, .wsc), (FWD_CMD.op i, .rw), (FWD_CMD.static i, .rw), (FWD_CMD.tenant i, .rw), (FWD_CMD.result i, .ro)]⟩,
  ⟨.FWD_CMD_KEY0, 0x50001004, 11, 0x40, 1, 0x0, false, (.island 17), .countersAndW1c, fun i _ => [(FWD_CMD_KEY0.mac_lo i, .rw)]⟩,
  ⟨.FWD_CMD_KEY1, 0x50001008, 11, 0x40, 1, 0x0, false, (.island 17), .countersAndW1c, fun i _ => [(FWD_CMD_KEY1.mac_hi i, .rw), (FWD_CMD_KEY1.vid i, .rw)]⟩,
  ⟨.FWD_CMD_DATA, 0x5000100C, 11, 0x40, 1, 0x0, false, (.island 17), .countersAndW1c, fun i _ => [(FWD_CMD_DATA.flow i, .rw), (FWD_CMD_DATA.ptidx i, .rw)]⟩,
  ⟨.FWD_CMD_LIF, 0x50001010, 11, 0x40, 1, 0x0, false, (.island 17), .countersAndW1c, fun i _ => [(FWD_CMD_LIF.lif i, .rw)]⟩,
  ⟨.FWD_CMD_EXP, 0x50001014, 11, 0x40, 1, 0x0, false, (.island 17), .countersAndW1c, fun i _ => [(FWD_CMD_EXP.expected i, .rw)]⟩,
  ⟨.FWD_CMD_RVER, 0x50001018, 11, 0x40, 1, 0x0, false, (.island 17), .countersAndW1c, fun i _ => [(FWD_CMD_RVER.version i, .ro)]⟩,
  ⟨.FWD_CMD_RDATA, 0x5000101C, 11, 0x40, 1, 0x0, false, (.island 17), .countersAndW1c, fun i _ => [(FWD_CMD_RDATA.flow i, .ro), (FWD_CMD_RDATA.ptidx i, .ro)]⟩,
  ⟨.FWD_CMD_RLIF, 0x50001020, 11, 0x40, 1, 0x0, false, (.island 17), .countersAndW1c, fun i _ => [(FWD_CMD_RLIF.index i, .ro), (FWD_CMD_RLIF.lif i, .ro)]⟩,
  ⟨.FWD_DST_HIT_CNT, 0x50000100, 1, 0x0, 1, 0x0, false, (.island 17), .countersAndW1c, fun _ _ => [(FWD_DST_HIT_CNT.count, .rc)]⟩,
  ⟨.FWD_DST_MISS_CNT, 0x50000104, 1, 0x0, 1, 0x0, false, (.island 17), .countersAndW1c, fun _ _ => [(FWD_DST_MISS_CNT.count, .rc)]⟩,
  ⟨.FWD_FLOOD_DROP_CNT, 0x50000108, 1, 0x0, 1, 0x0, false, (.island 17), .countersAndW1c, fun _ _ => [(FWD_FLOOD_DROP_CNT.count, .rc)]⟩,
  ⟨.FWD_NOTIFY_CNT, 0x5000010C, 1, 0x0, 1, 0x0, false, (.island 17), .countersAndW1c, fun _ _ => [(FWD_NOTIFY_CNT.count, .rc)]⟩,
  ⟨.FWD_NOTIFY_SUPP_CNT, 0x50000110, 1, 0x0, 1, 0x0, false, (.island 17), .countersAndW1c, fun _ _ => [(FWD_NOTIFY_SUPP_CNT.count, .rc)]⟩,
  ⟨.FWD_CONTEST_CNT, 0x50000114, 1, 0x0, 1, 0x0, false, (.island 17), .countersAndW1c, fun _ _ => [(FWD_CONTEST_CNT.count, .rc)]⟩]

def rowsFWD1 : List Row := [
  ⟨.FWD_NOTIFY_DROP_CNT, 0x50000118, 1, 0x0, 1, 0x0, false, (.island 17), .countersAndW1c, fun _ _ => [(FWD_NOTIFY_DROP_CNT.count, .rc)]⟩,
  ⟨.FWD_AGED_CNT, 0x5000011C, 1, 0x0, 1, 0x0, false, (.island 17), .countersAndW1c, fun _ _ => [(FWD_AGED_CNT.count, .rc)]⟩,
  ⟨.FWD_AGE_ABORT_CNT, 0x50000120, 1, 0x0, 1, 0x0, false, (.island 17), .countersAndW1c, fun _ _ => [(FWD_AGE_ABORT_CNT.count, .rc)]⟩,
  ⟨.FWD_BAD_SRC_CNT, 0x50000124, 1, 0x0, 1, 0x0, false, (.island 17), .countersAndW1c, fun _ _ => [(FWD_BAD_SRC_CNT.count, .rc)]⟩,
  ⟨.FWD_STATIC_MOVE_CNT, 0x50000128, 1, 0x0, 1, 0x0, false, (.island 17), .countersAndW1c, fun _ _ => [(FWD_STATIC_MOVE_CNT.count, .rc)]⟩,
  ⟨.FWD_UNCORR_CNT, 0x5000012C, 1, 0x0, 1, 0x0, false, (.island 17), .countersAndW1c, fun _ _ => [(FWD_UNCORR_CNT.count, .rc)]⟩,
  ⟨.FWD_LOCK_TO_CNT, 0x50000130, 1, 0x0, 1, 0x0, false, (.island 17), .countersAndW1c, fun _ _ => [(FWD_LOCK_TO_CNT.count, .rc)]⟩,
  ⟨.FWD_NO_SPACE_CNT, 0x50000134, 1, 0x0, 1, 0x0, false, (.island 17), .countersAndW1c, fun _ _ => [(FWD_NO_SPACE_CNT.count, .rc)]⟩,
  ⟨.FWD_BANK_LOST_CNT, 0x50000138, 1, 0x0, 1, 0x0, false, (.island 17), .countersAndW1c, fun _ _ => [(FWD_BANK_LOST_CNT.count, .rc)]⟩,
  ⟨.FWD_DISABLED_CNT, 0x5000013C, 1, 0x0, 1, 0x0, false, (.island 17), .countersAndW1c, fun _ _ => [(FWD_DISABLED_CNT.count, .rc)]⟩]

def rowsSHM0 : List Row := [
  ⟨.SHM_STATUS, 0x60000000, 1, 0x0, 1, 0x0, false, (.island 17), .countersAndW1c, fun _ _ => [(SHM_STATUS.rebuild_active, .ro), (SHM_STATUS.degraded, .ro), (SHM_STATUS.rr_slice, .ro), (SHM_STATUS.sets_spent, .ro), (SHM_STATUS.pcs_failed, .ro), (SHM_STATUS.rebuild_pct, .ro)]⟩,
  ⟨.SHM_EVENT, 0x60000004, 1, 0x0, 1, 0x0, false, (.island 17), .countersAndW1c, fun _ _ => [(SHM_EVENT.refused, .w1c), (SHM_EVENT.floor_cut, .w1cs), (SHM_EVENT.capacity_cut, .w1cs), (SHM_EVENT.data_lost, .w1cs), (SHM_EVENT.rebuild_late, .w1cs), (SHM_EVENT.rebuild_done, .w1cs), (SHM_EVENT.pc_failed, .w1cs), (SHM_EVENT.contest, .w1c)]⟩,
  ⟨.SHM_USABLE, 0x60000008, 1, 0x0, 1, 0x0, false, (.island 17), .countersAndW1c, fun _ _ => [(SHM_USABLE.usable_mib, .ro)]⟩,
  ⟨.SHM_REFUSE_LAST, 0x6000000C, 1, 0x0, 1, 0x0, false, (.island 17), .countersAndW1c, fun _ _ => [(SHM_REFUSE_LAST.cause, .ro), (SHM_REFUSE_LAST.tenant, .ro), (SHM_REFUSE_LAST.flow, .ro)]⟩,
  ⟨.SHM_SHELF_CNT, 0x60000010, 4, 0x4, 1, 0x0, false, (.island 17), .countersAndW1c, fun i _ => [(SHM_SHELF_CNT.count i, .ro)]⟩,
  ⟨.SHM_SHARED_FREE, 0x60000020, 4, 0x4, 1, 0x0, false, (.island 17), .countersAndW1c, fun i _ => [(SHM_SHARED_FREE.count i, .ro)]⟩,
  ⟨.SHM_RECIRC_FREE, 0x60000030, 4, 0x4, 1, 0x0, false, (.island 17), .countersAndW1c, fun i _ => [(SHM_RECIRC_FREE.count i, .ro)]⟩,
  ⟨.SHM_DRR_Q, 0x60000040, 7, 0x4, 1, 0x0, false, (.island 17), .countersAndW1c, fun i _ => [(SHM_DRR_Q.quantum i, .rw)]⟩,
  ⟨.SHM_PC_FAILED, 0x60000080, 4, 0x4, 1, 0x0, false, (.island 17), .countersAndW1c, fun i _ => [(SHM_PC_FAILED.map i, .ro)]⟩,
  ⟨.SHM_SET_SPENT, 0x600000A0, 8, 0x4, 1, 0x0, false, (.island 17), .countersAndW1c, fun i _ => [(SHM_SET_SPENT.map i, .ro)]⟩,
  ⟨.SHM_USE, 0x60001000, 64, 0x10, 4, 0x4, false, (.island 17), .countersAndW1c, fun i j => [(SHM_USE.used i j, .ro)]⟩,
  ⟨.SHM_REFUSE_CNT, 0x60000104, 13, 0x4, 1, 0x0, false, (.island 17), .countersAndW1c, fun i _ => [(SHM_REFUSE_CNT.count i, .rc)]⟩,
  ⟨.SHM_CONTEST_CNT, 0x60000140, 1, 0x0, 1, 0x0, false, (.island 17), .countersAndW1c, fun _ _ => [(SHM_CONTEST_CNT.count, .rc)]⟩,
  ⟨.SHM_SPILL_CNT, 0x60000144, 1, 0x0, 1, 0x0, false, (.island 17), .countersAndW1c, fun _ _ => [(SHM_SPILL_CNT.count, .rc)]⟩,
  ⟨.SHM_DEGRADED_RD_CNT, 0x60000148, 1, 0x0, 1, 0x0, false, (.island 17), .countersAndW1c, fun _ _ => [(SHM_DEGRADED_RD_CNT.count, .rc)]⟩,
  ⟨.SHM_SEG_LOST_CNT, 0x6000014C, 1, 0x0, 1, 0x0, false, (.island 17), .countersAndW1c, fun _ _ => [(SHM_SEG_LOST_CNT.count, .rc)]⟩]

def rowsJNL0 : List Row := [
  ⟨.JNL_STATUS, 0x60008000, 1, 0x0, 1, 0x0, false, .journals, .journals, fun _ _ => [(JNL_STATUS.none, .ro), (JNL_STATUS.single, .ro), (JNL_STATUS.copy_b, .ro), (JNL_STATUS.copy_a, .ro)]⟩,
  ⟨.JNL_EVENT, 0x60008004, 1, 0x0, 1, 0x0, false, .journals, .journals, fun _ _ => [(JNL_EVENT.lost, .w1cs), (JNL_EVENT.repair, .w1cs), (JNL_EVENT.rpt_overflow, .w1cs), (JNL_EVENT.full, .w1c), (JNL_EVENT.resync_done, .w1cs), (JNL_EVENT.single_copy, .w1cs)]⟩,
  ⟨.JNL_SLOTS, 0x60008008, 1, 0x0, 1, 0x0, false, .journals, .journals, fun _ _ => [(JNL_SLOTS.slots, .ro)]⟩,
  ⟨.JNL_USED, 0x6000800C, 1, 0x0, 1, 0x0, false, .journals, .journals, fun _ _ => [(JNL_USED.slots, .ro)]⟩,
  ⟨.JNL_RPT_PROD, 0x60008010, 1, 0x0, 1, 0x0, false, .journals, .journals, fun _ _ => [(JNL_RPT_PROD.index, .ro)]⟩,
  ⟨.JNL_RPT_CONS, 0x60008014, 1, 0x0, 1, 0x0, false, .journals, .journals, fun _ _ => [(JNL_RPT_CONS.index, .rw)]⟩,
  ⟨.JNL_ACCEPT_CNT, 0x60008020, 1, 0x0, 1, 0x0, true, .journals, .journals, fun _ _ => [(JNL_ACCEPT_CNT.count, .ro)]⟩,
  ⟨.JNL_DELIV_CNT, 0x60008028, 1, 0x0, 1, 0x0, true, .journals, .journals, fun _ _ => [(JNL_DELIV_CNT.count, .ro)]⟩,
  ⟨.JNL_UNDELIV_CNT, 0x60008104, 4, 0x4, 1, 0x0, false, .journals, .journals, fun i _ => [(JNL_UNDELIV_CNT.count i, .rc)]⟩,
  ⟨.JNL_RESEND_CNT, 0x60008120, 1, 0x0, 1, 0x0, false, .journals, .journals, fun _ _ => [(JNL_RESEND_CNT.count, .rc)]⟩,
  ⟨.JNL_RPT_LOST_CNT, 0x60008124, 1, 0x0, 1, 0x0, false, .journals, .journals, fun _ _ => [(JNL_RPT_LOST_CNT.count, .rc)]⟩,
  ⟨.JNL_REPAIR_CNT, 0x60008128, 1, 0x0, 1, 0x0, false, .journals, .journals, fun _ _ => [(JNL_REPAIR_CNT.count, .rc)]⟩,
  ⟨.JNL_LOST_CNT, 0x6000812C, 1, 0x0, 1, 0x0, false, .journals, .journals, fun _ _ => [(JNL_LOST_CNT.count, .rc)]⟩]

def rowsSCH0 : List Row := [
  ⟨.SCH_CTRL, 0x70000000, 1, 0x0, 1, 0x0, false, .slices, .slices, fun _ _ => [(SCH_CTRL.en, .rw)]⟩,
  ⟨.SCH_CFG, 0x70000004, 1, 0x0, 1, 0x0, false, .slices, .slices, fun _ _ => [(SCH_CFG.late_tol_ns, .rw)]⟩,
  ⟨.SCH_EVENT, 0x70000008, 1, 0x0, 1, 0x0, false, .slices, .slices, fun _ _ => [(SCH_EVENT.launch_bad, .w1cs), (SCH_EVENT.late, .w1cs), (SCH_EVENT.gate_swapped, .w1cs), (SCH_EVENT.cfg_refused, .w1cs)]⟩,
  ⟨.SCH_CFG_REFUSE, 0x7000000C, 1, 0x0, 1, 0x0, false, .slices, .slices, fun _ _ => [(SCH_CFG_REFUSE.table, .ro), (SCH_CFG_REFUSE.index, .ro), (SCH_CFG_REFUSE.reason, .ro)]⟩,
  ⟨.SCH_PORT_CFG, 0x70001000, 38, 0x40, 1, 0x0, false, .slices, .slices, fun i _ => [(SCH_PORT_CFG.gate_en i, .rw), (SCH_PORT_CFG.idle_mode i, .rw), (SCH_PORT_CFG.oct_per_us i, .ro), (SCH_PORT_CFG.ovh_adj i, .rw)]⟩,
  ⟨.SCH_PORT_RATE, 0x70001004, 38, 0x40, 1, 0x0, false, .slices, .slices, fun i _ => [(SCH_PORT_RATE.rate_kbps i, .rw)]⟩,
  ⟨.SCH_PORT_BURST, 0x70001008, 38, 0x40, 1, 0x0, false, .slices, .slices, fun i _ => [(SCH_PORT_BURST.burst_oct i, .rw)]⟩,
  ⟨.SCH_GATE_CTRL, 0x7000100C, 38, 0x40, 1, 0x0, false, .slices, .slices, fun i _ => [(SCH_GATE_CTRL.go i, .wsc), (SCH_GATE_CTRL.admin_len i, .rw)]⟩,
  ⟨.SCH_GATE_CYCLE, 0x70001010, 38, 0x40, 1, 0x0, false, .slices, .slices, fun i _ => [(SCH_GATE_CYCLE.ns i, .rw)]⟩,
  ⟨.SCH_GATE_BASE_NS, 0x70001014, 38, 0x40, 1, 0x0, false, .slices, .slices, fun i _ => [(SCH_GATE_BASE_NS.ns i, .rw)]⟩,
  ⟨.SCH_GATE_BASE_S, 0x70001018, 38, 0x40, 1, 0x0, true, .slices, .slices, fun i _ => [(SCH_GATE_BASE_S.s i, .rw)]⟩,
  ⟨.SCH_GATE_STATUS, 0x70001020, 38, 0x40, 1, 0x0, false, .slices, .slices, fun i _ => [(SCH_GATE_STATUS.pending i, .ro), (SCH_GATE_STATUS.oper_copy i, .ro), (SCH_GATE_STATUS.open_ i, .ro), (SCH_GATE_STATUS.entry i, .ro)]⟩,
  ⟨.SCH_GATE_REFUSE_CNT, 0x70000100, 1, 0x0, 1, 0x0, false, .slices, .slices, fun _ _ => [(SCH_GATE_REFUSE_CNT.count, .rc)]⟩,
  ⟨.SCH_EDGE_HOLD_CNT, 0x70000104, 1, 0x0, 1, 0x0, false, .slices, .slices, fun _ _ => [(SCH_EDGE_HOLD_CNT.count, .rc)]⟩,
  ⟨.SCH_LATE_CNT, 0x70000108, 1, 0x0, 1, 0x0, false, .slices, .slices, fun _ _ => [(SCH_LATE_CNT.count, .rc)]⟩,
  ⟨.SCH_LAUNCH_BAD_CNT, 0x7000010C, 1, 0x0, 1, 0x0, false, .slices, .slices, fun _ _ => [(SCH_LAUNCH_BAD_CNT.count, .rc)]⟩]

def rowsLNS0 : List Row := [
  ⟨.LNS_CTRL, 0x78000000, 1, 0x0, 1, 0x0, false, .slices, .slices, fun _ _ => [(LNS_CTRL.freeze, .rw), (LNS_CTRL.en, .rw)]⟩,
  ⟨.LNS_CFG, 0x78000004, 1, 0x0, 1, 0x0, false, .slices, .slices, fun _ _ => [(LNS_CFG.period_us, .rw)]⟩,
  ⟨.LNS_MISSED_CNT, 0x78000100, 1, 0x0, 1, 0x0, false, .slices, .slices, fun _ _ => [(LNS_MISSED_CNT.count, .rc)]⟩]

def rowsCIP0 : List Row := [
  ⟨.CIP_CTRL, 0x80000000, 1, 0x0, 1, 0x0, false, (.island 20), .allButW1cs, fun _ _ => [(CIP_CTRL.en, .rw)]⟩,
  ⟨.CIP_CFG, 0x80000004, 1, 0x0, 1, 0x0, false, (.island 20), .allButW1cs, fun _ _ => [(CIP_CFG.replay_win, .rw), (CIP_CFG.ethertype, .rw)]⟩,
  ⟨.CIP_STATUS, 0x80000008, 1, 0x0, 1, 0x0, false, (.island 20), .allButW1cs, fun _ _ => [(CIP_STATUS.key_wait, .ro), (CIP_STATUS.used, .ro)]⟩,
  ⟨.CIP_EVENT, 0x8000000C, 1, 0x0, 1, 0x0, false, (.island 20), .allButW1cs, fun _ _ => [(CIP_EVENT.entropy_fail, .w1cs), (CIP_EVENT.cfg_refused, .w1cs), (CIP_EVENT.tag_fail, .w1cs), (CIP_EVENT.key_wait, .w1cs), (CIP_EVENT.rekey_due, .w1cs)]⟩,
  ⟨.CIP_CFG_REFUSE, 0x80000010, 1, 0x0, 1, 0x0, false, (.island 20), .allButW1cs, fun _ _ => [(CIP_CFG_REFUSE.flow, .ro), (CIP_CFG_REFUSE.reason, .ro)]⟩,
  ⟨.CIP_TAG_FAIL_CNT, 0x80000100, 1, 0x0, 1, 0x0, false, (.island 20), .allButW1cs, fun _ _ => [(CIP_TAG_FAIL_CNT.count, .rc)]⟩,
  ⟨.CIP_CT_FAIL_CNT, 0x80000104, 1, 0x0, 1, 0x0, false, (.island 20), .allButW1cs, fun _ _ => [(CIP_CT_FAIL_CNT.count, .rc)]⟩,
  ⟨.CIP_REPLAY_CNT, 0x80000108, 1, 0x0, 1, 0x0, false, (.island 20), .allButW1cs, fun _ _ => [(CIP_REPLAY_CNT.count, .rc)]⟩,
  ⟨.CIP_NO_TSH_CNT, 0x8000010C, 1, 0x0, 1, 0x0, false, (.island 20), .allButW1cs, fun _ _ => [(CIP_NO_TSH_CNT.count, .rc)]⟩,
  ⟨.CIP_REKEY_DUE_CNT, 0x80000110, 1, 0x0, 1, 0x0, false, (.island 20), .allButW1cs, fun _ _ => [(CIP_REKEY_DUE_CNT.count, .rc)]⟩,
  ⟨.CIP_KEYWAIT_CNT, 0x80000114, 1, 0x0, 1, 0x0, false, (.island 20), .allButW1cs, fun _ _ => [(CIP_KEYWAIT_CNT.count, .rc)]⟩,
  ⟨.CIP_HOLD_REFUSE_CNT, 0x80000118, 1, 0x0, 1, 0x0, false, (.island 20), .allButW1cs, fun _ _ => [(CIP_HOLD_REFUSE_CNT.count, .rc)]⟩]

def rowsKV0 : List Row := [
  ⟨.KV_STATUS, 0x80008000, 1, 0x0, 1, 0x0, false, (.island 20), .allButW1cs, fun _ _ => [(KV_STATUS.entropy_fail, .ro), (KV_STATUS.dkek_ok, .ro), (KV_STATUS.busy, .ro)]⟩,
  ⟨.KV_EVENT, 0x80008004, 1, 0x0, 1, 0x0, false, (.island 20), .allButW1cs, fun _ _ => [(KV_EVENT.zeroised, .w1cs), (KV_EVENT.cmd_failed, .w1cs)]⟩,
  ⟨.KV_DKEK_KCV, 0x80008008, 1, 0x0, 1, 0x0, false, (.island 20), .allButW1cs, fun _ _ => [(KV_DKEK_KCV.kcv, .ro)]⟩,
  ⟨.KV_CMD_CNT, 0x80008010, 1, 0x0, 1, 0x0, false, (.island 20), .allButW1cs, fun _ _ => [(KV_CMD_CNT.count, .rc)]⟩,
  ⟨.KV_FAIL_CNT, 0x80008014, 1, 0x0, 1, 0x0, false, (.island 20), .allButW1cs, fun _ _ => [(KV_FAIL_CNT.count, .rc)]⟩,
  ⟨.KV_LAST_EPOCH, 0x80008100, 64, 0x4, 1, 0x0, false, (.island 20), .keep, fun i _ => [(KV_LAST_EPOCH.epoch i, .ro)]⟩,
  ⟨.KV_CMD, 0x80009000, 11, 0x80, 1, 0x0, false, (.island 20), .allButW1cs, fun i _ => [(KV_CMD.go i, .wsc), (KV_CMD.op i, .rw), (KV_CMD.slot i, .rw)]⟩,
  ⟨.KV_ARG, 0x80009004, 11, 0x80, 1, 0x0, false, (.island 20), .allButW1cs, fun i _ => [(KV_ARG.tree i, .rw), (KV_ARG.tenant i, .rw), (KV_ARG.idx i, .rw), (KV_ARG.dir i, .rw), (KV_ARG.alg i, .rw), (KV_ARG.key_index i, .rw)]⟩,
  ⟨.KV_EPOCH, 0x80009008, 11, 0x80, 1, 0x0, false, (.island 20), .allButW1cs, fun i _ => [(KV_EPOCH.epoch i, .rw)]⟩,
  ⟨.KV_RES, 0x8000900C, 11, 0x80, 1, 0x0, false, (.island 20), .allButW1cs, fun i _ => [(KV_RES.result i, .ro)]⟩,
  ⟨.KV_OUT, 0x80009010, 11, 0x80, 4, 0x4, false, (.island 20), .allButW1cs, fun i j => [(KV_OUT.out i j, .ro)]⟩,
  ⟨.KV_BLOB, 0x80009040, 11, 0x80, 16, 0x4, false, (.island 20), .allButW1cs, fun i j => [(KV_BLOB.blob i j, .wo)]⟩]

def rowsTU0 : List Row := [
  ⟨.TU_CTRL, 0x90000000, 1, 0x0, 1, 0x0, false, (.island 21), .time, fun _ _ => [(TU_CTRL.align, .wsc), (TU_CTRL.rearm, .wsc), (TU_CTRL.step_abs, .rw), (TU_CTRL.step, .wsc)]⟩,
  ⟨.TU_STATUS, 0x90000004, 1, 0x0, 1, 0x0, false, (.island 21), .time, fun _ _ => [(TU_STATUS.holdover, .ro), (TU_STATUS.tick_aligned, .ro), (TU_STATUS.slewing, .ro), (TU_STATUS.freq_ramping, .ro), (TU_STATUS.step_armed, .ro), (TU_STATUS.time_set, .ro)]⟩,
  ⟨.TU_EVENT, 0x90000008, 1, 0x0, 1, 0x0, false, (.island 21), .time, fun _ _ => [(TU_EVENT.tod_rx_overflow, .w1cs), (TU_EVENT.txts_overflow, .w1cs), (TU_EVENT.tc_miss, .w1cs), (TU_EVENT.align_lost, .w1cs), (TU_EVENT.rearmed, .w1cs), (TU_EVENT.step_refused, .w1cs), (TU_EVENT.step_done, .w1cs), (TU_EVENT.pps_in, .w1c)]⟩,
  ⟨.TU_TIME_JUMP, 0x9000000C, 1, 0x0, 1, 0x0, false, (.island 21), .time, fun _ _ => [(TU_TIME_JUMP.jump, .w1cs), (TU_TIME_JUMP.last_ns, .ro)]⟩,
  ⟨.TU_TIME_NS, 0x90000010, 1, 0x0, 1, 0x0, false, (.island 21), .time, fun _ _ => [(TU_TIME_NS.value, .ro)]⟩,
  ⟨.TU_TIME_S, 0x90000014, 1, 0x0, 1, 0x0, true, (.island 21), .time, fun _ _ => [(TU_TIME_S.value, .ro)]⟩,
  ⟨.TU_LOCAL, 0x9000001C, 1, 0x0, 1, 0x0, true, (.island 21), .time, fun _ _ => [(TU_LOCAL.value, .ro)]⟩,
  ⟨.TU_STEP_NS, 0x90000024, 1, 0x0, 1, 0x0, false, (.island 21), .time, fun _ _ => [(TU_STEP_NS.value, .rw)]⟩,
  ⟨.TU_STEP_S, 0x90000028, 1, 0x0, 1, 0x0, true, (.island 21), .time, fun _ _ => [(TU_STEP_S.value, .rw)]⟩,
  ⟨.TU_FREQ, 0x90000030, 1, 0x0, 1, 0x0, false, (.island 21), .time, fun _ _ => [(TU_FREQ.freq, .rw)]⟩,
  ⟨.TU_OFFSET, 0x90000034, 1, 0x0, 1, 0x0, false, (.island 21), .time, fun _ _ => [(TU_OFFSET.offset_ns, .wo)]⟩,
  ⟨.TU_REMAIN, 0x90000038, 1, 0x0, 1, 0x0, false, (.island 21), .time, fun _ _ => [(TU_REMAIN.offset_ns, .ro)]⟩,
  ⟨.TU_SLEW_CFG, 0x9000003C, 1, 0x0, 1, 0x0, false, (.island 21), .time, fun _ _ => [(TU_SLEW_CFG.alarm_ns, .rw), (TU_SLEW_CFG.max_ppb, .rw)]⟩,
  ⟨.TU_TICK_CFG, 0x90000040, 1, 0x0, 1, 0x0, false, (.island 21), .time, fun _ _ => [(TU_TICK_CFG.frame_phase_ns, .rw)]⟩,
  ⟨.TU_PPS_CFG, 0x90000044, 1, 0x0, 1, 0x0, false, (.island 21), .time, fun _ _ => [(TU_PPS_CFG.out_en, .rw), (TU_PPS_CFG.in_en, .rw), (TU_PPS_CFG.in_edge, .rw), (TU_PPS_CFG.width_ms, .rw), (TU_PPS_CFG.out_adj_ns, .rw)]⟩,
  ⟨.TU_PPS_IN_NS, 0x90000048, 1, 0x0, 1, 0x0, false, (.island 21), .time, fun _ _ => [(TU_PPS_IN_NS.value, .ro)]⟩,
  ⟨.TU_PPS_IN_S, 0x9000004C, 1, 0x0, 1, 0x0, true, (.island 21), .time, fun _ _ => [(TU_PPS_IN_S.value, .ro)]⟩,
  ⟨.TU_TOD_CFG, 0x90000054, 1, 0x0, 1, 0x0, false, (.island 21), .time, fun _ _ => [(TU_TOD_CFG.tx_en, .rw), (TU_TOD_CFG.rx_en, .rw), (TU_TOD_CFG.baud, .rw), (TU_TOD_CFG.traceable, .rw), (TU_TOD_CFG.clock_class, .rw), (TU_TOD_CFG.utc_offset, .rw)]⟩,
  ⟨.TU_TOD_RX, 0x90000058, 1, 0x0, 1, 0x0, false, (.island 21), .time, fun _ _ => [(TU_TOD_RX.valid, .ro), (TU_TOD_RX.count, .ro), (TU_TOD_RX.data, .ro)]⟩,
  ⟨.TU_TC_CFG, 0x9000005C, 1, 0x0, 1, 0x0, false, (.island 21), .time, fun _ _ => [(TU_TC_CFG.en, .rw)]⟩,
  ⟨.TU_TC_TREES, 0x90000060, 1, 0x0, 1, 0x0, false, (.island 21), .time, fun _ _ => [(TU_TC_TREES.en, .rw)]⟩,
  ⟨.TU_TOD_REQ, 0x90000064, 1, 0x0, 1, 0x0, false, (.island 21), .time, fun _ _ => [(TU_TOD_REQ.go, .wsc), (TU_TOD_REQ.ready, .ro), (TU_TOD_REQ.tree, .rw), (TU_TOD_REQ.ahead, .rw)]⟩,
  ⟨.TU_TOD_SFC, 0x90000068, 1, 0x0, 1, 0x0, true, (.island 21), .time, fun _ _ => [(TU_TOD_SFC.value, .ro)]⟩,
  ⟨.TU_TOD_RES_NS, 0x90000070, 1, 0x0, 1, 0x0, false, (.island 21), .time, fun _ _ => [(TU_TOD_RES_NS.value, .ro)]⟩]

def rowsTU1 : List Row := [
  ⟨.TU_TOD_RES_S, 0x90000074, 1, 0x0, 1, 0x0, true, (.island 21), .time, fun _ _ => [(TU_TOD_RES_S.value, .ro)]⟩,
  ⟨.TU_TRIM, 0x90000100, 36, 0x4, 1, 0x0, false, (.island 21), .time, fun i _ => [(TU_TRIM.tx_trim_ps i, .rw), (TU_TRIM.rx_trim_ps i, .rw)]⟩,
  ⟨.TU_TXTS_TAG, 0x90000200, 4, 0x10, 1, 0x0, false, (.island 21), .time, fun i _ => [(TU_TXTS_TAG.valid i, .ro), (TU_TXTS_TAG.msg_type i, .ro), (TU_TXTS_TAG.domain i, .ro), (TU_TXTS_TAG.seq_id i, .ro)]⟩,
  ⟨.TU_TXTS_NS, 0x90000204, 4, 0x10, 1, 0x0, false, (.island 21), .time, fun i _ => [(TU_TXTS_NS.value i, .ro)]⟩,
  ⟨.TU_TXTS_S, 0x90000208, 4, 0x10, 1, 0x0, true, (.island 21), .time, fun i _ => [(TU_TXTS_S.value i, .ro)]⟩,
  ⟨.TU_STEP_CNT, 0x90000300, 1, 0x0, 1, 0x0, false, (.island 21), .time, fun _ _ => [(TU_STEP_CNT.count, .rc)]⟩,
  ⟨.TU_JUMP_CNT, 0x90000304, 1, 0x0, 1, 0x0, false, (.island 21), .time, fun _ _ => [(TU_JUMP_CNT.count, .rc)]⟩,
  ⟨.TU_REARM_CNT, 0x90000308, 1, 0x0, 1, 0x0, false, (.island 21), .time, fun _ _ => [(TU_REARM_CNT.count, .rc)]⟩,
  ⟨.TU_TC_CNT, 0x9000030C, 1, 0x0, 1, 0x0, false, (.island 21), .time, fun _ _ => [(TU_TC_CNT.count, .rc)]⟩,
  ⟨.TU_TC_MISS_CNT, 0x90000310, 1, 0x0, 1, 0x0, false, (.island 21), .time, fun _ _ => [(TU_TC_MISS_CNT.count, .rc)]⟩,
  ⟨.TU_TXTS_LOST_CNT, 0x90000314, 1, 0x0, 1, 0x0, false, (.island 21), .time, fun _ _ => [(TU_TXTS_LOST_CNT.count, .rc)]⟩,
  ⟨.TU_PPS_IN_CNT, 0x90000318, 1, 0x0, 1, 0x0, false, (.island 21), .time, fun _ _ => [(TU_PPS_IN_CNT.count, .rc)]⟩,
  ⟨.TU_TOD_RX_LOST_CNT, 0x9000031C, 1, 0x0, 1, 0x0, false, (.island 21), .time, fun _ _ => [(TU_TOD_RX_LOST_CNT.count, .rc)]⟩]

def rowsLM0 : List Row := [
  ⟨.LM_CTRL, 0xB0000000, 1, 0x0, 1, 0x0, false, (.island 23), .link, fun _ _ => [(LM_CTRL.swap_go, .wsc), (LM_CTRL.swap_lane, .rw), (LM_CTRL.retrain, .wsc)]⟩,
  ⟨.LM_STATUS, 0xB0000004, 1, 0x0, 1, 0x0, false, (.island 23), .link, fun _ _ => [(LM_STATUS.state, .ro), (LM_STATUS.tx_width, .ro), (LM_STATUS.rx_width, .ro), (LM_STATUS.swap_active, .ro), (LM_STATUS.tx_unacked, .ro)]⟩,
  ⟨.LM_EVENT, 0xB0000008, 1, 0x0, 1, 0x0, false, (.island 23), .link, fun _ _ => [(LM_EVENT.replay_fail, .w1cs), (LM_EVENT.width_cut, .w1cs), (LM_EVENT.swap_done, .w1cs), (LM_EVENT.link_up, .w1cs), (LM_EVENT.link_down, .w1cs)]⟩,
  ⟨.LM_TX_MAP, 0xB000000C, 1, 0x0, 1, 0x0, false, (.island 23), .link, fun _ _ => [(LM_TX_MAP.retired, .ro), (LM_TX_MAP.spare, .ro)] ++ ((List.range 4).map fun m => (LM_TX_MAP.lane m, Acc.ro))⟩,
  ⟨.LM_RX_MAP, 0xB0000010, 1, 0x0, 1, 0x0, false, (.island 23), .link, fun _ _ => [(LM_RX_MAP.retired, .ro), (LM_RX_MAP.spare, .ro)] ++ ((List.range 4).map fun m => (LM_RX_MAP.lane m, Acc.ro))⟩,
  ⟨.LM_INT_CFG, 0xB0000014, 1, 0x0, 1, 0x0, false, (.island 23), .link, fun _ _ => [(LM_INT_CFG.resend_us, .rw)]⟩,
  ⟨.LM_HRX_BASE, 0xB0000018, 1, 0x0, 1, 0x0, true, (.island 23), .link, fun _ _ => [(LM_HRX_BASE.base, .rw)]⟩,
  ⟨.LM_HRX_SIZE, 0xB0000020, 1, 0x0, 1, 0x0, false, (.island 23), .link, fun _ _ => [(LM_HRX_SIZE.value, .rw)]⟩,
  ⟨.LM_HRX_PROD, 0xB0000024, 1, 0x0, 1, 0x0, false, (.island 23), .link, fun _ _ => [(LM_HRX_PROD.value, .ro)]⟩,
  ⟨.LM_HRX_CONS, 0xB0000028, 1, 0x0, 1, 0x0, false, (.island 23), .link, fun _ _ => [(LM_HRX_CONS.value, .rw)]⟩,
  ⟨.LM_CREDIT, 0xB0000040, 4, 0x4, 1, 0x0, false, (.island 23), .link, fun i _ => [(LM_CREDIT.tx_avail i, .ro), (LM_CREDIT.rx_size i, .ro)]⟩,
  ⟨.LM_LANE_STATUS, 0xB0000060, 5, 0x4, 1, 0x0, false, (.island 23), .link, fun i _ => [(LM_LANE_STATUS.signal i, .ro), (LM_LANE_STATUS.lock i, .ro), (LM_LANE_STATUS.tx_use i, .ro), (LM_LANE_STATUS.rx_use i, .ro), (LM_LANE_STATUS.rx_logical i, .ro), (LM_LANE_STATUS.skew_ns i, .ro)]⟩,
  ⟨.LM_DOWN_CNT, 0xB0000100, 1, 0x0, 1, 0x0, false, (.island 23), .link, fun _ _ => [(LM_DOWN_CNT.count, .rc)]⟩,
  ⟨.LM_TRAIN_FAIL_CNT, 0xB0000104, 1, 0x0, 1, 0x0, false, (.island 23), .link, fun _ _ => [(LM_TRAIN_FAIL_CNT.count, .rc)]⟩,
  ⟨.LM_CRC_ERR_CNT, 0xB0000108, 1, 0x0, 1, 0x0, false, (.island 23), .link, fun _ _ => [(LM_CRC_ERR_CNT.count, .rc)]⟩,
  ⟨.LM_REPLAY_CNT, 0xB000010C, 1, 0x0, 1, 0x0, false, (.island 23), .link, fun _ _ => [(LM_REPLAY_CNT.count, .rc)]⟩,
  ⟨.LM_BLOCK_ERR_CNT, 0xB0000110, 1, 0x0, 1, 0x0, false, (.island 23), .link, fun _ _ => [(LM_BLOCK_ERR_CNT.count, .rc)]⟩,
  ⟨.LM_MSG_BAD_CNT, 0xB0000114, 1, 0x0, 1, 0x0, false, (.island 23), .link, fun _ _ => [(LM_MSG_BAD_CNT.count, .rc)]⟩,
  ⟨.LM_EXC_BAD_CNT, 0xB0000118, 1, 0x0, 1, 0x0, false, (.island 23), .link, fun _ _ => [(LM_EXC_BAD_CNT.count, .rc)]⟩,
  ⟨.LM_SWAP_CNT, 0xB000011C, 1, 0x0, 1, 0x0, false, (.island 23), .link, fun _ _ => [(LM_SWAP_CNT.count, .rc)]⟩,
  ⟨.LM_LANE_BIP_CNT, 0xB0000140, 5, 0x4, 1, 0x0, false, (.island 23), .link, fun i _ => [(LM_LANE_BIP_CNT.count i, .rc)]⟩]

def rowsWP0 : List Row := [
  ⟨.WP_CFG, 0xB0008000, 1, 0x0, 1, 0x0, false, .mgt, .keep, fun _ _ => [(WP_CFG.wake_en, .rw), (WP_CFG.wake_addr, .ro), (WP_CFG.mgmt_addr, .ro)]⟩,
  ⟨.WP_ALERT, 0xB0008008, 1, 0x0, 1, 0x0, false, .mgt, .keep, fun _ _ => [(WP_ALERT.sources, .w1cs)]⟩,
  ⟨.WP_ALERT_MASK, 0xB000800C, 1, 0x0, 1, 0x0, false, .mgt, .keep, fun _ _ => [(WP_ALERT_MASK.sources, .rw)]⟩,
  ⟨.WP_WAKE_CNT, 0xB0008100, 1, 0x0, 1, 0x0, false, .mgt, .keep, fun _ _ => [(WP_WAKE_CNT.count, .rc)]⟩,
  ⟨.WP_PEC_ERR_CNT, 0xB0008104, 1, 0x0, 1, 0x0, false, .mgt, .keep, fun _ _ => [(WP_PEC_ERR_CNT.count, .rc)]⟩,
  ⟨.WP_CMD_ERR_CNT, 0xB0008108, 1, 0x0, 1, 0x0, false, .mgt, .keep, fun _ _ => [(WP_CMD_ERR_CNT.count, .rc)]⟩]

def rowsCLK0 : List Row := [
  ⟨.CLK_SRC_CFG, 0xC0000000, 1, 0x0, 1, 0x0, false, .mgt, .keep, fun _ _ => [(CLK_SRC_CFG.wait_s, .rw), (CLK_SRC_CFG.xtal_keep, .rw), (CLK_SRC_CFG.revertive, .rw), (CLK_SRC_CFG.manual, .rw), (CLK_SRC_CFG.manual_sel, .rw), (CLK_SRC_CFG.prio2, .rw), (CLK_SRC_CFG.prio1, .rw), (CLK_SRC_CFG.prio0, .rw)]⟩,
  ⟨.CLK_REF_CFG, 0xC0000004, 1, 0x0, 1, 0x0, false, .mgt, .keep, fun _ _ => [(CLK_REF_CFG.bw, .rw), (CLK_REF_CFG.refb_en, .rw), (CLK_REF_CFG.refa_en, .rw), (CLK_REF_CFG.refb_freq, .rw), (CLK_REF_CFG.refa_freq, .rw)]⟩,
  ⟨.CLK_MON_CFG, 0xC0000008, 1, 0x0, 1, 0x0, false, .mgt, .keep, fun _ _ => [(CLK_MON_CFG.thr, .rw)]⟩,
  ⟨.CLK_TRIM_CFG, 0xC000000C, 1, 0x0, 1, 0x0, false, .mgt, .keep, fun _ _ => [(CLK_TRIM_CFG.auto, .rw), (CLK_TRIM_CFG.src, .rw)]⟩,
  ⟨.CLK_STATUS, 0xC0000010, 1, 0x0, 1, 0x0, false, .mgt, .keep, fun _ _ => [(CLK_STATUS.hpll_lock, .ro), (CLK_STATUS.cpll_lock, .ro), (CLK_STATUS.trim_locked, .ro), (CLK_STATUS.trim_code, .ro), (CLK_STATUS.qual, .ro), (CLK_STATUS.active, .ro), (CLK_STATUS.spll_state, .ro)]⟩,
  ⟨.CLK_EVENT, 0xC0000014, 1, 0x0, 1, 0x0, false, .mgt, .keep, fun _ _ => [(CLK_EVENT.relock_fail, .w1cs), (CLK_EVENT.trim_lost, .w1cs), (CLK_EVENT.holdover, .w1cs), (CLK_EVENT.switched, .w1cs), (CLK_EVENT.mon_xtal, .w1cs), (CLK_EVENT.mon_refb, .w1cs), (CLK_EVENT.mon_refa, .w1cs)]⟩,
  ⟨.CLK_HOLDOVER, 0xC0000018, 1, 0x0, 1, 0x0, false, .mgt, .keep, fun _ _ => [(CLK_HOLDOVER.active, .ro), (CLK_HOLDOVER.seconds, .ro)]⟩,
  ⟨.CLK_FREQ_OFFS, 0xC0000020, 3, 0x4, 1, 0x0, false, .mgt, .keep, fun i _ => [(CLK_FREQ_OFFS.offs i, .ro)]⟩,
  ⟨.CLK_ISL_STATUS, 0xC0000040, 28, 0x4, 1, 0x0, false, .mgt, .keep, fun i _ => [(CLK_ISL_STATUS.feed i, .ro), (CLK_ISL_STATUS.ramping i, .ro), (CLK_ISL_STATUS.div i, .ro)]⟩,
  ⟨.CLK_SWITCH_CNT, 0xC0000100, 1, 0x0, 1, 0x0, false, .mgt, .keep, fun _ _ => [(CLK_SWITCH_CNT.count, .rc)]⟩,
  ⟨.CLK_HOLDOVER_CNT, 0xC0000104, 1, 0x0, 1, 0x0, false, .mgt, .keep, fun _ _ => [(CLK_HOLDOVER_CNT.count, .rc)]⟩,
  ⟨.CLK_MON_TRIP_CNT, 0xC0000108, 1, 0x0, 1, 0x0, false, .mgt, .keep, fun _ _ => [(CLK_MON_TRIP_CNT.count, .rc)]⟩,
  ⟨.CLK_STAB_FAIL_CNT, 0xC000010C, 1, 0x0, 1, 0x0, false, .mgt, .keep, fun _ _ => [(CLK_STAB_FAIL_CNT.count, .rc)]⟩,
  ⟨.CLK_RELOCK_FAIL_CNT, 0xC0000110, 1, 0x0, 1, 0x0, false, .mgt, .keep, fun _ _ => [(CLK_RELOCK_FAIL_CNT.count, .rc)]⟩]

def rowsPWR0 : List Row := [
  ⟨.PWR_CTRL, 0xC0008000, 1, 0x0, 1, 0x0, false, .mgt, .keep, fun _ _ => [(PWR_CTRL.standby, .wsc)]⟩,
  ⟨.PWR_STATUS, 0xC0008004, 1, 0x0, 1, 0x0, false, .mgt, .keep, fun _ _ => [(PWR_STATUS.sup_ok, .ro), (PWR_STATUS.feed_b_ok, .ro), (PWR_STATUS.feed_a_ok, .ro), (PWR_STATUS.state, .ro)]⟩,
  ⟨.PWR_EVENT, 0xC0008008, 1, 0x0, 1, 0x0, false, .mgt, .keep, fun _ _ => [(PWR_EVENT.wake_done, .w1cs), (PWR_EVENT.stby_abort, .w1cs), (PWR_EVENT.stby_refused, .w1cs), (PWR_EVENT.rail_fault, .w1cs), (PWR_EVENT.sup_fail, .w1cs), (PWR_EVENT.shed, .w1cs), (PWR_EVENT.phase_lost, .w1cs), (PWR_EVENT.feed_ov, .w1cs), (PWR_EVENT.feed_b_lost, .w1cs), (PWR_EVENT.feed_a_lost, .w1cs)]⟩,
  ⟨.PWR_FEED, 0xC000800C, 1, 0x0, 1, 0x0, false, .mgt, .keep, fun _ _ => [(PWR_FEED.vin_b_mv, .ro), (PWR_FEED.vin_a_mv, .ro)]⟩,
  ⟨.PWR_BUDGET, 0xC0008010, 1, 0x0, 1, 0x0, false, .mgt, .keep, fun _ _ => [(PWR_BUDGET.cap_dw, .ro), (PWR_BUDGET.est_dw, .ro)]⟩,
  ⟨.PWR_BUDGET_CFG, 0xC0008014, 1, 0x0, 1, 0x0, false, .mgt, .keep, fun _ _ => [(PWR_BUDGET_CFG.base_dw, .rw), (PWR_BUDGET_CFG.t50_dw, .rw), (PWR_BUDGET_CFG.txgs_dw, .rw)]⟩,
  ⟨.PWR_PHASE, 0xC0008018, 1, 0x0, 1, 0x0, false, .mgt, .keep, fun _ _ => [(PWR_PHASE.in_service, .ro), (PWR_PHASE.retired, .ro)]⟩,
  ⟨.PWR_SUP_CFG, 0xC0008020, 1, 0x0, 1, 0x0, false, .mgt, .keep, fun _ _ => [(PWR_SUP_CFG.en, .rw), (PWR_SUP_CFG.addr, .rw), (PWR_SUP_CFG.thr_w, .rw), (PWR_SUP_CFG.v_high, .rw), (PWR_SUP_CFG.v_low, .rw)]⟩,
  ⟨.PWR_SUP_STATUS, 0xC0008024, 1, 0x0, 1, 0x0, false, .mgt, .keep, fun _ _ => [(PWR_SUP_STATUS.result, .ro), (PWR_SUP_STATUS.vout_mv, .ro), (PWR_SUP_STATUS.setpoint, .ro)]⟩,
  ⟨.PWR_STBY_CFG, 0xC0008028, 1, 0x0, 1, 0x0, false, .mgt, .keep, fun _ _ => [(PWR_STBY_CFG.drain_ms, .rw)]⟩,
  ⟨.PWR_WAKE_CFG, 0xC000802C, 1, 0x0, 1, 0x0, false, .mgt, .keep, fun _ _ => [(PWR_WAKE_CFG.sources, .rw)]⟩,
  ⟨.PWR_WAKE_SRC, 0xC0008030, 1, 0x0, 1, 0x0, false, .mgt, .keep, fun _ _ => [(PWR_WAKE_SRC.sources, .ro)]⟩,
  ⟨.PWR_WAKE_FAIL, 0xC0008034, 1, 0x0, 1, 0x0, false, .mgt, .keep, fun _ _ => [(PWR_WAKE_FAIL.failed, .w1cs), (PWR_WAKE_FAIL.cause, .ro)]⟩,
  ⟨.PWR_FEED_LOSS_CNT, 0xC0008100, 1, 0x0, 1, 0x0, false, .mgt, .keep, fun _ _ => [(PWR_FEED_LOSS_CNT.count, .rc)]⟩,
  ⟨.PWR_SHED_CNT, 0xC0008104, 1, 0x0, 1, 0x0, false, .mgt, .keep, fun _ _ => [(PWR_SHED_CNT.count, .rc)]⟩,
  ⟨.PWR_SUP_FAIL_CNT, 0xC0008108, 1, 0x0, 1, 0x0, false, .mgt, .keep, fun _ _ => [(PWR_SUP_FAIL_CNT.count, .rc)]⟩,
  ⟨.PWR_STBY_CNT, 0xC000810C, 1, 0x0, 1, 0x0, false, .mgt, .keep, fun _ _ => [(PWR_STBY_CNT.count, .rc)]⟩,
  ⟨.PWR_WAKE_CNT, 0xC0008110, 1, 0x0, 1, 0x0, false, .mgt, .keep, fun _ _ => [(PWR_WAKE_CNT.count, .rc)]⟩,
  ⟨.PWR_WAKE_FAIL_CNT, 0xC0008114, 1, 0x0, 1, 0x0, false, .mgt, .keep, fun _ _ => [(PWR_WAKE_FAIL_CNT.count, .rc)]⟩]

def rowsPOL0 : List Row := [
  ⟨.POL_WQ_BASE, 0xD0008020, 1, 0x0, 1, 0x0, true, .mgt, .keep, fun _ _ => [(POL_WQ_BASE.base, .rw)]⟩,
  ⟨.POL_RX_BASE, 0xD0008028, 1, 0x0, 1, 0x0, true, .mgt, .keep, fun _ _ => [(POL_RX_BASE.base, .rw)]⟩,
  ⟨.POL_TX_BASE, 0xD0008030, 1, 0x0, 1, 0x0, true, .mgt, .keep, fun _ _ => [(POL_TX_BASE.base, .rw)]⟩,
  ⟨.POL_RING_CFG, 0xD0008038, 1, 0x0, 1, 0x0, false, .mgt, .keep, fun _ _ => [(POL_RING_CFG.tx_size, .rw), (POL_RING_CFG.rx_size, .rw)]⟩,
  ⟨.POL_WQ_TAKE, 0xD0008080, 10, 0x4, 1, 0x0, false, .mgt, .keep, fun i _ => [(POL_WQ_TAKE.valid i, .ro), (POL_WQ_TAKE.index i, .ro)]⟩,
  ⟨.POL_WQ_DONE, 0xD00080C0, 10, 0x4, 1, 0x0, false, .mgt, .keep, fun i _ => [(POL_WQ_DONE.index i, .wo)]⟩,
  ⟨.POL_WQ_PROD, 0xD0008140, 10, 0x4, 1, 0x0, false, .mgt, .keep, fun i _ => [(POL_WQ_PROD.index i, .ro)]⟩,
  ⟨.POL_RX_PROD, 0xD0008180, 10, 0x4, 1, 0x0, false, .mgt, .keep, fun i _ => [(POL_RX_PROD.index i, .ro)]⟩,
  ⟨.POL_RX_CONS, 0xD00081C0, 10, 0x4, 1, 0x0, false, .mgt, .keep, fun i _ => [(POL_RX_CONS.index i, .rw)]⟩,
  ⟨.POL_TX_PROD, 0xD0008200, 10, 0x10, 4, 0x4, false, .mgt, .keep, fun i j => [(POL_TX_PROD.index i j, .rw)]⟩,
  ⟨.POL_TX_CONS, 0xD0008300, 10, 0x10, 4, 0x4, false, .mgt, .keep, fun i j => [(POL_TX_CONS.index i j, .ro)]⟩,
  ⟨.POL_AGE, 0xD0008404, 6, 0x4, 1, 0x0, false, .mgt, .keep, fun i _ => [(POL_AGE.limit_us i, .rw)]⟩,
  ⟨.POL_WQ_AGED_CNT, 0xD0008104, 1, 0x0, 1, 0x0, false, .mgt, .keep, fun _ _ => [(POL_WQ_AGED_CNT.count, .rc)]⟩,
  ⟨.POL_WQ_FULL_CNT, 0xD0008108, 1, 0x0, 1, 0x0, false, .mgt, .keep, fun _ _ => [(POL_WQ_FULL_CNT.count, .rc)]⟩,
  ⟨.POL_TX_BAD_CNT, 0xD000810C, 1, 0x0, 1, 0x0, false, .mgt, .keep, fun _ _ => [(POL_TX_BAD_CNT.count, .rc)]⟩,
  ⟨.POL_FW_CTRL, 0xD0008000, 1, 0x0, 1, 0x0, false, .mgt, .keep, fun _ _ => [(POL_FW_CTRL.load, .wsc)]⟩,
  ⟨.POL_FW_STATUS, 0xD0008004, 1, 0x0, 1, 0x0, false, .mgt, .keep, fun _ _ => [(POL_FW_STATUS.svn, .ro), (POL_FW_STATUS.error, .ro), (POL_FW_STATUS.running, .ro), (POL_FW_STATUS.busy, .ro)]⟩,
  ⟨.POL_FW_BASE, 0xD0008008, 1, 0x0, 1, 0x0, true, .mgt, .keep, fun _ _ => [(POL_FW_BASE.value, .rw)]⟩,
  ⟨.POL_FW_LEN, 0xD0008010, 1, 0x0, 1, 0x0, false, .mgt, .keep, fun _ _ => [(POL_FW_LEN.value, .rw)]⟩,
  ⟨.POL_CFG, 0xD0008014, 1, 0x0, 1, 0x0, false, .mgt, .keep, fun _ _ => [(POL_CFG.wdog_ms, .rw)]⟩,
  ⟨.POL_CORE, 0xD0008040, 10, 0x4, 1, 0x0, false, .mgt, .keep, fun i _ => [(POL_CORE.state i, .ro), (POL_CORE.last_reason i, .ro), (POL_CORE.crashes i, .ro)]⟩,
  ⟨.POL_CRASH_CNT, 0xD0008100, 1, 0x0, 1, 0x0, false, .mgt, .keep, fun _ _ => [(POL_CRASH_CNT.count, .rc)]⟩]

def rowsREL0 : List Row := [
  ⟨.REL_EVENT, 0xD0000000, 1, 0x0, 1, 0x0, false, .mgt, .keep, fun _ _ => [(REL_EVENT.tlog_wrap, .w1cs), (REL_EVENT.wear, .w1cs), (REL_EVENT.exhausted, .w1cs), (REL_EVENT.swap_done, .w1cs), (REL_EVENT.swap_req, .w1cs), (REL_EVENT.ue, .w1cs), (REL_EVENT.parity, .w1cs)]⟩,
  ⟨.REL_SWAP_CMD, 0xD0000004, 1, 0x0, 1, 0x0, false, .mgt, .keep, fun _ _ => [(REL_SWAP_CMD.go, .wsc), (REL_SWAP_CMD.op, .rw), (REL_SWAP_CMD.class_, .rw), (REL_SWAP_CMD.part, .rw)]⟩,
  ⟨.REL_SPARE, 0xD0000024, 8, 0x4, 1, 0x0, false, .mgt, .keep, fun i _ => [(REL_SPARE.pending_part i, .ro), (REL_SPARE.pending i, .ro), (REL_SPARE.initial i, .ro), (REL_SPARE.remaining i, .ro)]⟩,
  ⟨.REL_CE_CFG, 0xD0000008, 1, 0x0, 1, 0x0, false, .mgt, .keep, fun _ _ => [(REL_CE_CFG.scrub_h, .rw), (REL_CE_CFG.threshold, .rw), (REL_CE_CFG.leak_ms, .rw)]⟩,
  ⟨.REL_CE_SUMMARY, 0xD000000C, 1, 0x0, 1, 0x0, false, .mgt, .keep, fun _ _ => [(REL_CE_SUMMARY.value, .w1cs)]⟩,
  ⟨.REL_CE_LEVEL, 0xD0000100, 32, 0x4, 1, 0x0, false, .mgt, .keep, fun i _ => [(REL_CE_LEVEL.value i, .ro)]⟩,
  ⟨.REL_UE_LAST, 0xD0000010, 1, 0x0, 1, 0x0, false, .mgt, .keep, fun _ _ => [(REL_UE_LAST.last, .ro)]⟩,
  ⟨.REL_PARITY_LAST, 0xD0000014, 1, 0x0, 1, 0x0, false, .mgt, .keep, fun _ _ => [(REL_PARITY_LAST.last, .ro)]⟩,
  ⟨.REL_TLOG_HEAD, 0xD0000018, 1, 0x0, 1, 0x0, false, .mgt, .keep, fun _ _ => [(REL_TLOG_HEAD.wrapped, .ro), (REL_TLOG_HEAD.head, .ro)]⟩,
  ⟨.REL_TLOG_CTRL, 0xD000001C, 1, 0x0, 1, 0x0, false, .mgt, .keep, fun _ _ => [(REL_TLOG_CTRL.clear, .wsc)]⟩,
  ⟨.REL_DIE_ID, 0xD0000060, 4, 0x8, 1, 0x0, true, .mgt, .keep, fun i _ => [(REL_DIE_ID.id i, .ro)]⟩,
  ⟨.REL_HBM_ID, 0xD0000080, 4, 0x8, 1, 0x0, true, .mgt, .keep, fun i _ => [(REL_HBM_ID.id i, .ro)]⟩,
  ⟨.REL_SLICE_MAP, 0xD0000200, 2, 0x80, 32, 0x4, false, .mgt, .keep, fun i j => [(REL_SLICE_MAP.bound i j, .ro), (REL_SLICE_MAP.slice i j, .ro)]⟩,
  ⟨.REL_WEAR, 0xD0002000, 380, 0x4, 1, 0x0, false, .mgt, .keep, fun i _ => [(REL_WEAR.state i, .ro), (REL_WEAR.wear_pct i, .ro)]⟩,
  ⟨.REL_CE_CNT, 0xD0000300, 1, 0x0, 1, 0x0, false, .mgt, .keep, fun _ _ => [(REL_CE_CNT.count, .rc)]⟩,
  ⟨.REL_UE_CNT, 0xD0000304, 1, 0x0, 1, 0x0, false, .mgt, .keep, fun _ _ => [(REL_UE_CNT.count, .rc)]⟩,
  ⟨.REL_PARITY_CNT, 0xD0000308, 1, 0x0, 1, 0x0, false, .mgt, .keep, fun _ _ => [(REL_PARITY_CNT.count, .rc)]⟩,
  ⟨.REL_POISON_RD_CNT, 0xD000030C, 1, 0x0, 1, 0x0, false, .mgt, .keep, fun _ _ => [(REL_POISON_RD_CNT.count, .rc)]⟩,
  ⟨.REL_SWAP_CNT, 0xD0000310, 1, 0x0, 1, 0x0, false, .mgt, .keep, fun _ _ => [(REL_SWAP_CNT.count, .rc)]⟩]

/-- Every register of the index. -/
def regRows : List Row :=
  rowsMGT0 ++ rowsMGT1 ++ rowsSIL0 ++ rowsTE0 ++ rowsTE1 ++ rowsGE0 ++ rowsGE1 ++ rowsMIR0 ++ rowsUL0 ++ rowsBC0 ++ rowsPR0 ++ rowsPR1 ++ rowsFWD0 ++ rowsFWD1 ++ rowsSHM0 ++ rowsJNL0 ++ rowsSCH0 ++ rowsLNS0 ++ rowsCIP0 ++ rowsKV0 ++ rowsTU0 ++ rowsTU1 ++ rowsLM0 ++ rowsWP0 ++ rowsCLK0 ++ rowsPWR0 ++ rowsPOL0 ++ rowsREL0

end Sys2Proof.Machine
end

