-- ==== Sys2Proof/Machine/Operands.lean ====
section
/-! DEFINITION. The operand forms of the commands: which register an address names (R527), which islands answer for it (R38,
R548), and the fields of a data word. -/

namespace Sys2Proof.Machine

/-- A register that an address names: its row, its indexes, and whether the address is the HI half of a pair (R522). -/
structure Hit where
  row : Row
  i : Nat
  j : Nat
  hi : Bool

/-- The register of a row at an address. -/
def Row.hit (r : Row) (a : Nat) : Option Hit :=
  if a < r.base then none
  else
    let o := a - r.base
    let i := if r.n1 = 1 then 0 else o / r.s1
    let o1 := o - i * (if r.n1 = 1 then 0 else r.s1)
    let j := if r.n2 = 1 then 0 else o1 / r.s2
    let o2 := o1 - j * (if r.n2 = 1 then 0 else r.s2)
    if i < r.n1 ∧ j < r.n2 then
      if o2 = 0 then some ⟨r, i, j, false⟩
      else if o2 = 4 ∧ r.wide then some ⟨r, i, j, true⟩
      else none
    else none

/-- The register at an address among some rows. -/
def findIn : List Row → Nat → Option Hit
  | [], _ => none
  | r :: rs, a => match r.hit a with
    | some h => some h
    | none => findIn rs a

/-- The register at an address (R520, R527). -/
def findReg (a : Nat) : Option Hit := findIn regRows a

/-- The islands that hold a register, none when it lies in island 0 or on a chiplet (R38, R548). -/
def Hit.holders (h : Hit) : List Nat :=
  match h.row.owner with
  | .mgt => []
  | .island n => [n]
  | .tree => [treeIsl h.i]
  | .slice => [13 + h.i]
  | .slices => [13, 14, 15, 16]
  | .journals => [18, 19]
  | .chiplet => []

/-- The holders answer an access (R38, R548). -/
def State.answers (s : State) (hs : List Nat) : Bool := hs.isEmpty || hs.any s.up

/-- The holders that a read ungates: the lowest-numbered in Run or Idle (R43, R548). -/
def State.wakeForRead (s : State) (hs : List Nat) : State :=
  match hs.find? s.up with
  | some n => s.ungate n
  | none => s

/-- The holders that a write ungates: all in Idle (R43, R548). -/
def State.wakeForWrite (s : State) : List Nat → State
  | [] => s
  | n :: r => State.wakeForWrite (s.ungate n) r

/-- An access to an unmapped address is counted and recorded (R521). -/
def State.unmapped (s : State) (r : Nat) (a : Nat) : State :=
  (s.inc MGT_UNMAPPED_CNT.count).put MGT_UNMAPPED_LAST.last (a + r <<< 40)

/-- What the latest access answered. -/
def State.answer (s : State) (r status : Nat) (data : List Word64) : State :=
  { s with last := ⟨r, status, data⟩ }

/-- The value that a data word gives a field of a 32-bit register. -/
def Fld.of (f : Fld) (d : Nat) : Nat := bitsOf d f.lo f.width

/-- The register word that a list of fields spells, each with the value a function gives it. -/
def wordOf (fs : List (Fld × Acc)) (v : Fld → Nat) : Nat :=
  fs.foldl (fun w e => w + (v e.1 % 2 ^ e.1.width) * 2 ^ e.1.lo) 0

/-- The state with every RW field of the list at its value in a data word. -/
def State.putRw (s : State) (d : Nat) : List (Fld × Acc) → State
  | [] => s
  | (f, a) :: r => State.putRw (if a = .rw then s.put f (f.of d) else s) d r

/-- A requester number is a policy core (R521). -/
def isCore (r : Requester) : Bool := r.val != 0

end Sys2Proof.Machine
end

