-- ==== Sys2Proof/Machine/Image.lean ====
section
/-! DEFINITION. The Structure Image in the staging window: its layout (R50 to R53), the conditions of Parse and Verify (R54,
R547, R68), its Drawers (R55 to R65) and the checks of R66. -/

namespace Sys2Proof.Machine

/-! ## Layout -/

/-- The first address of the staging window (R67). -/
def stageBase : Nat := 0x01100000

/-- n octets of the staged image from an offset. No staging byte at or beyond SIL_STAGE_LEN is read (R67): it counts as 0. -/
def State.img (s : State) (o n : Nat) : List Byte :=
  (List.range n).map fun i => if o + i < s.get SIL_STAGE_LEN.length then s.byteAt (stageBase + o + i) else 0

/-- The number in n octets of the staged image. -/
def State.imgN (s : State) (o n : Nat) : Nat := ofOctets (s.img o n)

/-- The image is a full one (R51). -/
def State.imgFull (s : State) : Bool := s.imgN 6 1 == 1

/-- tree_mask of the staged image (R51). -/
def State.imgTreeMask (s : State) : Nat := s.imgN 16 4

/-- tenant_mask of the staged image (R51). -/
def State.imgTenantMask (s : State) : Nat := s.imgN 20 8

/-- sig_offset of the staged image (R51). -/
def State.imgSig (s : State) : Nat := s.imgN 36 4

/-- drawer_count of the staged image (R51). -/
def State.imgCount (s : State) : Nat := s.imgN 12 1

/-- One directory entry (R52). -/
structure DirEntry where
  id : Nat
  version : Nat
  resv : Nat
  offset : Nat
  length : Nat
  crc : Nat
  deriving DecidableEq, Repr

/-- The directory (R52). -/
def State.imgDir (s : State) : List DirEntry :=
  (List.range s.imgCount).map fun i =>
    let o := 64 + 16 * i
    ⟨s.imgN o 1, s.imgN (o + 1) 1, s.imgN (o + 2) 2, s.imgN (o + 4) 4, s.imgN (o + 8) 4, s.imgN (o + 12) 4⟩

/-- The image carries a Drawer. -/
def State.hasDrawer (s : State) (id : Nat) : Bool := s.imgDir.any fun e => e.id == id

/-- n octets of a Drawer as a number; 0 where the image does not carry it. -/
def State.dN (s : State) (id o n : Nat) : Nat :=
  match s.imgDir.find? fun e => e.id == id with
  | some e => s.imgN (e.offset + o) n
  | none => 0

/-- The length that the Drawer table gives a Drawer (R55). -/
def State.drawerLen (s : State) (e : DirEntry) : Nat :=
  match e.id with
  | 1 => 256 | 2 => 32 | 3 => 8 + 8 * s.imgN e.offset 2 | 4 => 1064 | 5 => 112 | 6 => 8 | 7 => 64 | 8 => 512 | 9 => 32
  | _ => 40

/-- A partial image may carry the Drawer (R55). -/
def drawerLive (id : Nat) : Bool := id == 1 || id == 6 || id == 7 || id == 8 || id == 9

/-! ## Parse (R68, R547) -/

/-- A failed check: the error code, and the drawer, check and entry of SIL_CHECK_FAIL where the error is 0x0C. -/
structure LoadErr where
  code : Nat
  drawer : Nat := 0
  check : Nat := 0
  entry : Nat := 0
  deriving DecidableEq, Repr

/-- The first failure of a list of conditions. -/
def firstErr : List (Bool × LoadErr) → Option LoadErr
  | [] => none
  | (true, e) :: _ => some e
  | (false, _) :: r => firstErr r

/-- A failure of R547. -/
def headErr (drawer : Nat) : LoadErr := ⟨0x0C, drawer, 0x01, 0xFFFF⟩

/-- The ranges of two directory entries overlap. -/
def DirEntry.overlaps (x y : DirEntry) : Bool := decide (x.offset < y.offset + y.length) && decide (y.offset < x.offset + x.length)

/-- A directory entry is out of bounds, or does not start on an 8-byte boundary (R50). -/
def State.dirOutside (s : State) (e : DirEntry) : Bool :=
  decide (e.offset < 64 + 16 * s.imgCount) || decide (s.imgSig < e.offset + e.length) || decide (e.offset % 8 ≠ 0)

/-- Some entry of the directory stands in a relation to a later one. -/
def anyPair (p : DirEntry → DirEntry → Bool) : List DirEntry → Bool
  | [] => false
  | x :: r => r.any (p x) || anyPair p r

/-- A directory entry's Drawer has the wrong length or CRC. A FLOW Drawer with n outside 1 to 1,024 (R58) has no right length: error
0x06, where the spec names no error (DESIGN CHOICE, log 129). -/
def State.drawerBad (s : State) (e : DirEntry) : Bool :=
  decide (e.length ≠ s.drawerLen e) ||
    (e.id == 3 && (s.imgN e.offset 2 == 0 || decide (1024 < s.imgN e.offset 2))) ||
    crc32 (s.img e.offset e.length) != e.crc

/-- What Parse finds: errors 0x01 to 0x04, the conditions of R547, then errors 0x05, 0x06 and 0x0B. A length outside the range of
SIL_STAGE_LEN, for an image longer than R50 allows or shorter than its fixed parts, is a length error found before any octet is read
(DESIGN CHOICE, log 128). -/
def State.parseErr (s : State) : Option LoadErr :=
  let len := s.get SIL_STAGE_LEN.length
  let dir := s.imgDir
  firstErr (
    [(decide (len < 264 ∨ 1048576 < len), ⟨4, 0, 0, 0⟩),
     (decide (s.imgN 0 4 ≠ 0x4E425349), ⟨1, 0, 0, 0⟩),
     (decide (s.imgN 4 2 ≠ 1), ⟨2, 0, 0, 0⟩),
     (decide (s.imgN 7 1 ≠ s.get MGT_IDENTITY.rev), ⟨3, 0, 0, 0⟩),
     (decide (s.imgN 8 4 ≠ len ∨ s.imgSig + 200 ≠ s.imgN 8 4), ⟨4, 0, 0, 0⟩),
     (s.imgFull && (s.imgTreeMask != 0 || s.imgTenantMask != 0), headErr 0),
     (decide (s.imgN 6 1 ≠ 1 ∧ s.imgN 6 1 ≠ 2), headErr 0),
     (decide (3 < s.imgN 13 1), headErr 0),
     (decide (32 < s.imgN 14 2), headErr 0),
     (decide (s.imgCount < 1 ∨ 10 < s.imgCount), headErr 0)] ++
    dir.map (fun e => (decide (e.version ≠ 1), headErr e.id)) ++
    [(decide (s.imgN s.imgSig 2 ≠ 1), headErr 0),
     (decide (s.imgN 40 24 ≠ 0), headErr 0)] ++
    dir.map (fun e => (decide (e.resv ≠ 0), headErr e.id)) ++
    [(decide (s.imgN (s.imgSig + 2) 2 ≠ 0 ∨ s.imgN (s.imgSig + 197) 3 ≠ 0), headErr 0),
     (dir.any s.dirOutside || anyPair DirEntry.overlaps dir || anyPair (fun x y => x.id == y.id) dir ||
        dir.any (fun e => e.id == 0 || decide (10 < e.id)), ⟨5, 0, 0, 0⟩),
     (dir.any s.drawerBad, ⟨6, 0, 0, 0⟩),
     (if s.imgFull then (List.range 10).any (fun i => !s.hasDrawer (i + 1)) else dir.any (fun e => !drawerLive e.id),
        ⟨0x0B, 0, 0, 0⟩)])

/-! ## Verify (R54, R72) -/

/-- The digest of the signed message (R54). -/
def State.imgDigest (s : State) : BitVec 384 := Config.sha384 (s.img 0 s.imgSig)

/-- A key slot is blank or revoked (R54). -/
def State.slotBad (s : State) (k : Nat) : Bool :=
  !bit1 (s.get SIL_FUSE_KEY.programmed) k || bit1 (s.get SIL_FUSE_KEY.revoked) k

/-- A signature block at an address is good under a key slot: none, or error 0x07 to 0x09 (R53, R54). -/
def State.sigErr (s : State) (slot : Nat) (digest : BitVec 384) (block : List Byte) : Option Nat :=
  if s.slotBad slot then some 7
  else if Config.sha384 (slice block 4 97) ≠ Config.fuseKeyHash slot then some 8
  else if !Config.ecdsaOk (slice block 4 97) digest (slice block 101 96) then some 9
  else none

/-- What Verify finds: errors 0x07 to 0x0A (R68). -/
def State.verifyErr (s : State) : Option LoadErr :=
  match s.sigErr (s.imgN 13 1) s.imgDigest (s.img s.imgSig 200) with
  | some e => some ⟨e, 0, 0, 0⟩
  | none => if s.imgN 14 2 < s.get SIL_FUSE_SVN.min_svn then some ⟨0x0A, 0, 0, 0⟩ else none

/-! ## The Drawers (R56 to R65) -/

/-- Entry t of the TREE Drawer (R56). -/
def State.dTree (s : State) (t : Nat) : TreeEntry :=
  let o := s.dN 1 (8 * t) 1
  ⟨bit1 o 7, BitVec.ofNat 3 (bitsOf o 4 3), BitVec.ofNat 2 (bitsOf o 2 2), bit1 o 1, s.dN 1 (8 * t + 1) 1, s.dN 1 (8 * t + 2) 1⟩

/-- Port p of the LANE Drawer (R57). -/
def State.dPort (s : State) (p : Nat) : PortLanes := ⟨s.dN 2 (4 * p) 1, s.dN 2 (4 * p + 1) 1⟩

/-- Lanes of a port mode (R57). -/
def laneCount (mode : Nat) : Nat := match mode with | 1 => 1 | 2 => 2 | 3 => 4 | 4 => 8 | _ => 0

/-- Entry i of the FLOW Drawer (R58). -/
def State.dFlow (s : State) (i : Nat) : FlowPart :=
  let a := s.dN 3 (15 + 8 * i) 1
  ⟨s.dN 3 (8 + 8 * i) 2, s.dN 3 (10 + 8 * i) 2 + 1, s.dN 3 (12 + 8 * i) 1, s.dN 3 (13 + 8 * i) 1, s.dN 3 (14 + 8 * i) 1,
    bit1 a 7, a % 4⟩

/-- The entries of the FLOW Drawer. -/
def State.dFlows (s : State) : List FlowPart := (List.range (s.dN 3 0 2)).map s.dFlow

/-- min_n_s of the SHELF Drawer (R59). -/
def State.dMin (s : State) (n sh : Nat) : Nat := s.dN 4 (36 + 16 * n + 4 * sh) 4

/-- Entry n of the CLOCK Drawer in kHz (R60). -/
def State.dClock (s : State) (n : Nat) : Nat := s.dN 5 (4 * n) 4

/-- The nominal frequency in kHz of an island whose frequency the CLOCK Drawer sets, 0 for the others (R14, R60). -/
def nominalKhz (n : Nat) : Nat :=
  if n = 1 then 1600000
  else if n = 10 ∨ n = 11 then 1000000
  else if (13 ≤ n ∧ n ≤ 20) ∨ n = 22 then 1100000
  else 0

/-- Octet n of the KEYMODE Drawer (R62). -/
def State.dKeymode (s : State) (n : Nat) : Nat := s.dN 7 n 1

/-- Entry t of the ASYM Drawer (R63). -/
def State.dAsym (s : State) (t : Nat) : Asym :=
  ⟨signedOf (s.dN 8 (16 * t) 4) 32, s.dN 8 (16 * t + 4) 2, signedOf (s.dN 8 (16 * t + 8) 4) 32, s.dN 8 (16 * t + 12) 2⟩

/-- Class record k of the SPARE Drawer (R65). -/
def State.dSpare (s : State) (k : Nat) : SpareClass := ⟨s.dN 10 (9 + 4 * k) 1, s.dN 10 (10 + 4 * k) 1⟩

/-! ## Check (R66) -/

/-- The trees whose entries the image applies (R55). -/
def State.imgTrees (s : State) : List Nat := if s.imgFull then List.range 32 else bitList 32 s.imgTreeMask

/-- The tenants whose entries the image applies (R55). -/
def State.imgTenants (s : State) : List Nat := if s.imgFull then List.range 64 else bitList 64 s.imgTenantMask

/-- A tree is enabled once the image is applied. -/
def State.imgEnabled (s : State) (t : Nat) : Bool :=
  if s.hasDrawer 1 ∧ s.imgTrees.contains t then (s.dTree t).enabled else (s.treeEntry t).enabled

/-- Check 0x01 of an entry of the TREE Drawer. -/
def State.badTree (s : State) (t : Nat) : Bool :=
  let e := s.dTree t
  bit1 (s.dN 1 (8 * t) 1) 0 || s.dN 1 (8 * t + 3) 5 != 0 || decide (1 < e.mode.toNat) ||
    (if e.mode = 0 then e.usRate == 3 else e.usRate != 0)

/-- Check 0x01 of an entry of the FLOW Drawer. A tenant above 63 or a target out of its range (R58) fails this check, where R66 names
none (DESIGN CHOICE, log 130). -/
def State.badFlow (s : State) (i : Nat) : Bool :=
  let e := s.dFlow i
  bitsOf (s.dN 3 (15 + 8 * i) 1) 2 5 != 0 || decide (63 < e.tenant) || decide (3 < e.kind) ||
    decide ((match e.kind with | 0 => 31 | 1 => 3 | _ => 0) < e.target)

/-- The failures of check 0x01 in Drawer order (R66). -/
def State.check01 (s : State) : List (Bool × LoadErr) :=
  let e (d i : Nat) : LoadErr := ⟨0x0C, d, 0x01, i⟩
  (if s.hasDrawer 1 then s.imgTrees.map fun t => (s.badTree t, e 1 t) else []) ++
  (if s.hasDrawer 2 then (List.range 4).map fun p =>
    (decide (4 < s.dN 2 (4 * p) 1) || s.dN 2 (4 * p + 2) 2 != 0, e 2 p) else []) ++
  (if s.hasDrawer 3 then (s.dN 3 2 6 != 0, e 3 0xFFFF) :: (List.range (s.dN 3 0 2)).map fun i => (s.badFlow i, e 3 i)
    else []) ++
  (if s.hasDrawer 4 then [(s.dN 4 1060 4 != 0, e 4 0xFFFF)] else []) ++
  (if s.hasDrawer 6 then [(s.dN 6 5 3 != 0, e 6 0xFFFF)] else []) ++
  (if s.hasDrawer 7 then s.imgTenants.map fun n => (decide (32 ≤ s.dKeymode n) || s.dKeymode n % 4 == 3, e 7 n) else []) ++
  (if s.hasDrawer 8 then s.imgTrees.map fun t =>
    (s.dN 8 (16 * t + 6) 2 != 0 || s.dN 8 (16 * t + 14) 2 != 0, e 8 t) else []) ++
  (if s.hasDrawer 10 then (s.dN 10 1 7 != 0, e 10 0xFFFF) :: (List.range 8).map fun k =>
    (s.dN 10 (11 + 4 * k) 1 != 0 || decide (2 < (s.dSpare k).swapMode), e 10 k) else [])

/-- The lanes of a port of the LANE Drawer. -/
def State.dLanes (s : State) (p : Nat) : List Nat :=
  (List.range (laneCount (s.dPort p).mode)).map fun i => (s.dPort p).base + i

/-- Check 0x03 for port p. -/
def State.badLane (s : State) (p : Nat) : Bool :=
  let n := laneCount (s.dPort p).mode
  decide (n ≠ 0) && ((s.dPort p).base % n != 0 || (s.dLanes p).any (fun l => l / 16 != p / 2) ||
    (List.range p).any fun q => (s.dLanes p).any (s.dLanes q).contains)

/-- Two FLOW entries overlap. -/
def FlowPart.overlaps (x y : FlowPart) : Bool := decide (x.first < y.first + y.count) && decide (y.first < x.first + x.count)

/-- Check 0x06 for a FLOW entry. -/
def State.badPrivFlow (s : State) (e : FlowPart) : Bool :=
  e.privileged && (e.kind != 1 || (List.range 4).any fun sh => s.dMin e.tenant sh == 0)

/-- Check 0x09 for island n. -/
def State.badClock (s : State) (n : Nat) : Bool :=
  let v := s.dClock n
  v != 0 && (decide (v * 2 < nominalKhz n) || decide (nominalKhz n < v))

/-- The frequency of an island under the CLOCK Drawer. -/
def State.dFreq (s : State) (n : Nat) : Nat := if s.dClock n = 0 then nominalKhz n else s.dClock n

/-- The privileged trees once the image is applied. -/
def State.imgPriv (s : State) : Nat :=
  bitSum ((List.range 32).filter fun t =>
    if s.hasDrawer 6 ∧ s.imgTrees.contains t then bit1 (s.dN 6 0 4) t else s.privTree t)

/-- Buffer octets of the SHELF Drawer. -/
def State.dShelfOctets (s : State) : Nat :=
  s.dN 4 4 4 * 128 + s.dN 4 8 4 * 512 + s.dN 4 12 4 * 2048 + s.dN 4 16 4 * 10240 + s.dN 4 0 4 * 1048576

/-- Policy cores that are not retired. -/
def State.coresLeft (s : State) : Nat := 10 - (s.rel.retired.filter fun e => e.1 / 4096 == 4).length

/-- The checks 0x02 to 0x0E of R66, in the order of their codes. A MIRROR frequency other than GRANT's is MIRROR's entry, and a
privileged tree that is not enabled the entry of that tree (DEDUCED, log 20). -/
def State.checks (s : State) : List (Bool × LoadErr) :=
  let e (d c i : Nat) : LoadErr := ⟨0x0C, d, c, i⟩
  let fl := s.dFlows
  (if s.hasDrawer 1 then s.imgTrees.map fun t =>
    let x := s.dTree t
    (decide (x.maxReachKm < x.diffReachKm) || decide (40 < x.maxReachKm) || (x.enabled && x.maxReachKm == 0), e 1 2 t)
   else []) ++
  (if s.hasDrawer 2 then (List.range 4).map fun p => (s.badLane p, e 2 3 p) else []) ++
  (if s.hasDrawer 3 then
    (fl.zipIdx.map fun x => (decide (65536 < x.1.first + x.1.count) || (fl.take x.2).any x.1.overlaps, e 3 4 x.2)) ++
    [(decide (65536 < fl.foldl (fun a x => a + x.count) 0), e 3 4 0xFFFF)] ++
    (fl.zipIdx.map fun x =>
      ((x.1.kind == 0 && !(s.dTree x.1.target).enabled) || (x.1.kind == 1 && (s.dPort x.1.target).mode == 0), e 3 5 x.2)) ++
    (fl.zipIdx.map fun x => (s.badPrivFlow x.1, e 3 6 x.2)) else []) ++
  (if s.hasDrawer 4 then
    (decide (s.get SHM_USABLE.usable_mib * 1048576 < s.dShelfOctets), e 4 7 0xFFFF) ::
    (List.range 4).map fun sh =>
      let r := s.dN 4 (20 + 4 * sh) 4
      (decide (s.dN 4 (4 + 4 * sh) 4 < (List.range 64).foldl (fun a n => a + s.dMin n sh) r ∨ r < 1024), e 4 8 sh) else []) ++
  (if s.hasDrawer 5 then ((List.range 28).map fun n => (s.badClock n, e 5 9 n)) ++
    [(decide (s.dFreq 10 ≠ s.dFreq 11), e 5 9 11)] else []) ++
  (if s.hasDrawer 6 then
    [(decide (8 < (bitList 32 s.imgPriv).length), e 6 0x0A 0xFFFF)] ++
    (s.imgTrees.map fun t => (bit1 s.imgPriv t && !s.imgEnabled t, e 6 0x0A t)) ++
    [(s.imgFull && (decide (1 < s.dN 6 4 1) || bit1 s.mir.retired.toNat (s.dN 6 4 1)), e 6 0x0A 0xFFFF)] else []) ++
  (if s.hasDrawer 7 then s.imgTenants.map fun n =>
    ((s.dKeymode n % 4 == 1 || s.dKeymode n % 4 == 2) && bitsOf (s.dKeymode n) 2 2 == 0, e 7 0x0B n) else []) ++
  (if s.hasDrawer 8 then s.imgTrees.map fun t =>
    let a := s.dAsym t
    (decide (10000000 < a.ps0.natAbs ∨ 10000000 < a.ps1.natAbs ∨ 40000 < a.len0 ∨ 40000 < a.len1), e 8 0x0C t) else []) ++
  (if s.hasDrawer 9 then
    [((List.range 32).any fun t => !((List.range 32).any fun i => s.dN 9 i 1 == t), e 9 0x0D 0xFFFF)] else []) ++
  (if s.hasDrawer 10 then
    (decide (s.dN 10 0 1 < 4 ∨ 10 < s.dN 10 0 1 ∨ s.coresLeft < s.dN 10 0 1), e 10 0x0E 0xFFFF) ::
    (List.range 8).map fun k =>
      (decide (s.dN 10 (8 + 4 * k) 1 ≠ k + 1 ∨ (s.dSpare k).wearThr < 50 ∨ 100 < (s.dSpare k).wearThr), e 10 0x0E k) else [])

/-- A tenant has a valid SA on some tree: a map entry of the tenant is valid (R55, R358). -/
def State.tenantHasSa (s : State) (n : Nat) : Bool := s.kv.saMap.any fun e => e.1 / 64 % 64 == n

/-- What Check finds (R48, R55, R66, R68). Which of several failures is reported, the spec says only within R66: the kind first,
then R66, then the trees and the tenants (DEDUCED, log 20). The state when the load was commanded tells the kinds apart. -/
def State.checkErr (s : State) (wasStructured : Bool) : Option LoadErr :=
  firstErr (
    (s.imgFull == wasStructured, ⟨0x10, 0, 0, 0⟩) :: (s.check01 ++ s.checks ++
    [(!s.imgFull && s.imgTrees.any (fun t => s.treeState t != 1), ⟨0x0D, 0, 0, 0⟩),
     (!s.imgFull && s.imgTenants.any s.tenantHasSa, ⟨0x0E, 0, 0, 0⟩)]))

/-- A map with some keys replaced. -/
def putKeys {β : Type} (f : Nat → β) : List Nat → List (Nat × β) → List (Nat × β)
  | [], m => m
  | k :: r, m => putKeys f r (mset k (f k) m)

/-- The structure that a full image builds. -/
def State.imgStructure (s : State) : Structure :=
  { trees := putKeys s.dTree (List.range 32) []
    ports := putKeys s.dPort (List.range 4) []
    ulTxPol := BitVec.ofNat 32 (s.dN 2 16 4)
    ulRxPol := BitVec.ofNat 32 (s.dN 2 20 4)
    ptxPol := BitVec.ofNat 32 (s.dN 2 24 4)
    prxPol := BitVec.ofNat 32 (s.dN 2 28 4)
    flows := s.dFlows
    tableMib := s.dN 4 0 4
    shelfCount := putKeys (fun sh => s.dN 4 (4 + 4 * sh) 4) (List.range 4) []
    recirc := putKeys (fun sh => s.dN 4 (20 + 4 * sh) 4) (List.range 4) []
    tenantMin := putKeys (fun k => s.dMin (k / 4) (k % 4)) (List.range 256) []
    clockKhz := putKeys s.dClock (List.range 28) []
    privTrees := BitVec.ofNat 32 (s.dN 6 0 4)
    mirrorCore := s.dN 6 4 1
    keymode := putKeys s.dKeymode (List.range 64) []
    asym := putKeys s.dAsym (List.range 32) []
    shed := (List.range 32).map fun i => s.dN 9 i 1
    activeCores := s.dN 10 0 1
    spare := putKeys (fun k => s.dSpare (k - 1)) ((List.range 8).map (· + 1)) [] }

/-- The KEYMODE octet of a tenant (R62). -/
def State.keymode (s : State) (n : Nat) : Nat := mgetD n 0 s.struct.keymode

end Sys2Proof.Machine
end

