-- ==== Sys2Proof/Machine/Ptp.lean ====
section
/-! DEFINITION. The event messages of IEEE 1588 that the Time Unit stamps and corrects (R386): Sync and Delay_Req. The layout of the
message is that of the standard (PRESUMED, log 25). -/

namespace Sys2Proof.Machine

/-- The transport of an event message (R386), with the offset of the UDP header. -/
inductive PtpOver where
  | eth | udp4 (o : Nat) | udp6 (o : Nat)
  deriving DecidableEq, Repr

/-- An event message: the offset of its header, its messageType and its transport. -/
structure Ptp where
  off : Nat
  typ : Nat
  via : PtpOver
  deriving DecidableEq, Repr

/-- The offset of the EtherType behind up to n VLAN tags. -/
def ptpType (l : List Byte) : Nat → Nat → Nat
  | 0, o => o
  | n + 1, o =>
    let e := fieldAt l o 2
    if e = 0x8100 ∨ e = 0x88A8 then ptpType l n (o + 4) else o

/-- A UDP header at an offset leads to port 319. -/
def ptpUdp (l : List Byte) (o : Nat) : Bool := fieldAt l (o + 2) 2 == 319

/-- Where a PTP message starts in a frame without its FCS (R386). -/
def ptpStart (l : List Byte) : Option (Nat × PtpOver) :=
  let o := ptpType l 2 12
  let e := fieldAt l o 2
  let d := fieldAt l 0 6
  if e = 0x88F7 ∧ (d = 0x011B19000000 ∨ d = 0x0180C200000E) then some (o + 2, .eth)
  else if e = 0x0800 ∧ fieldAt l (o + 11) 1 = 17 ∧ fieldAt l (o + 8) 2 % 8192 = 0 then
    let u := o + 2 + fieldAt l (o + 2) 1 % 16 * 4
    if ptpUdp l u then some (u + 8, .udp4 u) else none
  else if e = 0x86DD ∧ fieldAt l (o + 8) 1 = 17 then
    if ptpUdp l (o + 42) then some (o + 50, .udp6 (o + 42)) else none
  else none

/-- The event message that a frame without its FCS carries: Sync or Delay_Req (R386). -/
def ptpEvent (l : List Byte) : Option Ptp :=
  match ptpStart l with
  | none => none
  | some (o, v) =>
    let t := fieldAt l o 1 % 16
    if l.length < o + 44 ∨ 1 < t then none else some ⟨o, t, v⟩

/-- The two-step flag of a message. -/
def Ptp.twoStep (p : Ptp) (l : List Byte) : Bool := bit1 (fieldAt l (p.off + 6) 1) 1

/-- Octets of a frame replaced from an offset. -/
def patch (l : List Byte) (o : Nat) (x : List Byte) : List Byte := l.take o ++ x ++ l.drop (o + x.length)

/-- The UDP checksum after a change of 16-bit words at an even distance, updated incrementally; over IPv4 it becomes 0 (R389). -/
def ptpChecksum (v : PtpOver) (before after : List Byte) (l : List Byte) : List Byte :=
  match v with
  | .eth => l
  | .udp4 u => patch l (u + 6) (octetsBE 2 0)
  | .udp6 u =>
    let words (x : List Byte) : List Nat := (List.range (x.length / 2)).map fun i => fieldAt x (2 * i) 2
    let fold (n : Nat) : Nat := (n % 65536 + n / 65536) % 65536 + (n % 65536 + n / 65536) / 65536
    let all := (65535 - fieldAt l (u + 6) 2) + (words after).foldl (· + ·) 0 +
      (words before).foldl (fun a w => a + (65535 - w)) 0
    let c := 65535 - fold (fold all)
    patch l (u + 6) (octetsBE 2 (if c = 0 then 0xFFFF else c))

/-- A frame without its FCS whose message has the octets at an offset of the message replaced, the checksum mended (R389). -/
def Ptp.write (p : Ptp) (l : List Byte) (o : Nat) (x : List Byte) : List Byte :=
  ptpChecksum p.via (slice l (p.off + o) x.length) x (patch l (p.off + o) x)

/-- The correctionField raised by an amount in units of 2^-16 ns (R389). -/
def Ptp.correct (p : Ptp) (l : List Byte) (units : Int) : List Byte :=
  let c := signedOf (fieldAt l (p.off + 8) 8) 64 + units
  p.write l 8 (octetsBE 8 (toBits c 64))

end Sys2Proof.Machine
end

