-- ==== Sys2Proof/Machine/TimeOps.lean ====
section
/-! DEFINITION. The time keeper (R383, R384, R390): the local count and the time of day, and the stamps taken from them. -/

namespace Sys2Proof.Machine

/-- The unit of the local count and the ToD offset: 2^-16 ns (R383). -/
def nsUnit : Nat := 65536

/-- The local count in whole nanoseconds (R383). -/
def State.localNs (s : State) : Nat := s.tu.count / nsUnit

/-- The time of day in units of 2^-16 ns (R383). -/
def State.tod (s : State) : Nat := ((s.tu.count : Int) + s.tu.todOff).toNat

/-- The time of day in whole nanoseconds. -/
def State.todNs (s : State) : Nat := s.tod / nsUnit

/-- Picoseconds in units of 2^-16 ns, rounded towards minus infinity. -/
def psUnits (ps : Int) : Int := ps * 65536 / 1000

/-- The target of f, within its limits (TU_FREQ). -/
def State.freqTarget (s : State) : Int := max (-12800000) (min 12800000 (signedOf (s.get TU_FREQ.freq) 32))

/-- The slew rate in ppb (TU_SLEW_CFG). -/
def State.maxPpb (s : State) : Nat := max 1 (min 100 (s.get TU_SLEW_CFG.max_ppb))

/-- The offset still to slew, in ns (TU_REMAIN). -/
def State.remain (s : State) : Int := signedOf (s.get TU_REMAIN.offset_ns) 32

/-- The slew term s in ppb (R390). -/
def State.slewPpb (s : State) : Int :=
  if 0 < s.remain then s.maxPpb else if s.remain < 0 then -(s.maxPpb : Int) else 0

/-- One microsecond of the TIME clock: the counts advance by 1 us times 1 + f + s (R390). -/
def State.timeAdvance (s : State) : State :=
  let d := 65536000 * (256000000000 + s.tu.f + 256 * s.slewPpb) + s.tu.rem
  { s with tu := { s.tu with
      count := s.tu.count + (d / 256000000000).toNat
      rem := d % 256000000000 } }

/-- In one microsecond TU_REMAIN falls by the time that s has added or removed (R390). -/
def State.slewAdvance (s : State) : State :=
  if s.remain = 0 then s
  else
    let r := s.tu.slewRem + s.maxPpb
    if r < 1000000 then { s with tu := { s.tu with slewRem := r } }
    else
      let s := s.put TU_REMAIN.offset_ns (toBits (if 0 < s.remain then s.remain - 1 else s.remain + 1) 32)
      { s with tu := { s.tu with slewRem := r - 1000000 } }

/-- In one microsecond f moves towards TU_FREQ at 100 ppb per second (R390). -/
def State.freqAdvance (s : State) : State :=
  if s.tu.f = s.freqTarget then s
  else
    let r := s.tu.fRem + 25600
    if r < 1000000 then { s with tu := { s.tu with fRem := r } }
    else { s with tu := { s.tu with
      fRem := r - 1000000
      f := if s.tu.f < s.freqTarget then s.tu.f + 1 else s.tu.f - 1 } }

/-- One microsecond of the time keeper; Standby stops it (R400). -/
def State.timeTick (s : State) : State :=
  if s.tu.running then s.timeAdvance.slewAdvance.freqAdvance else s

/-- The local count, in ns, of the last tree-frame tick (R384). -/
def State.lastTickNs (s : State) : Nat := s.localNs - (s.localNs + 125000 - s.tu.base % 125000) % 125000

/-- TIME takes stamps (R400): it is not between Fence and the end of Rejoin, nor Off or Failed. -/
def State.stamping (s : State) : Bool := s.up 21

/-- Every tree is Off or Dark. -/
def State.allDark (s : State) : Bool := (List.range 32).all fun t => decide (s.treeState t ≤ 1)

/-- The tick base moves so that ticks fall at the configured phase of the ToD (R385). -/
def State.alignTicks (s : State) : State :=
  let p := if s.get TU_TICK_CFG.frame_phase_ns < 125000 then s.get TU_TICK_CFG.frame_phase_ns else 0
  let off := ((s.tu.todOff / 65536 : Int) % 125000).toNat
  let s := { s with tu := { s.tu with base := (p + 125000 - off) % 125000 } }
  s.set1 TU_STATUS.tick_aligned

/-- The fixed transmit latency of a scheduling port at the reference point, in ps (R387). -/
def State.txLatencyPs (s : State) (q : Nat) : Nat :=
  if q < 32 then (if s.isXgs q then 410000 else 262400)
  else match s.get (UL_PORT_STATUS.mode (q - 32)) with
    | 4 => 48600 | 3 => 52400 | 2 => 57100 | _ => 63900

/-- The fixed receive latency of a port at the reference point, in ps (R387). -/
def State.rxLatencyPs (s : State) (q : Nat) : Nat :=
  if q < 32 then
    (if s.isXgs q then 540000 else match (s.treeEntry q).usRate with | 0 => 318000 | 1 => 351200 | _ => 417600)
  else match s.get (UL_PORT_STATUS.mode (q - 32)) with
    | 4 => 131200 | 3 => 118800 | 2 => 142500 | _ => 171300

/-- The bound of the error of a stamp, in units of 2^-16 ns (R387). -/
def State.stampErr (s : State) (q : Nat) : Nat :=
  if q < 32 then 4 * nsUnit
  else if s.get (UL_PORT_STATUS.mode (q - 32)) = 4 ∨ s.get (UL_PORT_STATUS.mode (q - 32)) = 3 then 2 * nsUnit else 3 * nsUnit

/-- A stamp at an offset from the present instant, in ps, with a remaining error that is open within its bound (R387). -/
def State.stampAt (s : State) (q : Nat) (ps : Int) : Stamp :=
  let adj := psUnits ps + (s.freeVal % (2 * s.stampErr q + 1) : Nat) - (s.stampErr q : Int)
  ⟨((s.tod : Int) + adj).toNat, ((s.tu.count : Int) + adj).toNat⟩

/-- The ingress stamp of port q: the instant the frame crossed the ball (R387). -/
def State.rxStamp (s : State) (q : Nat) : Option Stamp :=
  if s.stamping then some (s.stampAt q (-(s.rxLatencyPs q : Int) - signedOf (s.get (TU_TRIM.rx_trim_ps q)) 16)) else none

/-- The egress stamp of port q: the instant the frame will cross the ball (R387). -/
def State.txStamp (s : State) (q : Nat) : Option Stamp :=
  if s.stamping then some (s.stampAt q (s.txLatencyPs q + signedOf (s.get (TU_TRIM.tx_trim_ps q)) 16)) else none

/-- A held launch time more than 1 s after a new ToD becomes that ToD (R394). -/
def State.launchesAfterStep (s : State) : State :=
  let late (h : Held) : Bool := match h.launchAt with
    | some l => decide (s.todNs + 1000000000 < l)
    | none => false
  let n := (s.sch.held.filter fun e => late e.2).length
  let s1 := { s with sch := { s.sch with
    held := s.sch.held.map fun (e : Nat × Held) => if late e.2 then (e.1, { e.2 with launchAt := some s.todNs }) else e } }
  let s2 := s1.incBy SCH_LAUNCH_BAD_CNT.count n
  if n = 0 then s2 else s2.set1 SCH_EVENT.launch_bad

/-- A ToD result whose target tick has not passed is withdrawn (R394). -/
def State.todResWithdraw (s : State) : State :=
  match s.tu.todReqTarget with
  | some (_, k) => if s.localNs < k then
      { s.put TU_TOD_REQ.ready 0 with tu := { s.tu with todReqTarget := none } } else s
  | none => s

/-- The ToD offset changes by an amount in units of 2^-16 ns: what a step does to the ticks, the launch times and the ToD
results (R385, R392, R394). -/
def State.stepBy (s : State) (amount : Int) : State :=
  let first := s.get TU_STATUS.time_set = 0
  let aligned := s.on TU_STATUS.tick_aligned
  let s := { s with tu := { s.tu with todOff := s.tu.todOff + amount } }
  let s := ((s.set1 TU_STATUS.time_set).set1 TU_EVENT.step_done).inc TU_STEP_CNT.count
  let s :=
    if first then (if s.allDark then s.alignTicks else s)
    else if amount % (125000 * 65536) = 0 then s
    else
      let s := s.put TU_STATUS.tick_aligned 0
      if aligned then s.set1 TU_EVENT.align_lost else s
  s.launchesAfterStep.todResWithdraw

end Sys2Proof.Machine
end

