-- ==== Sys2Proof/Machine/Shelf.lean ====
section
/-! DEFINITION. Shelves, packet memory and the Journal: the shared operations of R290 to R317 that take, hold and release
buffers and slots, refuse frames, and record acceptance, delivery and undeliverable reports. -/

namespace Sys2Proof.Machine

/-! ## The layout of packet memory (R293) -/

/-- Octets of a buffer of shelf s (R293). -/
def shelfSize (sh : Nat) : Nat :=
  match sh with | 0 => 128 | 1 => 512 | 2 => 2048 | _ => 10240

/-- The smallest shelf that holds L octets (R299). -/
def shelfFor (len : Nat) : Nat := if len ≤ 128 then 0 else if len ≤ 512 then 1 else if len ≤ 2048 then 2 else 3

/-- The buffers of a shelf that a frame of L octets takes (R299). -/
def bufsFor (sh len : Nat) : Nat := if sh = 3 then max 1 (ceilDiv len 10240) else 1

/-- Buffers of a shelf as the SHELF Drawer gives them (R61). -/
def State.shelfBuilt (s : State) (sh : Nat) : Nat := mgetD sh 0 s.struct.shelfCount

/-- Journal slots (R293). -/
def State.jnlSlots (s : State) : Nat := s.get JNL_SLOTS.slots

/-- The logical start of a shelf, on a row boundary (R293). -/
def State.shelfBase (s : State) (sh : Nat) : Nat :=
  (List.range sh).foldl (fun a x => roundUp (a + s.shelfBuilt x * shelfSize x) 2048) (s.struct.tableMib * 1048576)

/-- The address of a buffer in the HBM window (R293, R294). -/
def State.bufAddr (s : State) (sh i : Nat) : Nat := hbmBase + s.shelfBase sh + i * shelfSize sh

/-- The first address of the undeliverable report ring (R293). -/
def State.reportBase (s : State) : Nat := hbmBase + s.jnlSlots * 64

/-- The pseudo-channel in which data segment d of set v lies now (R290, R295, R297). -/
def State.dataPc (s : State) (v d : Nat) : Nat :=
  match mget (v * 8 + d) s.shm.relocated with
  | some p => p
  | none => if s.shm.repointed.contains (v, d) then Config.segPc v 8 % 128 else Config.segPc v d % 128

/-- Set v is spent (R295). -/
def State.setSpent (s : State) (v : Nat) : Bool := bit1 (s.get (SHM_SET_SPENT.map (v / 32))) (v % 32)

/-! ## Charges (R300, R301) -/

/-- Buffers of a shelf charged to a tenant (R300). -/
def State.usedBy (s : State) (n sh : Nat) : Nat :=
  s.shm.groups.foldl (fun a e =>
    if e.2.shelf = sh ∧ e.2.tenant = n ∧ !e.2.quota then a + e.2.ids.length else a) 0

/-- Buffers of a shelf charged to the recirculation quota (R301). -/
def State.quotaUsed (s : State) (sh : Nat) : Nat :=
  s.shm.groups.foldl (fun a e => if e.2.shelf = sh ∧ e.2.quota then a + e.2.ids.length else a) 0

/-- min_n_s of the SHELF Drawer, as R297 reduced it. -/
def State.minOf (s : State) (n sh : Nat) : Nat :=
  if sh = 2 then mgetD n (mgetD (n * 4 + sh) 0 s.struct.tenantMin) s.shm.minCut
  else mgetD (n * 4 + sh) 0 s.struct.tenantMin

/-- The sum of the minimums of a shelf. -/
def State.minSum (s : State) (sh : Nat) : Nat := (List.range 64).foldl (fun a n => a + s.minOf n sh) 0

/-- Free buffers of the shared pool of a shelf (R300); less than 0 while R297 has cut more than was free. -/
def State.sharedFree (s : State) (sh : Nat) : Int :=
  (s.get (SHM_SHELF_CNT.count sh) : Int) - mgetD sh 0 s.struct.recirc - s.minSum sh -
    (List.range 64).foldl (fun a n => a + (s.usedBy n sh - s.minOf n sh)) 0

/-- Free buffers of the recirculation quota of a shelf (R301). -/
def State.recircFree (s : State) (sh : Nat) : Nat := mgetD sh 0 s.struct.recirc - s.quotaUsed sh

/-- Whether R300 or R301 serves a request for k buffers. -/
def State.canServe (s : State) (quota : Bool) (n sh k : Nat) : Bool :=
  if quota then decide (k ≤ s.recircFree sh)
  else decide ((k : Int) ≤ ((s.minOf n sh - s.usedBy n sh : Nat) : Int) + max (s.sharedFree sh) 0)

/-- The buffers of a shelf that are in use. -/
def State.busyBufs (s : State) (sh : Nat) : List Nat :=
  s.shm.groups.flatMap fun e => if e.2.shelf = sh then e.2.ids else []

/-- The first free buffer from a start, going round (R299). -/
def freeFrom (busy : List Nat) (cnt : Nat) : Nat → Nat → Nat
  | 0, i => i
  | fuel + 1, i => if busy.contains i then freeFrom busy cnt fuel ((i + 1) % cnt) else i

/-- k free buffers of a shelf; which ones, the spec does not say (R299): each is an open value. -/
def pickBufs (busy : List Nat) (cnt ctr : Nat) : Nat → List Nat
  | 0 => []
  | k + 1 =>
    let i := freeFrom busy cnt busy.length (Config.freeNat ctr % cnt)
    i :: pickBufs (i :: busy) cnt (ctr + 1) k

/-- The octets of a frame in its buffers, the last padded with 0 (R294). -/
def State.fillBufs (s : State) (sh : Nat) : List Nat → List Byte → State
  | [], _ => s
  | i :: r, l => State.fillBufs (s.putBlock (s.bufAddr sh i) (shelfSize sh) (l.take (shelfSize sh))) sh r (l.drop (shelfSize sh))

/-- k buffers of a shelf are taken for a frame: a group with one reference (R299, R300, R305). -/
def State.takeBufs (s : State) (quota : Bool) (n sh k : Nat) (octets : List Byte) : State × Nat :=
  let ids := pickBufs (s.busyBufs sh) (max 1 (s.get (SHM_SHELF_CNT.count sh))) s.freeCtr k
  let g := s.shm.nextGroup
  let s1 := { s with
    freeCtr := s.freeCtr + k
    shm := { s.shm with
      groups := mset g ⟨sh, ids, n, quota, 1, octets⟩ s.shm.groups
      nextGroup := g + 1 } }
  (s1.fillBufs sh ids octets, g)

/-- A group of buffers loses one reference, and its buffers are freed at 0 (R305). -/
def State.release (s : State) (g : Nat) : State :=
  match mget g s.shm.groups with
  | none => s
  | some b =>
    if b.refs ≤ 1 then { s with shm := { s.shm with groups := mdel g s.shm.groups } }
    else { s with shm := { s.shm with groups := mset g { b with refs := b.refs - 1 } s.shm.groups } }

/-! ## Refusal at ingress (R306) -/

/-- A refusal is counted and recorded (R306). -/
def State.refuse (s : State) (cause tenant flow : Nat) : State :=
  ((((s.inc (SHM_REFUSE_CNT.count (cause - 1))).put SHM_REFUSE_LAST.cause cause).put SHM_REFUSE_LAST.tenant tenant).put
    SHM_REFUSE_LAST.flow flow).set1 SHM_EVENT.refused

/-- The frame of an id that has not been accepted. -/
def State.frame (s : State) (id : Nat) : Option InFrame := s.pr.frames.find? fun f => f.id == id

/-- The state with a frame that has not been accepted replaced. -/
def State.setFrame (s : State) (f : InFrame) : State :=
  { s with pr := { s.pr with frames := s.pr.frames.map fun g => if g.id = f.id then f else g } }

/-- The state without a frame that has not been accepted. -/
def State.dropFrame (s : State) (id : Nat) : State :=
  { s with pr := { s.pr with frames := s.pr.frames.filter fun g => g.id != id } }

/-- A reserved slot is given back. -/
def State.unreserve (s : State) (slot : Option Nat) : State :=
  match slot with
  | none => s
  | some j => { s with jnl := { s.jnl with reserved := s.jnl.reserved.erase j } }

/-- What a frame that has not been accepted holds is given back. -/
def State.freeFrame (s : State) (f : InFrame) : State :=
  let s1 := if f.stage = .commit ∨ f.stage = .token ∨ (f.stage = .pass ∧ f.second) then s.release f.group else s
  let s2 := s1.unreserve f.slot
  let s3 := if f.stage = .pass ∧ f.second then
      { s2 with pr := { s2.pr with
        tokensHeld := nset f.slice (mgetD f.slice 0 s2.pr.tokensHeld - 1) s2.pr.tokensHeld } }
    else s2
  s3.dropFrame f.id

/-- A frame is refused at ingress with a cause (R28, R306). -/
def State.refuseFrame (s : State) (f : InFrame) (cause : Nat) : State :=
  (s.freeFrame f).refuse cause f.tenant f.flow

/-! ## Reads that are served by reconstruction (R295) -/

/-- Octet x of the check granule of logical row r (R291, R292): the exclusive or of the row's eight data granules. Every write keeps
the check segment at this value until the set is spent, when it has no check (R295). -/
def State.checkOctet (s : State) (r x : Nat) : Byte :=
  (List.range 8).foldl (fun a d => a ^^^ s.byteAt (hbmBase + 2048 * r + 256 * d + x)) 0

/-- Octet x of data granule d of row r, from the other seven granules and the check (R295). -/
def State.rebuiltOctet (s : State) (r d x : Nat) : Byte :=
  ((List.range 8).filter (· != d)).foldl (fun a e => a ^^^ s.byteAt (hbmBase + 2048 * r + 256 * e + x)) (s.checkOctet r x)

/-- The sets with a data segment in a pseudo-channel, with the segment's role (R290). -/
def State.dataSegs (s : State) (p : Nat) : List (Nat × Nat) :=
  (List.range 256).flatMap fun v => ((List.range 8).filter fun d => s.dataPc v d == p).map fun d => (v, d)

/-- Octets from logical address a, n of them, touch data segment d of set v (R291). -/
def touches (a n v d : Nat) : Bool :=
  (List.range (n / 256 + 2)).any fun i =>
    let x := if i * 256 < n then a + i * 256 else a + n - 1
    x / 2048 % 256 == v && x % 2048 / 256 == d

/-- A frame holds a buffer in one of some segments (R296). -/
def State.inSegs (s : State) (segs : List (Nat × Nat)) (h : Held) : Bool :=
  match mget h.group s.shm.groups with
  | none => false
  | some b => b.ids.any fun i => segs.any fun e =>
      touches (s.shelfBase b.shelf + i * shelfSize b.shelf) (shelfSize b.shelf) e.1 e.2

/-- A read of n octets at a logical address touches a pseudo-channel that is being rebuilt (R295). -/
def State.degradedAt (s : State) (a n : Nat) : Bool :=
  !s.shm.rebuilding.isEmpty && (s.shm.rebuilding.flatMap s.dataSegs).any fun e => touches a n e.1 e.2

/-- The octet at a logical address as a read returns it: reconstructed while its pseudo-channel is in Degrade or Rebuild (R295). -/
def State.hbmOctet (s : State) (la : Nat) : Byte :=
  if s.degradedAt la 1 then s.rebuiltOctet (la / 2048) (la % 2048 / 256) (la % 256) else s.byteAt (hbmBase + la)

/-- A read of n octets at a logical address, counted where reconstruction serves it (R295; DEDUCED, log 59: one read for each
access). -/
def State.readDegraded (s : State) (a n : Nat) : State :=
  if s.degradedAt a n then s.inc SHM_DEGRADED_RD_CNT.count else s

/-- A read of an accepted frame that reconstruction serves in part is counted (R295; DEDUCED, log 59: one read for each frame). -/
def State.degradedRead (s : State) (h : Held) : State :=
  if s.inSegs (s.shm.rebuilding.flatMap s.dataSegs) h then s.inc SHM_DEGRADED_RD_CNT.count else s

/-! ## The copies of the Journal (R307, R308, R312) -/

/-- The state of a copy: 0 in service, 1 out, 2 resync, 3 failed (JNL_STATUS). -/
def State.copyState (s : State) (b : Bool) : Nat := s.get (if b then JNL_STATUS.copy_b else JNL_STATUS.copy_a)

/-- A copy is in service. -/
def State.inService (s : State) (b : Bool) : Bool := s.copyState b == 0

/-- Some copy is in service. -/
def State.jnlUp (s : State) : Bool := s.inService false || s.inService true

/-- The records of a copy. -/
def State.copyRecs (s : State) (b : Bool) : List (Nat × JRec) := if b then s.jnl.copyB else s.jnl.copyA

/-- The state with the records of a copy replaced. -/
def State.setCopy (s : State) (b : Bool) (m : List (Nat × JRec)) : State :=
  if b then { s with jnl := { s.jnl with copyB := m } } else { s with jnl := { s.jnl with copyA := m } }

/-- The status bits that follow from the copies' states (R312, R314). -/
def State.jnlStatus (s : State) : State :=
  (s.put JNL_STATUS.single (if s.inService false != s.inService true then 1 else 0)).put JNL_STATUS.none
    (if s.jnlUp then 0 else 1)

/-- The 4 KiB block of a slot (R312). -/
def blockOf (slot : Nat) : Nat := slot / 128

/-- A block that a write changes is marked while one copy is in service (R312). -/
def State.markDirty (s : State) (slot : Nat) : State :=
  if s.inService false != s.inService true then
    if s.jnl.dirty.contains (blockOf slot) then s
    else { s with jnl := { s.jnl with dirty := blockOf slot :: s.jnl.dirty } }
  else s

/-- A record is written to every copy in service (R23, R307, R309, R310). -/
def State.writeRec (s : State) (slot : Nat) (r : JRec) : State :=
  let s1 := if s.inService false then s.setCopy false (mset slot r s.jnl.copyA) else s
  let s2 := if s.inService true then s1.setCopy true (mset slot r s1.jnl.copyB) else s1
  s2.markDirty slot

/-- The record of a slot, from the lowest copy in service whose crc holds (R313). -/
def State.record (s : State) (slot : Nat) : Option JRec :=
  let a := if s.inService false then (mget slot s.jnl.copyA).filter (·.good) else none
  let b := if s.inService true then (mget slot s.jnl.copyB).filter (·.good) else none
  a.or b

/-- A record is read from the lowest copy in service, and counted where reconstruction serves the read (R295, R313). -/
def State.recRead (s : State) (slot : Nat) : State :=
  s.readDegraded (32 * slot + (if s.inService false then 0 else 32 * s.jnlSlots)) 32

/-- The record of a slot is checked, repaired from the other copy, or found lost (R313). -/
def State.checkRec (s : State) (slot : Nat) : State :=
  let a := if s.inService false then mget slot s.jnl.copyA else none
  let b := if s.inService true then mget slot s.jnl.copyB else none
  match a, b with
  | some x, some y =>
    if x.good = y.good then s
    else
      let g := if x.good then x else y
      (((s.setCopy false (mset slot g s.jnl.copyA)).setCopy true (mset slot g s.jnl.copyB)).inc
        JNL_REPAIR_CNT.count).set1 JNL_EVENT.repair
  | _, _ => s

/-- The 32 octets of a commit record (R308). -/
def JRec.octets (r : JRec) : List Byte :=
  let l := octetsBE 6 r.seq ++ octetsBE 2 r.flow ++
    octetsBE 1 (r.state <<< 6 ||| r.cause <<< 3 ||| (if r.priv then 4 else 0) ||| r.sides.toNat) ++
    octetsBE 1 (r.kind <<< 6 ||| r.tenant) ++ octetsBE 2 (r.shelf <<< 14 ||| r.len % 16384) ++
    octetsBE 4 ((r.len / 16384) <<< 31 ||| r.head) ++ octetsBE 2 r.rtagSeq ++ octetsBE 2 r.target ++
    octetsBE 1 (r.resends <<< 4) ++ octetsBE 3 0 ++ octetsBE 4 r.acceptNs.toNat
  l ++ octetsBE 4 (if r.good then crc32 l else crc32 l ^^^ 1)

/-- The slots reserved or accepted (R307). -/
def State.slotsUsed (s : State) : List Nat := s.jnl.reserved ++ s.sch.held.map (·.1)

/-- A free slot; which one, the spec does not say: an open value (R304, R307). -/
def State.freeSlot (s : State) : Option Nat :=
  if s.jnlSlots ≤ s.slotsUsed.length then none
  else some (freeFrom s.slotsUsed s.jnlSlots s.slotsUsed.length (s.freeVal % s.jnlSlots))

/-- A slot is reserved (R304). -/
def State.reserve (s : State) (j : Nat) : State :=
  { s.drawn with jnl := { s.jnl with reserved := j :: s.jnl.reserved } }

/-! ## Accepted frames -/

/-- An accepted frame. -/
def State.heldAt (s : State) (slot : Nat) : Option Held := mget slot s.sch.held

/-- The state with what is held of an accepted frame changed. -/
def State.setHeld (s : State) (h : Held) : State := { s with sch := { s.sch with held := mset h.slot h s.sch.held } }

/-- The queue of a flow context. -/
def State.flowQueue (s : State) (f : Nat) : List Nat := mgetD f [] s.sch.flowQ

/-- The state with the queue of a flow context replaced. -/
def State.setQueue (s : State) (f : Nat) (l : List Nat) : State :=
  { s with sch := { s.sch with flowQ := if l.isEmpty then mdel f s.sch.flowQ else mset f l s.sch.flowQ } }

/-- An accepted frame leaves the device's books: its queue entry, its slot and its reference (R28, R305, R309). -/
def State.forget (s : State) (h : Held) : State :=
  let s1 := s.setQueue h.flow ((s.flowQueue h.flow).filter fun j => j != h.slot)
  let s2 := { s1 with sch := { s1.sch with
    held := mdel h.slot s1.sch.held, edgeHeld := s1.sch.edgeHeld.filter fun k => k / 2 != h.slot } }
  s2.release h.group

/-- A frame is marked delivered (R309). -/
def State.markDelivered (s : State) (h : Held) (r : JRec) : State :=
  let s1 := s.writeRec h.slot { r with state := 2 }
  (s1.put JNL_DELIV_CNT.count (s1.get JNL_DELIV_CNT.count + 1)).forget h

/-- The 16 octets of a report (R310). -/
def reportOctets (r : JRec) (cause : Nat) : List Byte :=
  octetsBE 8 (r.seq <<< 16 ||| r.flow) ++
    octetsBE 8 (cause <<< 61 ||| r.tenant <<< 55 ||| r.kind <<< 53 ||| r.len <<< 38 ||| r.acceptNs.toNat)

/-- The report ring takes an entry or is full (R310). -/
def State.putReport (s : State) (r : JRec) (cause : Nat) : State :=
  let p := s.get JNL_RPT_PROD.index
  if (p + 1) % 65536 = s.get JNL_RPT_CONS.index then
    (s.inc JNL_RPT_LOST_CNT.count).set1 JNL_EVENT.rpt_overflow
  else (s.putBytes (s.reportBase + 16 * p) (reportOctets r cause)).put JNL_RPT_PROD.index (p + 1)

/-- A frame is reported undeliverable (R310). -/
def State.report (s : State) (h : Held) (r : JRec) (cause : Nat) : State :=
  let s1 := s.writeRec h.slot { r with state := 3, cause := cause }
  let s2 := s1.inc (JNL_UNDELIV_CNT.count (cause - 1))
  (s2.putReport { r with state := 3, cause := cause } cause).forget h

/-- A frame is lost: discarded and counted (R296, R313). -/
def State.lose (s : State) (h : Held) : State :=
  ((s.inc JNL_LOST_CNT.count).set1 JNL_EVENT.lost).forget h

/-- An undeliverable cause arises for an accepted frame (R27, R310, R311, R314, R319): a frame whose departure has completed is
delivered, a departure that has begun goes on, a report waits while no copy is in service, otherwise the report is made. -/
def State.undeliverable (s : State) (slot cause : Nat) : State :=
  match s.heldAt slot with
  | none => s
  | some h =>
    if !h.sent.isEmpty then s
    else if !h.departing.isEmpty then (if h.decided.isNone then s.setHeld { h with decided := some cause } else s)
    else if h.causeHeld.isSome then s
    else if !s.jnlUp then
      { s.setHeld { h with causeHeld := some cause } with
        jnl := { s.jnl with heldReports := s.jnl.heldReports ++ [(slot, cause)] } }
    else
      let s1 := (s.recRead slot).checkRec slot
      match s1.record slot with
      | some r => s1.report h r cause
      | none => s1.lose h

/-- Several frames become undeliverable, in order. -/
def State.undeliverables (s : State) (cause : Nat) : List Nat → State
  | [] => s
  | j :: r => State.undeliverables (s.undeliverable j cause) cause r

/-- The accepted frames whose record a test picks, in seq order. -/
def State.framesWhere (s : State) (p : Held → JRec → Bool) : List Nat :=
  (s.sch.held.filter fun e => match s.record e.1 with
    | some r => p e.2 r
    | none => false).map (·.1)

/-- The departures under way on a port. -/
def State.departures (s : State) (q : Nat) : List Departure := mgetD q [] s.sch.leaving

/-- The state with the departures on a port replaced. -/
def State.setDepartures (s : State) (q : Nat) (l : List Departure) : State :=
  { s with sch := { s.sch with leaving := if l.isEmpty then mdel q s.sch.leaving else mset q l s.sch.leaving } }

/-- The bitwise complement of the CRC-32 of some octets, in the order of an FCS (R29). -/
def closingOctets (l : List Byte) : List Byte := (fcsOctets l).map fun b => ~~~b

/-- The uplink MAC, the Continuity Sequencer or the closure logic ends a partial frame on an uplink port or a tree (R29). How many
octets had been sent is an open value: none beyond those handed over. -/
def State.closeFrame (s : State) (q : Nat) (d : Departure) : State :=
  if 36 ≤ q then s
  else
    let n := s.freeVal % (d.octets.length - d.left + 1)
    let c : Closing := ⟨d.slot, n, closingOctets (d.octets.take n), d.xgem, decide (q < 32)⟩
    { s.drawn with sch := { s.sch with closings := mset q c s.sch.closings } }

/-- A departure of one frame is cut short (R29, R30, R311): the partial frame is closed, and the frame stays at the head of its queue
to be sent again, or is reported when a cause was decided while it left. -/
def State.cutShort (s0 : State) (q : Nat) (d : Departure) : State :=
  let s := s0.closeFrame q d
  match s.heldAt d.slot with
  | none => s
  | some h =>
    let h1 := { h with
      departing := h.departing.filter (· != q), interrupted := q :: h.interrupted.filter (· != q), resend := true }
    let s2 := s.setHeld h1
    match h1.decided with
    | some c =>
      if h1.departing.isEmpty then (s2.setHeld { h1 with decided := none }).undeliverable d.slot c else s2
    | none => s2

/-- Every departure on a port is cut short (R29). -/
def State.interrupt (s : State) (q : Nat) : State :=
  (s.departures q).foldl (fun s d => s.cutShort q d) (s.setDepartures q [])

/-- The last FCS octet of a departure is acknowledged: it enters the completion log of its departure point (R309, R31). -/
def State.logDone (s : State) (q : Nat) (d : Departure) : State :=
  let s1 := s.setDepartures q ((s.departures q).erase d)
  let s2 := { s1 with
    jnl := { s1.jnl with logs := mset q (mgetD q [] s1.jnl.logs ++ [Done.mk d.slot d.seq]) s1.jnl.logs } }
  match s2.heldAt d.slot with
  | none => s2
  | some h => s2.setHeld { h with departing := h.departing.filter (· != q), sent := q :: h.sent.filter (· != q) }

/-- The uplink side of a scheduling port: false A, true B. -/
def sideOf (q : Nat) : Bool := decide (34 ≤ q)

/-- An uplink port is down: declared down, unused, or out of service (R204, R406). -/
def State.portDown (s : State) (p : Nat) : Bool :=
  s.get (UL_PORT_STATUS.link p) == 0 || s.get (UL_PORT_STATUS.mode p) == 0 || s.on (UL_PORT_STATUS.out_of_service p)

/-- One completion-log entry is applied (R26, R309, R313). -/
def State.applyDone (s : State) (q : Nat) (d : Done) : State :=
  let s := (s.recRead d.slot).checkRec d.slot
  match s.heldAt d.slot with
  | none => s
  | some h =>
    if h.seq ≠ d.seq then s
    else match s.record d.slot with
      | none => s.lose h
      | some r =>
        let sides := if r.priv ∧ r.kind = 1 then r.sides ||| (if sideOf q then 2#2 else 1#2) else r.sides
        if r.priv ∧ h.repl ∧ sides ≠ 3#2 ∧ !s.portDown ((q - 32) ^^^ 2) ∧ !h.passed.contains (32 + ((q - 32) ^^^ 2)) then s.writeRec d.slot { r with sides := sides }
        else s.markDelivered h { r with sides := sides }

/-- The oldest entry of a departure point's log is applied while a copy is in service (R309, R314). -/
def State.applyLog (s : State) (q : Nat) : State :=
  match mgetD q [] s.jnl.logs with
  | [] => s
  | d :: r =>
    if s.jnlUp then
      State.applyDone { s with jnl := { s.jnl with logs := mset q r s.jnl.logs } } q d
    else s

/-- Every entry of a log is applied. -/
def State.applyLogs (s : State) (q : Nat) : State :=
  (List.range (mgetD q [] s.jnl.logs).length).foldl (fun s _ => s.applyLog q) s

/-! ## A copy goes out or returns (R312 to R314) -/

/-- The island of a copy. -/
def jnlIsl (b : Bool) : Nat := if b then 19 else 18

/-- A copy goes out, or fails (R312). A returning copy whose partner goes out enters service alone: see soloReturn. -/
def State.copyOut (s : State) (b : Bool) (failed : Bool) : State :=
  let was := s.inService b
  let s1 := s.put (if b then JNL_STATUS.copy_b else JNL_STATUS.copy_a) (if failed then 3 else 1)
  let s2 := if b then { s1 with jnl := { s1.jnl with phaseB := .idle } }
    else { s1 with jnl := { s1.jnl with phaseA := .idle } }
  let s3 : State := if was ∧ s.inService (!b) then { s2 with jnl := { s2.jnl with dirtyOf := some b, dirty := [] } } else s2
  (if was then s3.set1 JNL_EVENT.single_copy else s3).jnlStatus

/-- The slots of marked blocks are copied from one copy to the other (R312). -/
def copyBlocks (blocks : List Nat) (src dst : List (Nat × JRec)) : List (Nat × JRec) :=
  src.foldl (fun m e => if blocks.contains (blockOf e.1) then mset e.1 e.2 m else m)
    (dst.filter fun e => !blocks.contains (blockOf e.1))

/-- Every dirty block goes to a returning copy (R312). -/
def State.copyDirty (s : State) (b : Bool) : State :=
  let s1 := s.setCopy b (copyBlocks s.jnl.dirty (s.copyRecs (!b)) (s.copyRecs b))
  { s1 with jnl := { s1.jnl with dirty := [] } }

/-- The reports held while no copy was in service are made, in order (R314). -/
def State.makeHeld (s : State) : List (Nat × Nat) → State
  | [] => s
  | (slot, c) :: r =>
    let s1 := match s.heldAt slot with
      | some h => (s.setHeld { h with causeHeld := none }).undeliverable slot c
      | none => s
    State.makeHeld s1 r

/-- The frames whose record the copy in service no longer holds are lost (R313, R314). -/
def State.loseUnrecorded (s : State) : List (Nat × Held) → State
  | [] => s
  | (j, h) :: r =>
    let ok := match s.record j with
      | some x => x.seq == h.seq && x.state == 1
      | none => false
    State.loseUnrecorded (if ok then s else s.lose h) r

/-- A copy returns with no partner in service (R314): the marked blocks come from the partner's region, the logs are applied and
the held reports are made. The partner's region is read from HBM, which keeps it. -/
def State.soloReturn (s : State) (b : Bool) : State :=
  let s1 := if s.jnl.dirtyOf = some b then
      { s.copyDirty b with jnl := { (s.copyDirty b).jnl with dirtyOf := some (!b) } }
    else s
  let s2 := (s1.put (if b then JNL_STATUS.copy_b else JNL_STATUS.copy_a) 0).jnlStatus
  let s3 := s2.loseUnrecorded s2.sch.held
  let s4 := (List.range 38).foldl (fun s q => s.applyLogs q) s3
  let held := s4.jnl.heldReports
  State.makeHeld { s4 with jnl := { s4.jnl with heldReports := [] } } held

/-! ## Reset sequences that other chapters end (R36) -/

/-- An island's reset sequence completes Rejoin: the island is in Run (R36). -/
def State.islandBack (s : State) (n : Nat) : State :=
  let s1 := (s.put (MGT_ISLAND_STATE.island n) 0).setBit MGT_RST_DONE.done (n - 1)
  let s2 := s1.clrBit MGT_ISLAND_RST.req (n - 1)
  s2.modIsl n fun i => { i with step := .none, retried := false, off := false, heldSummary := 0 }

end Sys2Proof.Machine
end

