-- ==== Sys2Proof/Machine/Buffers.lean ====
section
/-! DEFINITION. Taking buffers (R302 to R305), losing pseudo-channels (R295 to R297), and the commands of the Shelves and the
Journal. -/

namespace Sys2Proof.Machine

/-! ## Requests for buffers in one cycle -/

/-- The entry of the FLOW Drawer that covers a flow context (R58). -/
def State.flowPart (s : State) (f : Nat) : Option FlowPart :=
  s.struct.flows.find? fun p => decide (p.first ≤ f) && decide (f < p.first + p.count)

/-- The flow context is privileged (R58, R62). -/
def State.privFlow (s : State) (f : Nat) : Bool :=
  match s.flowPart f with
  | some p => p.privileged
  | none => false

/-- A replicated frame with the sides that have passed it over (R204): the copy for a side that is down while the other is up is dropped for
good; with both sides down the frame waits for either. -/
def State.passSides (s : State) (h : Held) : Held :=
  match s.flowPart h.flow with
  | some p =>
    let a := p.target % 4
    let b := a ^^^ 2
    if p.kind ≠ 1 ∨ !p.privileged ∨ !h.repl then h
    else if s.portDown a && s.portDown b then { h with passed := [] }
    else { h with passed := h.passed ++ ([a, b].filter fun x => s.portDown x && !h.passed.contains (32 + x)).map (32 + ·) }
  | none => h

/-- Every queued frame takes note of a change of the sides (R204). -/
def State.passOver (s : State) : State :=
  { s with sch := { s.sch with held := s.sch.held.map fun e => (e.1, s.passSides e.2) } }

/-- The slice of a flow context (R18, R58). -/
def State.flowSlice (s : State) (f : Nat) : Nat := match s.flowPart f with | some p => p.slice | none => 0

/-- The order in which R302 judges the requests of one shelf. -/
def State.requestOrder (s : State) (fs : List InFrame) : List InFrame :=
  let priv := fs.filter fun f => s.privFlow f.flow
  let rest := fs.filter fun f => !s.privFlow f.flow
  let rr := s.get SHM_STATUS.rr_slice
  ((List.range 4).flatMap fun k => priv.filter fun f => f.slice == k) ++
    ((List.range 4).flatMap fun k => rest.filter fun f => f.slice == (rr + k) % 4)

/-- A request is served: the frame holds its buffers (R299 to R301). -/
def State.serve (s : State) (f : InFrame) : State :=
  let r := s.takeBufs f.recirc f.tenant f.shelf f.bufs f.octets
  r.1.setFrame { f with group := r.2 }

/-- A request is not served: it waits to be presented for the next larger shelf, or the frame is refused (R303). -/
def State.notServed (s : State) (f : InFrame) : State :=
  if f.stage = .spill ∨ f.shelf = 3 then s.refuseFrame f (if f.recirc then 2 else 1)
  else s.setFrame { f with
    stage := .spill, shelf := f.shelf + 1, bufs := bufsFor (f.shelf + 1) f.octets.length }

/-- The copies of a frame that find a slot: the flow context, the port-table index and the slot of each (R304). -/
def State.reserveCopies (s : State) (tenant : Nat) : List (Nat × Nat) → State × List (Nat × Nat × Nat)
  | [] => (s, [])
  | (f, p) :: r =>
    match s.freeSlot with
    | none =>
      let s1 := (s.set1 JNL_EVENT.full).refuse 3 tenant f
      State.reserveCopies s1 tenant r
    | some j =>
      let x := State.reserveCopies (s.reserve j) tenant r
      (x.1, (f, p, j) :: x.2)

/-- A frame that holds its buffers reserves its slots in the same cycle (R304); a frame that recirculates then waits for a token
(R35). -/
def State.afterGrant (s : State) (id : Nat) : State :=
  match s.frame id with
  | none => s
  | some f =>
    if f.recirc then
      match s.freeSlot with
      | none => ((s.set1 JNL_EVENT.full).release f.group).refuseFrame { f with stage := .pass, second := false } 3
      | some j => (s.reserve j).setFrame { f with slot := some j, stage := .token }
    else
      let cs := if f.copies.isEmpty then [(f.flow, f.ptidx)] else f.copies
      let x := s.reserveCopies f.tenant cs
      let s1 := x.1.dropFrame id
      match x.2 with
      | [] => s1.release f.group
      | c :: r =>
        let first : InFrame := { f with
          flow := c.1, ptidx := c.2.1, slice := s.flowSlice c.1, slot := some c.2.2, stage := .commit, copies := [] }
        let others := r.zipIdx.map fun (e : (Nat × Nat × Nat) × Nat) =>
          { first with
            id := s1.pr.nextId + e.2, flow := e.1.1, ptidx := e.1.2.1, slice := s.flowSlice e.1.1, slot := some e.1.2.2 }
        let refs (b : BufGroup) : BufGroup := { b with refs := x.2.length }
        { s1 with
          pr := { s1.pr with frames := s1.pr.frames ++ first :: others, nextId := s1.pr.nextId + r.length }
          shm := { s1.shm with groups := s1.shm.groups.map fun e => if e.1 = f.group then (e.1, refs e.2) else e } }

/-- The requests of one shelf in one cycle, in order: who is served (R302). The list holds the ids served by rotation. -/
def State.serveAll (s : State) : List InFrame → State × List InFrame
  | [] => (s, [])
  | f :: r =>
    if s.canServe f.recirc f.tenant f.shelf f.bufs then
      let x := State.serveAll (s.serve f) r
      (x.1, f :: x.2)
    else
      let x := State.serveAll (s.notServed f) r
      (x.1, x.2)

/-- The buffers that a list of requests asks for. -/
def askedBufs (fs : List InFrame) : Nat := fs.foldl (fun a f => a + f.bufs) 0

/-- What the requests of tenant n ask of a shelf beyond what remains of its minimum (R300). -/
def State.overMin (s : State) (sh : Nat) (fs : List InFrame) (n : Nat) : Nat :=
  askedBufs (fs.filter fun f => f.tenant == n) - (s.minOf n sh - s.usedBy n sh)

/-- Requests of one shelf together ask more than remains (R302): two or more that draw on the shared pool beyond their tenants'
minimums, or two or more of the recirculation quota. -/
def State.contended (s : State) (sh : Nat) (fs : List InFrame) : Bool :=
  let norm := fs.filter fun f => !f.recirc
  let quota := fs.filter fun f => f.recirc
  let drawn := norm.filter fun f => decide (0 < s.overMin sh norm f.tenant)
  let excess := ((List.range 64).map (s.overMin sh norm)).sum
  (decide (2 ≤ drawn.length) && decide (max (s.sharedFree sh) 0 < (excess : Int))) ||
    (decide (2 ≤ quota.length) && decide (s.recircFree sh < askedBufs quota))

/-- The requests of one shelf in one cycle (R302): the state after, the ids served, and where the cycle was contended the slice
after the last one that the rotation served. -/
def State.judgeShelf (s : State) (sh : Nat) (fs : List InFrame) : State × List Nat × Option Nat × Bool :=
  let x := s.serveAll (s.requestOrder fs)
  let rot := (x.2.filter fun f => !s.privFlow f.flow).getLast?
  let c := s.contended sh fs
  (x.1, x.2.map (·.id), if c then rot.map fun f => (f.slice + 1) % 4 else none, c)

/-- The requests of one cycle, shelf by shelf in ascending order (R302), then the slots of the frames served (R304). -/
def State.requestBuffers (s : State) (fs : List InFrame) : State :=
  let step (a : State × List Nat × Option Nat × Bool) (sh : Nat) : State × List Nat × Option Nat × Bool :=
    let j := a.1.judgeShelf sh (fs.filter fun f => f.shelf == sh)
    (j.1, a.2.1 ++ j.2.1, j.2.2.1.or a.2.2.1, a.2.2.2 || j.2.2.2)
  let r := (List.range 4).foldl step (s, [], none, false)
  let s1 := r.1
  let s2 := if r.2.2.2 then (s1.inc SHM_CONTEST_CNT.count).set1 SHM_EVENT.contest else s1
  let s3 := match r.2.2.1 with
    | some k => s2.put SHM_STATUS.rr_slice k
    | none => s2
  ((List.range 4).flatMap fun k => r.2.1.filter fun id => match s3.frame id with
    | some f => f.slice == k
    | none => false).foldl State.afterGrant s3

/-! ## Completion of a generation swap (R261) -/

/-- A frame carries the draining generation and has not finished its last pass (R261). -/
def State.inflightFrame (s : State) (f : InFrame) : Bool :=
  (f.gen != s.on PR_GEN_STATUS.active) &&
    (decide (f.stage = .pass) || decide (f.stage = .token) || (decide (f.stage = .spill) && f.recirc))

/-- The frames of the draining generation, PR_GEN_STATUS.inflight (R261). -/
def State.inflight (s : State) : Nat :=
  if s.on PR_GEN_STATUS.draining then (s.pr.frames.filter s.inflightFrame).length else 0

/-- The copies of the former generation are set equal to the active ones (R261). -/
def State.copyGen (s : State) : State :=
  let s1 := (List.range 8).foldl (fun s k =>
    (s.put (PR_KPROF.mask k) (mgetD k 0 s.pr.kprofAct)).put (PR_HPROF.mask k) (mgetD k 0 s.pr.hprofAct)) s
  s1.put PR_HASH_SEED.seed s1.pr.seedAct

/-- The swap completes when inflight is 0 (R261). -/
def State.genCheck (s : State) : State :=
  if s.on PR_GEN_STATUS.draining ∧ s.inflight = 0 then
    (s.copyGen.put PR_GEN_STATUS.draining 0).set1 PR_EVENT.swap_done
  else s

/-- BUFFER_SPILL (R303): requests that were not served are presented once more, for the next larger shelf. -/
def execBufferSpill (ids : List Nat) (s : State) : Host.Outcome State Fault Refusal :=
  let fs := s.pr.frames.filter fun f => ids.contains f.id && decide (f.stage = .spill)
  ((s.incBy SHM_SPILL_CNT.count fs.length).requestBuffers fs).genCheck.done

/-! ## Departure points and delivery marks (R309) -/

/-- The words 1 to 3 of a ring entry for a frame without its FCS (R443); stamp_valid is for event messages (R388). -/
def ringWords (h : Held) (r : JRec) (frame : List Byte) : List Byte :=
  let cls := match h.origin with | .uplink _ => 0 | .tree _ _ _ => 1 | _ => 2
  let port := match h.origin with | .uplink p => p | .tree t _ _ => t | .host _ => 0 | .core _ _ => 1
  let valid := h.stamp.isSome && (ptpEvent frame).isSome
  let st := if valid then h.stamp.getD ⟨0, 0⟩ else ⟨0, 0⟩
  octetsBE 8 (h.flow <<< 48 ||| r.tenant <<< 42 ||| (h.excCode.getD 7) <<< 39 ||| cls <<< 37 ||| port <<< 32 |||
      h.lif <<< 18 ||| frame.length % 16384) ++
    octetsBE 8 ((if valid then 1 else 0) <<< 63 ||| st.tod / (65536 * 1000000000)) ++
    octetsBE 8 ((st.tod / 65536 % 1000000000) <<< 34 ||| (st.tod % 65536) <<< 18)

/-- A ring entry (R443): the words, the reserved octets, and the frame with its FCS. -/
def ringEntry (h : Held) (r : JRec) (frame : List Byte) : List Byte :=
  ringWords h r (frame.take (frame.length - 4)) ++ octetsBE 8 0 ++ frame

/-- The core whose receive ring takes the frames of a flow context (R516). -/
def State.ringCore (s : State) (flow : Nat) : Option Nat :=
  let act := s.activeCores
  act[flow % act.length]?

/-- The address of entry i of the host receive ring (R443). -/
def State.hrxAddr (s : State) (i : Nat) : Nat := s.hbmReg LM_HRX_BASE.base + i * 16448

/-- The words from octet o of an octet string, n of them. -/
def wordsFrom (l : List Byte) (o n : Nat) : List Word64 :=
  (List.range n).map fun i => BitVec.ofNat 64 (fieldAt l (o + 8 * i) 8)

/-- The EXC_RX message that copies entry i of the host receive ring (R437, R443). -/
def State.exRxBody (s : State) (i : Nat) : List Word64 :=
  let n := bitsOf (s.word (s.hrxAddr i)) 0 14 + 4
  msgHeader 0xA0 0 0 (i <<< 24) :: (wordsFrom (s.bytesAt (s.hrxAddr i) 24) 0 3 ++
    wordsFrom (s.bytesAt (s.hrxAddr i + 32) n) 0 (ceilDiv n 8))

/-- A frame is delivered into the host receive ring: the entry, state 0b10 and the advance of the index are one write (R309,
R443), and while the link is Up a copy goes out as EXC_RX. -/
def State.deliverHost (s : State) (h : Held) (r : JRec) (frame : List Byte) : State :=
  let p := s.get LM_HRX_PROD.value
  let s1 := s.putBlock (s.hrxAddr p) 16448 (ringEntry h r frame)
  let s2 := (s1.put LM_HRX_PROD.value ((p + 1) % max 1 (s.get LM_HRX_SIZE.value))).markDelivered h r
  if s2.linkUp then s2.sendMsg 2 (s2.exRxBody p) else s2

/-- A frame is delivered into the receive ring of a policy core (R309, R516). -/
def State.deliverCore (s : State) (h : Held) (r : JRec) (frame : List Byte) (c : Nat) : State :=
  let p := s.get (POL_RX_PROD.index c)
  let n := max 1 (s.get POL_RING_CFG.rx_size)
  let s1 := s.putBlock (s.hbmReg POL_RX_BASE.base + (c * n + p) * 16448) 16448 (ringEntry h r frame)
  (s1.put (POL_RX_PROD.index c) ((p + 1) % n)).markDelivered h r

/-- The octets of an accepted frame in its buffers, its FCS the last four. -/
def State.frameOctets (s : State) (h : Held) : List Byte :=
  match mget h.group s.shm.groups with
  | some b => b.octets
  | none => []

/-- A frame whose departure to a ring ends is delivered (R309, R443, R516). -/
def State.ringDone (s : State) (q : Nat) (d : Departure) : State :=
  let s1 := s.setDepartures q ((s.departures q).erase d)
  match s1.heldAt d.slot with
  | none => s1
  | some h =>
    let s2 := s1.setHeld { h with departing := [] }
    match s2.record d.slot with
    | none => s2
    | some r =>
      if q = 36 then s2.deliverHost { h with departing := [] } r d.octets
      else match s2.ringCore h.flow with
        | some c => s2.deliverCore { h with departing := [] } r d.octets c
        | none => s2

/-- DEPARTURE_COMPLETE (R25, R31, R309): the last FCS octet of a departure on port q is acknowledged; towards a ring the frame
is delivered in the same write. -/
def execDepartureComplete (q : Port) (s : State) : Host.Outcome State Fault Refusal :=
  match (s.departures q.val).find? fun d => d.left == 0 with
  | none => s.done
  | some d => if q.val < 36 then (s.logDone q.val d).done else (s.ringDone q.val d).done

/-- DELIVERY_MARK (R309): the Journal applies the oldest entry of the completion log of departure point q. -/
def execDeliveryMark (q : Port) (s : State) : Host.Outcome State Fault Refusal := (s.applyLog q.val).done

/-! ## The return of a Journal copy (R312) -/

/-- The phase of a copy. -/
def State.phaseOf (s : State) (b : Bool) : JnlPhase := if b then s.jnl.phaseB else s.jnl.phaseA

/-- The state with the phase of a copy set. -/
def State.setPhase (s : State) (b : Bool) (p : JnlPhase) : State :=
  if b then { s with jnl := { s.jnl with phaseB := p } } else { s with jnl := { s.jnl with phaseA := p } }

/-- JNL_COPY_END (R312): at most 64 blocks remain dirty, and Close begins. -/
def execJnlCopyEnd (copyB : Bool) (s : State) : Host.Outcome State Fault Refusal :=
  if s.phaseOf copyB = .copy ∧ s.inService (!copyB) then ((s.copyDirty copyB).setPhase copyB .close).done else s.done

/-- JNL_CLOSE_END (R312): the last dirty blocks are copied, both copies are in service, and the island's Rejoin ends. -/
def execJnlCloseEnd (copyB : Bool) (s : State) : Host.Outcome State Fault Refusal :=
  if s.phaseOf copyB = .close ∧ s.inService (!copyB) then
    let s1 := (s.copyDirty copyB).setPhase copyB .idle
    let s2 := s1.put (if copyB then JNL_STATUS.copy_b else JNL_STATUS.copy_a) 0
    let s3 := { s2.jnlStatus with jnl := { s2.jnlStatus.jnl with dirtyOf := none } }
    ((s3.set1 JNL_EVENT.resync_done).islandBack (jnlIsl copyB)).done
  else s.done

/-- JNL_CLOSE_TIMEOUT (R312): commits are released and Copy resumes. -/
def execJnlCloseTimeout (copyB : Bool) (s : State) : Host.Outcome State Fault Refusal :=
  if s.phaseOf copyB = .close then (s.setPhase copyB .copy).done else s.done

/-! ## Losing a pseudo-channel (R295 to R297) -/

/-- The sets with any segment in a pseudo-channel. -/
def State.setsOf (s : State) (p : Nat) : List Nat :=
  (List.range 256).filter fun v =>
    ((List.range 8).any fun d => s.dataPc v d == p) || (!s.setSpent v && Config.segPc v 8 % 128 == p)

/-- The records of a copy that lie in lost segments fail their crc (R296, R313). -/
def spoilRecs (base : Nat) (segs : List (Nat × Nat)) (m : List (Nat × JRec)) : List (Nat × JRec) :=
  m.map fun e => if segs.any fun x => touches (base + 32 * e.1) 32 x.1 x.2 then (e.1, { e.2 with good := false }) else e

/-- The frames discarded for lost segments, each logged with the pseudo-channel (R296). -/
def State.loseFrames (s : State) : List Held → State
  | [] => s
  | h :: r => State.loseFrames (s.lose h) r

/-- Buffers of S3 or S2 that lie wholly or partly in the highest 64 MiB of the shelf (R297). -/
def cutCount (sh cnt : Nat) : Nat := cnt - (cnt * shelfSize sh - min (cnt * shelfSize sh) 67108864) / shelfSize sh

/-- The floor of a shelf under cuts (R297). -/
def State.cutFloor (s : State) (sh : Nat) : Nat := mgetD sh 0 s.struct.recirc + s.minSum sh

/-- The S2 minimums are reduced, from tenant 63 downwards and never tenant 0, until n buffers are free of them (R297). -/
def State.reduceMins (s : State) : Nat → List Nat → State
  | _, [] => s
  | need, n :: r =>
    let m := s.minOf n 2
    if need = 0 then s
    else if m = 0 then State.reduceMins s need r
    else
      let c := min m need
      State.reduceMins ({ s with shm := { s.shm with minCut := mset n (m - c) s.shm.minCut } }.set1 SHM_EVENT.floor_cut)
        (need - c) r

/-- A lost segment cuts capacity from the top of S3, then of S2 (R297). -/
def State.cutFor (s : State) (v d : Nat) : State :=
  let s0 := s.put SHM_USABLE.usable_mib (s.get SHM_USABLE.usable_mib - 64)
  let c3 := s0.get (SHM_SHELF_CNT.count 3)
  let n3 := c3 - cutCount 3 c3
  if s0.cutFloor 3 ≤ n3 ∧ n3 < c3 then
    { s0.put (SHM_SHELF_CNT.count 3) n3 with shm := { s0.shm with cuts := s0.shm.cuts ++ [(v * 8 + d, 3, n3)] } }
  else
    let c2 := s0.get (SHM_SHELF_CNT.count 2)
    let n2 := c2 - cutCount 2 c2
    let s1 := if s0.cutFloor 2 ≤ n2 then s0
      else s0.reduceMins (s0.cutFloor 2 - n2) ((List.range 63).reverse.map (· + 1))
    if n2 < c2 then
      { s1.put (SHM_SHELF_CNT.count 2) n2 with shm := { s1.shm with cuts := s1.shm.cuts ++ [(v * 8 + d, 2, n2)] } }
    else s1

/-- The lost segments of a failed pseudo-channel (R296). -/
def State.loseSegs (s : State) : List (Nat × Nat) → State
  | [] => s
  | (v, d) :: r =>
    let s1 := (s.inc SHM_SEG_LOST_CNT.count).set1 SHM_EVENT.data_lost
    let s2 := { s1.put SHM_STATUS.degraded 1 with shm := { s1.shm with lostSegs := (v, d) :: s1.shm.lostSegs } }
    State.loseSegs (s2.cutFor v d) r

/-- A pseudo-channel is declared failed (R295, R296, R320). -/
def State.pcFailed (s : State) (p : Nat) : State :=
  if bit1 (s.get (SHM_PC_FAILED.map (p / 32))) (p % 32) then s
  else
    let lost := s.dataSegs p |>.filter fun e => s.setSpent e.1
    let s1 := ((s.setBit (SHM_PC_FAILED.map (p / 32)) (p % 32)).put (REL_WEAR.state (96 + p)) 2).set1 SHM_EVENT.pc_failed
    let s2 := (s1.put SHM_STATUS.rebuild_active 1).put SHM_STATUS.pcs_failed (s1.get SHM_STATUS.pcs_failed + 1)
    let s3 := { s2 with shm := { s2.shm with rebuilding := s2.shm.rebuilding ++ [p] } }
    if lost.isEmpty then s3
    else
      let s4 := s3.loseSegs lost
      let s5 := (s4.setCopy false (spoilRecs 0 lost s4.jnl.copyA)).setCopy true
        (spoilRecs (s4.jnlSlots * 32) lost s4.jnl.copyB)
      let hs := (s5.sch.held.filter fun e => s5.inSegs lost e.2).map (·.2)
      let s6 := { s5 with poison := s5.poison.filter fun m => m.bad || !s5.inLost m.lo }
      (s6.loseFrames hs).tlogEvent .shm 4 p

/-- PC_DECLARED_FAILED (R295): pseudo-channel p is declared failed; Degrade begins. -/
def execPcDeclaredFailed (p : Fin 128) (s : State) : Host.Outcome State Fault Refusal := (s.pcFailed p.val).done

/-- Set v is marked spent (R295). -/
def State.spendSet (s : State) (v : Nat) : State :=
  if s.setSpent v then s
  else (s.setBit (SHM_SET_SPENT.map (v / 32)) (v % 32)).put SHM_STATUS.sets_spent (s.get SHM_STATUS.sets_spent + 1)

/-- PC_REBUILD_END (R295, R320): the segments of the first pseudo-channel being rebuilt are handled and their sets are spent;
the next Rebuild begins, if one waits. A substitution waits for the end of an Apply (R75). -/
def execPcRebuildEnd (s : State) : Host.Outcome State Fault Refusal :=
  match s.shm.rebuilding with
  | [] => s.done
  | p :: r =>
    if s.sil.step = .apply then s.done
    else
    let segs := (s.dataSegs p).filter fun e => !s.setSpent e.1
    let s1 := (s.setsOf p).foldl State.spendSet s
    let s2 := { s1 with shm := { s1.shm with rebuilding := r, repointed := s1.shm.repointed ++ segs } }
    let s3 := (s2.set1 SHM_EVENT.rebuild_done).put SHM_STATUS.rebuild_pct 0
    (s3.put SHM_STATUS.rebuild_active (if r.isEmpty then 0 else 1)).done

/-- PC_REBUILD_TIMEOUT (R295): the Rebuild passes 500 ms and goes on in Degrade mode. -/
def execPcRebuildTimeout (s : State) : Host.Outcome State Fault Refusal :=
  if s.shm.rebuilding.isEmpty then s.done else (s.set1 SHM_EVENT.rebuild_late).done

/-- A lost segment, v * 8 + d, takes the physical segment that a cut has freed (R297): it is lost no more, and none of its words has
been written there. In which pseudo-channel that segment lies is open (log 124). -/
def State.repoint (s : State) (k : Nat) : State :=
  let e := (k / 8, k % 8)
  let s1 := { s with poison := s.poison.filter fun m => m.bad || !(s.inLost m.lo && segOf m.lo == e) }
  { s1.drawn.set1 SHM_EVENT.capacity_cut with
    shm := { s.shm with
      lostSegs := s.shm.lostSegs.filter (· != e), fresh := e :: s.shm.fresh.filter (· != e)
      relocated := mset k (s.freeVal % 128) s.shm.relocated } }

/-! ## Arbitration of a stack (R298) -/

/-- The arbiter of a stack. -/
def State.hbmArb (s : State) (m : Nat) : HbmArb := mgetD m {} s.shm.arb

/-- A recovery scan of R315 runs: an island that rebuilds from the Journal is in Rejoin. -/
def State.scanRuns (s : State) : Bool := (List.range 28).any fun n => s.isl n == 2 && decide ((s.islSt n).step = .rejoin)

/-- The quantum of a class in 64-octet units: 0 acts as 1, and class 6 has at least 0x80 while a Rebuild or a recovery scan runs. -/
def State.hbmQuantum (s : State) (c : Nat) : Nat :=
  let q := max 1 (s.get (SHM_DRR_Q.quantum c))
  if c = 6 ∧ (!s.shm.rebuilding.isEmpty ∨ s.scanRuns) then max q 0x80 else q

/-- A class is served while its deficit is at least the size of its next request: what still waits, what is served, and the deficit
left, which is 0 with nothing waiting. -/
def hbmServe (c : Nat) : List (Nat × Nat) → Nat → List (Nat × Nat) × List (Nat × Nat) × Nat
  | [], _ => ([], [], 0)
  | r :: l, d =>
    if r.1 ≠ c then
      let x := hbmServe c l d
      (r :: x.1, x.2.1, x.2.2)
    else if r.2 ≤ d then
      let x := hbmServe c l (d - r.2)
      (x.1, r :: x.2.1, x.2.2)
    else (r :: l, [], d)

/-- A class takes its turn in a round. -/
def HbmArb.turn (a : HbmArb) (c q : Nat) : HbmArb :=
  if a.waiting.any fun r => r.1 == c then
    let x := hbmServe c a.waiting (mgetD c 0 a.deficit + q)
    { waiting := x.1, served := a.served ++ x.2.1, deficit := nset c x.2.2 a.deficit }
  else { a with deficit := mdel c a.deficit }

/-- One round of the arbiter of a stack; the classes take their turns in ascending order (DESIGN CHOICE, log 125). -/
def State.hbmRound (s : State) (m : Nat) : State :=
  let a := (List.range 7).foldl (fun (a : HbmArb) c => a.turn c (s.hbmQuantum c)) { s.hbmArb m with served := [] }
  { s with shm := { s.shm with arb := mset m a s.shm.arb } }

/-- A request of a class, of some 64-octet units and at least one, waits at a stack. -/
def State.hbmRequest (s : State) (m c size : Nat) : State :=
  let a := s.hbmArb m
  { s with shm := { s.shm with arb := mset m { a with waiting := a.waiting ++ [(c, max 1 size)] } s.shm.arb } }

/-! ## Capacity -/

/-- CAPACITY_CUT (R297): every buffer of the first cut is free, and the lost segment takes its physical segment. -/
def execCapacityCut (s : State) : Host.Outcome State Fault Refusal :=
  match s.shm.cuts with
  | [] => s.done
  | (k, sh, n) :: r =>
    if (s.busyBufs sh).any fun i => decide (n ≤ i) then s.done
    else ({ s with shm := { s.shm with cuts := r } }.repoint k).done

end Sys2Proof.Machine
end

