-- ==== Sys2Proof/Machine/QueueOps.lean ====
section
/-! DEFINITION. Queues, token buckets, gates and the Lens: the shared operations of R324 to R350. -/

namespace Sys2Proof.Machine

/-! ## Entries -/

/-- A table word, a poison word reading 0 so that the entry acts as disabled (R483, R497). -/
def State.tword (s : State) (a : Nat) : Nat := if s.poisoned a then 0 else s.word a

/-- The address of the scheduling entry of a flow context (R325). -/
def schedAddr (f : Nat) : Nat := 0x1030000000 + 32 * f

/-- The address of a node entry (R326). -/
def nodeAddr (k : Nat) : Nat := 0x1030200000 + 32 * k

/-- Word 0 of the scheduling entry of a flow context. -/
def State.sched (s : State) (f : Nat) : Nat := s.tword (schedAddr f)

/-- Word 0 of a node entry. -/
def State.node (s : State) (k : Nat) : Nat := s.tword (nodeAddr k)

/-- en of an entry's word 0 (R325, R326). -/
def entryEn (w : Nat) : Bool := bit1 w 63

/-- Traffic class of a scheduling entry. -/
def schedTc (w : Nat) : Nat := bitsOf w 60 3

/-- The launch field of a scheduling entry. -/
def schedLaunch (w : Nat) : Nat := bitsOf w 58 2

/-- The node of a scheduling entry. -/
def schedNode (w : Nat) : Nat := bitsOf w 42 14

/-- The quantum of a scheduling entry in octets. -/
def schedQuantum (w : Nat) : Nat := bitsOf w 30 12 * 64

/-- The port of a node entry. -/
def nodePort (w : Nat) : Nat := bitsOf w 56 6

/-- The slice of a node entry. -/
def nodeSlice (w : Nat) : Nat := bitsOf w 54 2

/-- The quantum of a node entry in octets. -/
def nodeQuantum (w : Nat) : Nat := bitsOf w 42 12 * 64

/-- rate_kbps of an entry. -/
def entryRate (w : Nat) : Nat := bitsOf w 0 30

/-- The port of a FLOW Drawer entry (R324). -/
def FlowPart.port (p : FlowPart) : Nat :=
  match p.kind with
  | 0 => p.target % 32
  | 1 => 32 + p.target % 4
  | 2 => 36
  | _ => 37

/-- The port of a flow context (R324). -/
def State.flowPort (s : State) (f : Nat) : Option Nat := (s.flowPart f).map FlowPart.port

/-- The length of an accepted frame in its buffers, L of R299. -/
def State.heldLen (s : State) (h : Held) : Nat := (s.frameOctets h).length

/-- The octets queued for a flow context. -/
def State.flowDepth (s : State) (f : Nat) : Nat :=
  (s.flowQueue f).foldl (fun a j => match s.heldAt j with | some h => a + s.heldLen h | none => a) 0

/-- The flow contexts with a frame queued. -/
def State.queuedFlows (s : State) : List Nat := s.sch.flowQ.map (·.1)

/-- The flows with a frame queued that name a node. -/
def State.nodeFlows (s : State) (k : Nat) : List Nat := s.queuedFlows.filter fun f => schedNode (s.sched f) == k

/-- The octets queued for a node. -/
def State.nodeDepth (s : State) (k : Nat) : Nat := (s.nodeFlows k).foldl (fun a f => a + s.flowDepth f) 0

/-- The frames of a flow context that are queued for port q: of a flow whose node leads to it all, of a flow that leads to the partner port
those accepted as replicated (R203, R331). -/
def State.queuedOn (s : State) (q f : Nat) : List Held :=
  let p := nodePort (s.node (schedNode (s.sched f)))
  let l := (s.flowQueue f).filterMap s.heldAt
  if p = q then l
  else if 32 ≤ q ∧ q < 36 ∧ p = 32 + ((q - 32) ^^^ 2) ∧ s.privFlow f then l.filter (·.repl)
  else []

/-- The flows with a frame queued for a port, from the nodes of that port (R324); a replicated flow is also offered to the
partner port (R331). -/
def State.portFlows (s : State) (q : Nat) : List Nat := s.queuedFlows.filter fun f => !(s.queuedOn q f).isEmpty

/-- The octets queued for a port. -/
def State.portDepth (s : State) (q : Nat) : Nat :=
  (s.portFlows q).foldl (fun a f => (s.queuedOn q f).foldl (fun a h => a + s.heldLen h) a) 0

/-! ## Token buckets (R333 to R337) -/

/-- The key of a flow's bucket. -/
def flowBucket (f : Nat) : Nat := f

/-- The key of a node's bucket. -/
def nodeBucket (k : Nat) : Nat := 65536 + k

/-- The key of a port's bucket. -/
def portBucket (q : Nat) : Nat := 131072 + q

/-- A bucket. -/
def State.bucket (s : State) (k : Nat) : Bucket := mgetD k {} s.sch.buckets

/-- The state with a bucket replaced. -/
def State.setBucket (s : State) (k : Nat) (b : Bucket) : State :=
  { s with sch := { s.sch with buckets := mset k b s.sch.buckets } }

/-- The floor of a balance, in 10^-6 octet (R333). -/
def bucketFloor : Int := -16384000000

/-- The values that a bucket's entry holds now: rate, burst, idle mode. -/
def State.bucketCfg (s : State) (k : Nat) : Nat × Nat × Bool :=
  if k < 65536 then
    let w := s.sched k
    (if entryEn w then entryRate w else 0, bitsOf (s.tword (schedAddr k + 8)) 39 25, bit1 w 57)
  else if k < 131072 then
    let w := s.node (k - 65536)
    (if entryEn w then entryRate w else 0, bitsOf (s.tword (nodeAddr (k - 65536) + 8)) 39 25, bit1 w 62)
  else
    let q := k - 131072
    (s.get (SCH_PORT_RATE.rate_kbps q), s.get (SCH_PORT_BURST.burst_oct q), s.on (SCH_PORT_CFG.idle_mode q))

/-- The queue of a bucket is empty (R335). -/
def State.bucketEmpty (s : State) (k : Nat) : Bool :=
  if k < 65536 then (s.flowQueue k).isEmpty
  else if k < 131072 then (s.nodeFlows (k - 65536)).isEmpty
  else (s.portFlows (k - 131072)).isEmpty

/-- The island of a bucket (R351 to R353): the ports of the host and of the policy cores have none whose reset a rule names. -/
def State.bucketIsl (s : State) (k : Nat) : Nat :=
  if k < 65536 then 13 + s.flowSlice k
  else if k < 131072 then 13 + nodeSlice (s.node (k - 65536))
  else if k - 131072 < 32 then treeIsl (k - 131072)
  else if k - 131072 < 36 then 22
  else 0

/-- One refill tick of one bucket (R333 to R337, R353). -/
def State.refill (s : State) (k : Nat) : State :=
  if s.isl (s.bucketIsl k) = 2 then s
  else
    let c := s.bucketCfg k
    if c.1 = 0 then s.setBucket k { bal := 0, rate := 0, burst := c.2.1, idleMode := c.2.2 }
    else
      let b := (s.bucket k).bal + c.1 * 128
      let b1 := min b (c.2.1 * 1000000)
      let b2 := if c.2.2 ∧ s.bucketEmpty k ∧ 0 < b1 then 0 else b1
      s.setBucket k { bal := b2, rate := c.1, burst := c.2.1, idleMode := c.2.2 }

/-- A bucket that is enabled starts full, or at 0 under idle_mode 1 (R335). -/
def State.enableBucket (s : State) (k : Nat) : State :=
  let c := s.bucketCfg k
  s.setBucket k { bal := if c.2.2 then 0 else (c.2.1 * 1000000 : Nat), rate := c.1, burst := c.2.1, idleMode := c.2.2 }

/-- A bucket is charged (R331, R333, R334). -/
def State.charge (s : State) (k n : Nat) : State :=
  let b := s.bucket k
  if b.rate = 0 then s
  else s.setBucket k { b with bal := max (b.bal - (n * 1000000 : Nat)) bucketFloor }

/-- A bucket lets a frame begin (R329). -/
def State.bucketOk (s : State) (k : Nat) : Bool :=
  let b := s.bucket k
  b.rate == 0 || decide (0 ≤ b.bal)

/-- The balance in whole octets, rounded towards minus infinity (R325). -/
def Bucket.octets (b : Bucket) : Int := if b.rate = 0 then 0 else b.bal / 1000000

/-! ## Gates (R338 to R342) -/

/-- The gate state of a port. -/
def State.gate (s : State) (q : Nat) : GateSt := mgetD q {} s.sch.gates

/-- The state with the gate state of a port replaced. -/
def State.setGate (s : State) (q : Nat) (g : GateSt) : State :=
  { s with sch := { s.sch with gates := mset q g s.sch.gates } }

/-- The address of entry e of copy a of the gate list of port q (R339). -/
def gateAddr (q a e : Nat) : Nat := 0x1030300000 + q * 0x800 + a * 0x400 + 8 * e

/-- The entries of a copy: gates and interval. -/
def State.gateEntries (s : State) (q a len : Nat) : List (Nat × Nat) :=
  (List.range (min len 128)).map fun e =>
    let w := s.tword (gateAddr q a e)
    (bitsOf w 32 8, bitsOf w 0 30)

/-- The entries laid over the cycle: start, length, gates, entry number; cut at the cycle's end, the last held to it (R339). -/
def layGates (cycle : Nat) : Nat → Nat → List (Nat × Nat) → List (Nat × Nat × Nat × Nat)
  | _, _, [] => []
  | t, e, [(g, _)] => if t < cycle then [(t, cycle - t, g, e)] else []
  | t, e, (g, n) :: r =>
    if cycle ≤ t then []
    else (t, min n (cycle - t), g, e) :: layGates cycle (t + n) (e + 1) r

/-- The port's gates apply (R338). -/
def State.gated (s : State) (q : Nat) : Bool :=
  decide (q < 36) && s.on (SCH_PORT_CFG.gate_en q) && decide ((s.gate q).operLen ≠ 0)

/-- The operational list of a port laid over its cycle. -/
def State.operGates (s : State) (q : Nat) : List (Nat × Nat × Nat × Nat) :=
  layGates (s.gate q).operCycle 0 0 (s.gateEntries q (s.get (SCH_GATE_STATUS.oper_copy q)) (s.gate q).operLen)

/-- The offset in the cycle of the operational list now (R338). -/
def State.gateOffset (s : State) (q : Nat) : Nat :=
  (((s.todNs : Int) - (s.gate q).operBase) % ((max 1 (s.gate q).operCycle : Nat) : Int)).toNat

/-- The stretch in force at an offset. -/
def gateAt (l : List (Nat × Nat × Nat × Nat)) (o : Nat) : Option (Nat × Nat × Nat × Nat) :=
  l.find? fun e => decide (e.1 ≤ o) && decide (o < e.1 + e.2.1)

/-- GATE_STATUS takes the entry and the gates that the list gives for the present time (R352, R394). -/
def State.gateRefresh (s : State) (q : Nat) : State :=
  if s.gated q then
    match gateAt (s.operGates q) (s.gateOffset q) with
    | some e => (s.put (SCH_GATE_STATUS.entry q) e.2.2.2).put (SCH_GATE_STATUS.open_ q) e.2.2.1
    | none => s
  else (s.put (SCH_GATE_STATUS.entry q) 0).put (SCH_GATE_STATUS.open_ q) 0xFF

/-- The gate of a class is open (R338). -/
def State.gateOpen (s : State) (q c : Nat) : Bool := !s.gated q || bit1 (s.get (SCH_GATE_STATUS.open_ q)) c

/-- The time for which a class stays open over a list of stretches. -/
def openRun (c : Nat) : List (Nat × Nat × Nat × Nat) → Nat
  | [] => 0
  | (_, n, g, _) :: r => if bit1 g c then n + openRun c r else 0

/-- Nanoseconds until the gate of a class next closes, counted from the present time where that lies in the entry in force and
from the entry's start otherwise; none when it never closes (R342). -/
def State.gateLeft (s : State) (q c : Nat) : Option Nat :=
  if !s.gated q then none
  else
    let l := s.operGates q
    if l.all fun e => bit1 e.2.2.1 c then none
    else
      let cur := s.get (SCH_GATE_STATUS.entry q)
      let after := l.filter fun e => decide (cur ≤ e.2.2.2)
      let before := l.filter fun e => decide (e.2.2.2 < cur)
      match after with
      | [] => some 0
      | e :: _ =>
        let o := s.gateOffset q
        some (openRun c (after ++ before) - (if e.1 ≤ o ∧ o < e.1 + e.2.1 then o - e.1 else 0))

/-- The longest window of a class in a list over its cycle, none when the class is always open (R340). -/
def longestWindow (c : Nat) (l : List (Nat × Nat × Nat × Nat)) : Option Nat :=
  if l.all fun e => bit1 e.2.2.1 c then none
  else some ((List.range l.length).foldl (fun m i => max m (openRun c (l.drop i ++ l.take i))) 0)

/-- Payload octets per microsecond of a port. -/
def State.octPerUs (s : State) (q : Nat) : Nat := s.get (SCH_PORT_CFG.oct_per_us q)

/-- ovh_adj of a port (SCH_PORT_CFG_q). -/
def State.ovhAdj (s : State) (q : Nat) : Int := signedOf (s.get (SCH_PORT_CFG.ovh_adj q)) 8

/-- L plus ovh_adj. -/
def State.chargeOct (s : State) (q len : Nat) : Nat := ((len : Int) + s.ovhAdj q).toNat

/-- A frame of L octets fits a window of n ns on a port at the port's rate (R340, R342). -/
def State.fitsNs (s : State) (q len n : Nat) : Bool := decide (s.chargeOct q len * 1000 ≤ n * s.octPerUs q)

/-- The port-table entry of a tree (R84). -/
def State.portEntry (s : State) (t i : Nat) : Nat := s.word (0x1000000000 + t * 0x8000 + 8 * i)

/-- frag_ok of a port-table entry (R84). -/
def fragOk (w : Nat) : Bool := bit1 w 59

/-- Octets of an XGEM header. PRESUMED (log 9). -/
def xgemHeader : Nat := 8

/-- The length check of R340 against one list: on a tree R87 applies. -/
def State.lengthOk (s : State) (q c len ptidx : Nat) (l : List (Nat × Nat × Nat × Nat)) : Bool :=
  match longestWindow c l with
  | none => true
  | some n =>
    if q < 32 then fragOk (s.portEntry q ptidx) || s.fitsNs q (len + xgemHeader) n
    else s.fitsNs q len n

/-- The administrative list of a port laid over its cycle. -/
def State.adminGates (s : State) (q : Nat) : List (Nat × Nat × Nat × Nat) :=
  layGates (s.gate q).adminCycle 0 0
    (s.gateEntries q (1 - s.get (SCH_GATE_STATUS.oper_copy q)) (s.gate q).adminLen)

/-- The length check at enqueue: the operational list, and the administrative list while a change is pending (R340). -/
def State.enqueueLenOk (s : State) (q c len ptidx : Nat) : Bool :=
  (!s.gated q || s.lengthOk q c len ptidx (s.operGates q)) &&
    (!(s.on (SCH_GATE_STATUS.pending q) && s.on (SCH_PORT_CFG.gate_en q)) ||
      s.lengthOk q c len ptidx (s.adminGates q))

/-! ## The Lens (R347 to R350) -/

/-- The address of a Lens slot (R347). -/
def lensAddr (w : Nat) : Nat := 0x1030500000 + 16 * w

/-- The address of the histograms of a Lens slot (R349). -/
def lensHist (w : Nat) : Nat := 0x1030400000 + 128 * w

/-- The bin of a value for base b (R349). -/
def lensBin (b v : Nat) : Nat :=
  if v < b then 0 else min 15 (1 + Nat.log2 (v / max 1 b))

/-- A 32-bit bin of a histogram rises by one and saturates; `half` is 0 for depth, 1 for sojourn (R349). -/
def State.lensCount (s : State) (w half bin : Nat) : State :=
  let a := lensHist w + 64 * half + 8 * (bin / 2)
  let x := s.word a
  let lo := 32 * (bin % 2)
  s.putWord a (withBits x lo 32 (min (bitsOf x lo 32 + 1) 0xFFFFFFFF))

/-- The depth of the queue that a Lens slot watches. -/
def State.lensDepth (s : State) (w : Nat) : Nat :=
  let x := s.tword (lensAddr w)
  let i := bitsOf x 45 16
  match bitsOf x 61 2 with
  | 0 => s.flowDepth i
  | 1 => s.nodeDepth (i % 16384)
  | 2 => s.portDepth i
  | _ => 0

/-- The slice of the queue that a Lens slot watches, none for a port. -/
def State.lensSlice (s : State) (w : Nat) : Option Nat :=
  let x := s.tword (lensAddr w)
  let i := bitsOf x 45 16
  match bitsOf x 61 2 with
  | 0 => some (s.flowSlice i)
  | 1 => some (nodeSlice (s.node (i % 16384)))
  | _ => none

/-- A Lens slot watches a departure of a flow on a port (R347). -/
def State.lensWatches (s : State) (w f q : Nat) : Bool :=
  let x := s.tword (lensAddr w)
  let i := bitsOf x 45 16
  entryEn x && (match bitsOf x 61 2 with
    | 0 => i == f
    | 1 => i == schedNode (s.sched f)
    | 2 => i == q
    | _ => false)

/-- A departure is seen by the Lens: the largest sojourn, held while the Lens is frozen, and the latest sojourn since the previous
instant (R348 to R350). -/
def State.lensDepart (s : State) (f q soj : Nat) : State :=
  if !s.on LNS_CTRL.en then s
  else s.sch.lens.foldl (fun s w =>
    if s.lensWatches w f q then
      let m := s.word (lensAddr w + 8)
      let s1 := if s.on LNS_CTRL.freeze then s
        else s.putWord (lensAddr w + 8) (withBits m 32 32 (max (bitsOf m 32 32) (min soj 0xFFFFFFFF)))
      { s1 with sch := { s1.sch with soj := mset w soj s1.sch.soj } }
    else s) s

/-- One enabled slot samples (R348). -/
def State.lensSlot (s : State) (w : Nat) : State :=
  let x := s.tword (lensAddr w)
  if !entryEn x then s
  else
    let d := s.lensDepth w
    let s1 := s.lensCount w 0 (lensBin (bitsOf x 29 16) d)
    let m := s1.word (lensAddr w + 8)
    let s2 := s1.putWord (lensAddr w + 8) (withBits m 0 32 (max (bitsOf m 0 32) (min d 0xFFFFFFFF)))
    match mget w s2.sch.soj with
    | none => s2
    | some v =>
      let s3 := s2.lensCount w 1 (lensBin (bitsOf x 13 16) v)
      { s3 with sch := { s3.sch with soj := mdel w s3.sch.soj } }

/-! ## Staging of table entries (R256) -/

/-- The words staged so far for an entry, and whether words of another entry are discarded. -/
def stagedFor (k e : Nat) (m : List (Nat × Staged)) : List (Nat × Word64) × Bool :=
  match mget k m with
  | some x => if x.entry = e then (x.words, false) else ([], !x.words.isEmpty)
  | none => ([], false)

/-- A word is staged in a buffer (R256). -/
def stageWord (k e w : Nat) (d : Word64) (m : List (Nat × Staged)) : List (Nat × Staged) :=
  mset k ⟨e, mset w d (stagedFor k e m).1⟩ m

/-- A write of word 0 commits it with the staged words of the same entry: the memory after (R256). -/
def State.commitWords (s : State) (e : Nat) (d : Word64) (ws : List (Nat × Word64)) : State :=
  (ws.foldl (fun s x => s.putWord (e + 8 * x.1) x.2.toNat) s).putWord e d.toNat

/-! ## Refusals of R327 -/

/-- A commit, write or command is refused (R327). -/
def State.schRefuse (s : State) (table index reason : Nat) : State :=
  (((s.set1 SCH_EVENT.cfg_refused).put SCH_CFG_REFUSE.table table).put SCH_CFG_REFUSE.index index).put
    SCH_CFG_REFUSE.reason reason

/-- The reason for which the commit of a scheduling entry is refused, 0 for none; w0 and w1 are the words it would hold
(R327). -/
def State.schedReason (s : State) (f w0 w1 : Nat) : Nat :=
  let n := s.node (schedNode w0)
  let old := s.sched f
  let bad1 := match s.flowPart f with
    | none => true
    | some p => !entryEn n || nodePort n != p.port || nodeSlice n != p.slice
  if entryEn w0 && bad1 then 1
  else if !(s.flowQueue f).isEmpty ∧
      (schedNode w0 ≠ schedNode old ∨ schedTc w0 ≠ schedTc old ∨ !entryEn w0) then 2
  else if entryEn w0 ∧ (schedQuantum w0 = 0 ∨ schedLaunch w0 = 3 ∨ 800000000 < entryRate w0 ∨
      16777216 < bitsOf w1 39 25 ∨ (bitsOf w1 39 25 < 64 ∧ entryRate w0 ≠ 0)) then 4
  else 0

/-- The reason for which the commit of a node entry is refused, 0 for none (R327). -/
def State.nodeReason (s : State) (k w0 w1 : Nat) : Nat :=
  let old := s.node k
  if !(s.nodeFlows k).isEmpty ∧ (nodePort w0 ≠ nodePort old ∨ nodeSlice w0 ≠ nodeSlice old ∨ !entryEn w0) then 3
  else if entryEn w0 ∧ (nodeQuantum w0 = 0 ∨ 37 < nodePort w0 ∨ 800000000 < entryRate w0 ∨
      16777216 < bitsOf w1 39 25 ∨ (bitsOf w1 39 25 < 64 ∧ entryRate w0 ≠ 0)) then 4
  else 0

/-- The words that a commit writes: the RW words 0 and 1 (R327). -/
def rwWords (ws : List (Nat × Word64)) : List (Nat × Word64) := ws.filter fun x => x.1 == 1

/-- A scheduling entry is committed (R327, R335, R336). -/
def State.commitSched (s : State) (f : Nat) (d : Word64) (ws : List (Nat × Word64)) : State :=
  let w1 := match mget 1 ws with | some x => x.toNat | none => s.tword (schedAddr f + 8)
  let r := s.schedReason f d.toNat w1
  if r ≠ 0 then s.schRefuse 0 f r
  else
    let was := entryEn (s.sched f)
    let s1 := s.commitWords (schedAddr f) d (rwWords ws)
    if entryEn d.toNat ∧ !was then s1.enableBucket (flowBucket f) else s1

/-- A node entry is committed (R327, R335, R336). -/
def State.commitNode (s : State) (k : Nat) (d : Word64) (ws : List (Nat × Word64)) : State :=
  let w1 := match mget 1 ws with | some x => x.toNat | none => s.tword (nodeAddr k + 8)
  let r := s.nodeReason k d.toNat w1
  if r ≠ 0 then s.schRefuse 1 k r
  else
    let was := entryEn (s.node k)
    let s1 := s.commitWords (nodeAddr k) d (rwWords ws)
    if entryEn d.toNat ∧ !was then s1.enableBucket (nodeBucket k) else s1

end Sys2Proof.Machine
end

