-- ==== Sys2Proof/Machine/Crypto.lean ====
section
/-! DEFINITION. Tenant separation (R356 to R382): flow cipher entries, security associations, the Key Vault and its commands,
the encryption and decryption of a frame, and the entropy source. -/

namespace Sys2Proof.Machine

/-! ## Flow cipher entries (R360) -/

/-- The address of the flow cipher entry of a flow context. -/
def cipherAddr (f : Nat) : Nat := 0x1040000000 + 8 * f

/-- The flow cipher entry of a flow context. -/
def State.cipher (s : State) (f : Nat) : Nat := s.tword (cipherAddr f)

/-- op of a flow cipher entry: 0 none, 1 encrypt, 2 decrypt. -/
def cipherOp (w : Nat) : Nat := bitsOf w 62 2

/-- ct of a flow cipher entry. -/
def cipherCt (w : Nat) : Bool := bit1 w 61

/-- sa_tree of a flow cipher entry. -/
def cipherTree (w : Nat) : Nat := bitsOf w 56 5

/-- sa_idx of a flow cipher entry. -/
def cipherIdx (w : Nat) : Nat := bitsOf w 50 6

/-- hold_frames of a flow cipher entry. -/
def cipherHold (w : Nat) : Nat := bitsOf w 34 16

/-- The reason for which a write of a flow cipher entry is refused, 0 for none (R360). -/
def State.cipherReason (s : State) (f w : Nat) : Nat :=
  let old := s.cipher f
  let km := match s.flowPart f with | some p => s.keymode p.tenant | none => 0
  if cipherOp w = 3 ∨ (cipherOp w ≠ 0 ∧ km % 4 = 0) then 1
  else if cipherCt w ∧ (!bit1 km 4 ∨ cipherOp w ≠ 2) then 2
  else if (cipherOp w ≠ cipherOp old ∨ cipherCt w ≠ cipherCt old) ∧ !(s.flowQueue f).isEmpty then 3
  else 0

/-- A flow cipher entry is written, or refused (R360). -/
def State.cipherWrite (s : State) (f w : Nat) : State :=
  let r := s.cipherReason f w
  if r = 0 then s.putWord (cipherAddr f) w
  else ((s.set1 CIP_EVENT.cfg_refused).put CIP_CFG_REFUSE.flow f).put CIP_CFG_REFUSE.reason r

/-- FLOW_CIPHER_WRITE (R360): the flow cipher entry of a flow context is written whole, or refused. -/
def execFlowCipherWrite (f : BitVec 16) (d : BitVec 64) (s : State) : Host.Outcome State Fault Refusal :=
  if s.answers [20] then ((s.ungate 20).cipherWrite f.toNat d.toNat).done else s.done

/-! ## Key slots and the SA map (R358, R359) -/

/-- The index of a binding in the SA map (R358). -/
def saKey (t n i : Nat) : Nat := 4096 * t + 64 * n + i

/-- A key slot. -/
def State.saSlot (s : State) (k : Nat) : SaSlot := mgetD k {} s.kv.slots

/-- The state with a key slot replaced; an Empty slot is kept by absence. -/
def State.putSlot (s : State) (k : Nat) (x : SaSlot) : State :=
  { s with kv := { s.kv with slots := if x = {} then mdel k s.kv.slots else mset k x s.kv.slots } }

/-- The slot and the SA of a binding. -/
def State.sa (s : State) (t n i : Nat) : Option (Nat × SaSlot) :=
  (mget (saKey t n i) s.kv.saMap).map fun k => (k, s.saSlot k)

/-- A binding names a slot, or none. -/
def State.bind (s : State) (t n i : Nat) (k : Option Nat) : State :=
  { s with kv := { s.kv with saMap := match k with
      | some x => mset (saKey t n i) x s.kv.saMap
      | none => mdel (saKey t n i) s.kv.saMap } }

/-- Words 0 to 3 of the state entry of a key slot (R359). -/
def SaSlot.wordAt (x : SaSlot) (w : Nat) : Nat :=
  match w with
  | 0 => x.state.ctorIdx <<< 61 ||| (if x.rx then 1 else 0) <<< 60 ||| (if x.alg256 then 1 else 0) <<< 59 |||
      (if x.derived then 1 else 0) <<< 58 ||| x.tree <<< 53 ||| x.tenant <<< 47 ||| x.idx <<< 41
  | 1 => x.pn
  | 2 => x.epoch <<< 32 ||| x.frames
  | _ => x.tagFail <<< 32 ||| x.replay

/-- The value at which an SA becomes Rekey due (R366). -/
def rekeyPn : Nat := 2 ^ 47

/-- The value at which a transmit SA enters Key-Wait, never used itself (R366). -/
def keyWaitPn : Nat := 2 ^ 48 - 2 ^ 20

/-- A 32-bit counter of a key slot advances by one and saturates. -/
def bump32 (n : Nat) : Nat := min (n + 1) 0xFFFFFFFF

/-- The rekey request item of a key slot (R513). -/
def rekeyBody (k : Nat) (x : SaSlot) : List Byte :=
  octetsBE 2 k ++ octetsBE 1 x.tree ++ octetsBE 1 x.tenant ++ octetsBE 1 x.idx ++
    octetsBE 1 ((if x.alg256 then 2 else 0) + (if x.rx then 1 else 0)) ++ octetsBE 2 x.state.ctorIdx

/-- A slot has become Rekey due (R366, R368). -/
def State.rekeyDue (s : State) (k : Nat) (x : SaSlot) : State :=
  ((s.set1 CIP_EVENT.rekey_due).inc CIP_REKEY_DUE_CNT.count).workItem 3 x.tree x.tenant (rekeyBody k x)

/-- A slot has entered Key-Wait (R366). -/
def State.keyWaited (s : State) : State :=
  ((s.set1 CIP_EVENT.key_wait).inc CIP_KEYWAIT_CNT.count).tlogEvent .cip 1 0

/-- A transmit SA has given a frame its packet number (R366, R376). -/
def State.takePn (s : State) (k : Nat) (x : SaSlot) : State :=
  let y := { x with pn := x.pn + 1, frames := bump32 x.frames }
  if keyWaitPn ≤ y.pn then (s.putSlot k { y with state := .keyWait }).keyWaited
  else if y.pn = rekeyPn then
    (s.putSlot k { y with state := .rekeyDue }).rekeyDue k { y with state := .rekeyDue }
  else s.putSlot k y

/-! ## Frames (R356, R357) -/

/-- The offset of the EtherType after VLAN tags and R-TAGs: v tags are still allowed, n steps at most (R368, R239). -/
def tagsEnd (tpid3 : Nat) (l : List Byte) : Nat → Nat → Nat → Nat
  | 0, _, o => o
  | n + 1, v, o =>
    let e := fieldAt l o 2
    if e = 0xF1C1 then tagsEnd tpid3 l n v (o + 6)
    else if (e = 0x8100 ∨ e = 0x88A8 ∨ e = tpid3) ∧ 0 < v then tagsEnd tpid3 l n (v - 1) (o + 4)
    else o

/-- The offset of the EtherType after the tags of a frame. -/
def State.etherOff (s : State) (l : List Byte) : Nat :=
  tagsEnd (s.get PR_PARSE_CFG.tpid3) l (l.length / 4) 4 12

/-- The octets of a frame without its FCS. -/
def noFcs (l : List Byte) : List Byte := l.take (l.length - 4)

/-- A frame with its FCS. -/
def withFcs (l : List Byte) : List Byte := l ++ fcsOctets l

/-- The Tenant Security Header (R356). -/
def tsh (alg256 : Bool) (idx pn : Nat) : List Byte :=
  octetsBE 1 (0x10 + (if alg256 then 8 else 0)) ++ octetsBE 1 idx ++ octetsBE 6 pn

/-- The IV of a frame (R357). -/
def gcmIv (x : SaSlot) (pn : Nat) : List Byte := octetsBE 4 x.salt.toNat ++ octetsBE 2 0 ++ octetsBE 6 pn

/-- The AAD of a frame (R357): the two addresses, the EtherType and the header. -/
def gcmAad (l : List Byte) (ethertype : Nat) (hdr : List Byte) : List Byte :=
  slice l 0 12 ++ octetsBE 2 ethertype ++ hdr

/-- A frame encrypted under an SA with a packet number (R356, R357, R366). -/
def State.sealFrame (s : State) (x : SaSlot) (pn : Nat) (l : List Byte) : List Byte :=
  let o := s.etherOff l
  let b := noFcs l
  let et := s.get CIP_CFG.ethertype
  let h := tsh x.alg256 x.idx pn
  withFcs (b.take o ++ octetsBE 2 et ++ h ++ Config.gcmSeal x.key x.alg256 (gcmIv x pn) (gcmAad l et h) (b.drop o))

/-- A decrypted frame is padded to 60 octets before its FCS (R357). -/
def padFrame (l : List Byte) : List Byte := l ++ List.replicate (60 - l.length) 0

/-- The frame carries the TSH EtherType after its tags (R368). -/
def State.hasTsh (s : State) (l : List Byte) : Bool := fieldAt (noFcs l) (s.etherOff l) 2 == s.get CIP_CFG.ethertype

/-- The TSH of a frame, its octets. -/
def State.frameTsh (s : State) (l : List Byte) : List Byte := slice (noFcs l) (s.etherOff l + 2) 8

/-- sa_idx of a TSH. -/
def tshIdx (h : List Byte) : Nat := fieldAt h 1 1 % 64

/-- pn of a TSH. -/
def tshPn (h : List Byte) : Nat := fieldAt h 2 6

/-- What the check of R368 finds: pass, a header failure or a PN failure. -/
inductive TshCheck where
  | pass | header | pn
  deriving DecidableEq, Repr

/-- The check of R368 of a TSH against its SA. -/
def State.tshCheck (s : State) (x : SaSlot) (h : List Byte) : TshCheck :=
  let o := fieldAt h 0 1
  let pn := tshPn h
  let win := s.get CIP_CFG.replay_win
  if o / 16 ≠ 1 ∨ o % 8 ≠ 0 ∨ 64 ≤ fieldAt h 1 1 ∨ (bit1 o 3) ≠ x.alg256 ∨ !x.rx then .header
  else if pn = 0 ∨ keyWaitPn ≤ pn ∨ pn + win ≤ x.pn ∨ x.seen.contains pn then .pn
  else .pass

/-- The plaintext frame of a ciphered one, none where the tag fails (R357, R368, R370). -/
def State.openFrame (s : State) (x : SaSlot) (l : List Byte) : Option (List Byte) :=
  let o := s.etherOff l
  let b := noFcs l
  let et := s.get CIP_CFG.ethertype
  let h := s.frameTsh l
  (Config.gcmOpen x.key x.alg256 (gcmIv x (tshPn h)) (gcmAad l et h) (b.drop (o + 10))).map fun p =>
    withFcs (padFrame (b.take o ++ p))

/-- The frame, without its FCS, that cut-through decryption hands to the egress before the tag is verified (R370). -/
def State.openUnverified (s : State) (x : SaSlot) (l : List Byte) : List Byte :=
  let o := s.etherOff l
  let b := noFcs l
  padFrame (b.take o ++ Config.gcmPlain x.key x.alg256 (gcmIv x (tshPn (s.frameTsh l))) (b.drop (o + 10)))

/-- A tag has passed: the highest verified PN and the window move (R368). -/
def State.tagPassed (s : State) (k : Nat) (x : SaSlot) (pn : Nat) : State :=
  let hi := max x.pn pn
  let y := { x with
    pn := hi
    frames := bump32 x.frames
    seen := (pn :: x.seen).filter fun p => decide (hi < p + s.get CIP_CFG.replay_win) }
  if rekeyPn ≤ hi ∧ y.state = .valid then
    (s.putSlot k { y with state := .rekeyDue }).rekeyDue k { y with state := .rekeyDue }
  else s.putSlot k y

/-- A frame failed under R368, R369 or R370: it is counted, in the SA too where there is one. -/
def State.tagFailed (s : State) (sa : Option (Nat × SaSlot)) (pnFail : Bool) : State :=
  let s1 := (s.inc CIP_TAG_FAIL_CNT.count).set1 CIP_EVENT.tag_fail
  match sa with
  | none => s1
  | some (k, x) => s1.putSlot k { x with
      tagFail := bump32 x.tagFail, replay := if pnFail then bump32 x.replay else x.replay }

/-! ## Holding in Key-Wait (R367) -/

/-- An SA cannot serve a frame (R367). -/
def saAway (enc : Bool) (x : Option (Nat × SaSlot)) : Bool :=
  match x with
  | none => true
  | some (_, y) => y.state == .empty || y.state == .installing || y.state == .keyWait || (enc && y.rx)

/-- A frame of a flow context would be held in Key-Wait at the head of its flow (R367). -/
def State.keyHeld (s : State) (f : Nat) (octets : List Byte) : Bool :=
  let w := s.cipher f
  let n := match s.flowPart f with | some p => p.tenant | none => 0
  match cipherOp w with
  | 1 => !s.on CIP_CTRL.en || s.isl 20 == 3 || saAway true (s.sa (cipherTree w) n (cipherIdx w))
  | 2 => !s.on CIP_CTRL.en || s.isl 20 == 3 ||
      (s.hasTsh octets && saAway false (s.sa (cipherTree w) n (tshIdx (s.frameTsh octets))))
  | _ => false

/-- CIPHER holds a flow whose entry names an operation: the island cannot take the frame (R30, R375, R502). -/
def State.cipherAway (s : State) (f : Nat) : Bool := cipherOp (s.cipher f) != 0 && !s.up 20

/-! ## Key Vault commands (R361 to R365, R371, R372) -/

/-- The command window of a requester, as it stands (R363). -/
def State.kvWindow (s : State) (r op slot : Nat) : KvCmd :=
  { req := r
    op := op
    slot := slot
    tree := s.get (KV_ARG.tree r)
    tenant := s.get (KV_ARG.tenant r)
    idx := s.get (KV_ARG.idx r)
    rx := s.on (KV_ARG.dir r)
    alg256 := s.on (KV_ARG.alg r)
    keyIndex := s.get (KV_ARG.key_index r)
    epoch := s.get (KV_EPOCH.epoch r)
    blob := (List.range 16).flatMap fun k => octetsBE 4 (s.get (KV_BLOB.blob r k)) }

/-- The command is an install of an SA. -/
def KvCmd.installs (c : KvCmd) : Bool := c.op == 1 || c.op == 2

/-- The first waiting command starts when none runs (R363, R365): its output window is cleared and the slot of an install reads
Installing. -/
def State.kvStart (s : State) : State :=
  if s.kv.started then s
  else match s.kv.cmds with
    | [] => s.put KV_STATUS.busy 0
    | c :: _ =>
      let s1 := (List.range 4).foldl (fun s k => s.put (KV_OUT.out c.req k) 0) (s.put KV_STATUS.busy 1)
      let s2 := { s1 with kv := { s1.kv with started := true } }
      if c.installs then
        let x := s2.saSlot c.slot
        s2.putSlot c.slot { x with state := .installing, prior := x.state }
      else s2

/-- A go bit is written: the command joins the queue in go order (R363); a go written while it reads 1 is ignored (R9). -/
def State.kvGo (s : State) (r op slot : Nat) : State :=
  if s.on (KV_CMD.go r) then s
  else
    let s1 := ((s.put (KV_CMD.op r) op).put (KV_CMD.slot r) slot).set1 (KV_CMD.go r)
    State.kvStart { s1 with kv := { s1.kv with cmds := s1.kv.cmds ++ [s1.kvWindow r op slot] } }

/-- A command of the Key Vault from the window of a requester; CIPHER must answer (R38, R363). -/
def State.kvCommand (s : State) (r : Requester) (op : Nat) (d : BitVec 32) : State :=
  if s.answers [20] then (s.ungate 20).kvGo r.val op ((KV_CMD.slot r.val).of d.toNat) else s

/-- KV_INSTALL_SA_BLOB (R361, R363): op 0x1 starts, or waits its turn. -/
def execKvInstallSaBlob (r : Requester) (d : BitVec 32) (s : State) : Host.Outcome State Fault Refusal :=
  (s.kvCommand r 1 d).done

/-- KV_INSTALL_DERIVED (R362, R363): op 0x2 starts, or waits its turn. -/
def execKvInstallDerived (r : Requester) (d : BitVec 32) (s : State) : Host.Outcome State Fault Refusal :=
  (s.kvCommand r 2 d).done

/-- KV_DELETE_SA (R363): op 0x3 starts, or waits its turn. -/
def execKvDeleteSa (r : Requester) (d : BitVec 32) (s : State) : Host.Outcome State Fault Refusal :=
  (s.kvCommand r 3 d).done

/-- KV_INSTALL_ROOT (R363): op 0x4 starts, or waits its turn. -/
def execKvInstallRoot (r : Requester) (d : BitVec 32) (s : State) : Host.Outcome State Fault Refusal :=
  (s.kvCommand r 4 d).done

/-- KV_DELETE_ROOT (R363): op 0x5 starts, or waits its turn. -/
def execKvDeleteRoot (r : Requester) (d : BitVec 32) (s : State) : Host.Outcome State Fault Refusal :=
  (s.kvCommand r 5 d).done

/-- KV_INSTALL_KEK (R363): op 0x6 starts, or waits its turn. -/
def execKvInstallKek (r : Requester) (d : BitVec 32) (s : State) : Host.Outcome State Fault Refusal :=
  (s.kvCommand r 6 d).done

/-- KV_TREE_UNICAST_KEY (R371): op 0x7 starts, or waits its turn. -/
def execKvTreeUnicastKey (r : Requester) (d : BitVec 32) (s : State) : Host.Outcome State Fault Refusal :=
  (s.kvCommand r 7 d).done

/-- KV_GEN_BROADCAST_KEY (R371): op 0x8 starts, or waits its turn. -/
def execKvGenBroadcastKey (r : Requester) (d : BitVec 32) (s : State) : Host.Outcome State Fault Refusal :=
  (s.kvCommand r 8 d).done

/-- KV_EXPORT_BROADCAST_KEY (R371): op 0x9 starts, or waits its turn. -/
def execKvExportBroadcastKey (r : Requester) (d : BitVec 32) (s : State) : Host.Outcome State Fault Refusal :=
  (s.kvCommand r 9 d).done

/-- KV_ZEROISE (R363): op 0xA starts, or waits its turn; its end refuses it from a policy core. -/
def execKvZeroise (r : Requester) (d : BitVec 32) (s : State) : Host.Outcome State Fault Refusal :=
  (s.kvCommand r 10 d).done

/-- A slot holds the binding of a command. -/
def SaSlot.bound (x : SaSlot) (c : KvCmd) : Bool := x.tree == c.tree && x.tenant == c.tenant && x.idx == c.idx % 64

/-- R365 refuses the slot or the binding of an install. -/
def State.slotRefused (s : State) (c : KvCmd) : Bool :=
  let x := s.saSlot c.slot
  !((x.prior == .empty && (s.sa c.tree c.tenant (c.idx % 64)).isNone) || (x.prior == .keyWait && x.bound c))

/-- The tenant's key mode allows the algorithm of an install (R62). -/
def State.algAllowed (s : State) (c : KvCmd) : Bool := bit1 (s.keymode c.tenant) (if c.alg256 then 3 else 2)

/-- The octets of the blob of a command (R361). -/
def KvCmd.blobLen (c : KvCmd) : Nat :=
  match c.op with | 1 => (if c.alg256 then 56 else 40) | 4 => 48 | _ => 32

/-- The plaintext of the blob of a command, none where the integrity check fails (R361). -/
def KvCmd.plain (c : KvCmd) : Option (List Byte) := Config.keyUnwrap Config.dkek (c.blob.take c.blobLen)

/-- The header that the blob of a command must carry (R361). -/
def KvCmd.header (c : KvCmd) : List Byte :=
  match c.op with
  | 1 => octetsBE 1 ((if c.alg256 then 32 else 0) + (if c.rx then 16 else 0) + 1) ++ octetsBE 1 c.tenant ++ octetsBE 1 c.tree ++
      octetsBE 1 c.idx ++ octetsBE 4 c.epoch
  | 4 => octetsBE 1 2 ++ octetsBE 1 c.tenant ++ octetsBE 6 0
  | _ => octetsBE 1 3 ++ octetsBE 1 0 ++ octetsBE 1 c.tree ++ octetsBE 1 c.idx ++ octetsBE 4 0

/-- The key material of the blob of a command, from octet o after the header, n octets. -/
def KvCmd.material (c : KvCmd) (o n : Nat) : Nat := fieldAt (c.plain.getD []) (8 + o) n

/-- The KEK of a terminal (R371). -/
def State.kek (s : State) (t onu : Nat) : Option (BitVec 128) := mget (termKey t onu) s.kv.keks

/-- The SFC of a tree is within 2^24 tree frames of its wrap (R108). -/
def State.nearWrap (s : State) (t : Nat) : Bool := decide (2 ^ 51 - 2 ^ 24 ≤ s.get (TE_SFC.sfc t))

/-- The unicast slot of a terminal that the tree uses downstream. -/
def State.uUsed (s : State) (t onu : Nat) : Nat := mgetD onu 0 (s.tree t).uInUse

/-- The key of a unicast slot in TreeSt.ukeys. -/
def ukey (onu idx : Nat) : Nat := onu * 4 + idx

/-- The context of a terminal is in Acquired to Operation (R114, R363). -/
def State.termLive (s : State) (t onu : Nat) : Bool :=
  match (s.term t onu).state with
  | .acquired | .ranging | .ranged | .operation => true
  | _ => false

/-- A condition fails for which R363 names no result: the context of op 0x6, or a key_index that names no slot. -/
def State.kvUnnamed (s : State) (c : KvCmd) : Bool :=
  (c.op == 6 && !s.termLive c.tree c.idx) ||
    ((c.op == 7 || c.op == 8) && (c.keyIndex == 0 || c.keyIndex == 3))

/-- The result of a command (R363): the first condition that applies in the order of R363; an open value other than OK where
the spec names no result for the condition that fails (log 21). -/
def State.kvResult (s : State) (c : KvCmd) : Nat :=
  let o := c.op
  let mode := s.keymode c.tenant % 4
  let blob := o == 1 || o == 4 || o == 6
  if o = 0 ∨ 10 < o ∨ (o = 10 ∧ c.req ≠ 0) then 0xC
  else if s.on KV_STATUS.entropy_fail ∧ (blob ∨ o = 2 ∨ 7 ≤ o ∧ o ≤ 9) then 0xA
  else if (o = 1 ∧ (mode ≠ 1 ∨ !s.algAllowed c)) ∨ (o = 2 ∧ (mode ≠ 2 ∨ !s.algAllowed c)) ∨ (o = 4 ∧ mode ≠ 2) then 2
  else if (o = 2 ∧ (mget c.tenant s.kv.roots).isNone) ∨ ((o = 7 ∨ o = 9) ∧ (s.kek c.tree c.idx).isNone) then 7
  else if blob ∧ c.plain.isNone then 3
  else if blob ∧ slice (c.plain.getD []) 0 8 ≠ c.header then 4
  else if c.installs ∧ c.epoch ≤ s.get (KV_LAST_EPOCH.epoch c.tenant) then 5
  else if (c.installs ∧ s.slotRefused c) ∨ (o = 4 ∧ (mget c.tenant s.kv.roots).isSome) then 6
  else if (o = 5 ∧ s.kv.slots.any fun e => e.2.derived && e.2.tenant == c.tenant && e.2.state != .empty) ∨
      (o = 7 ∧ s.uUsed c.tree c.idx = c.keyIndex) ∨ (o = 8 ∧ (s.tree c.tree).bInUse = c.keyIndex) then 8
  else if (o = 7 ∨ o = 8) ∧ s.nearWrap c.tree then 9
  else if s.kvUnnamed c then 2 + s.freeVal % 11
  else 1

/-- Block i of the derivation of an SA (R362). -/
def KvCmd.kdfInput (c : KvCmd) (i : Nat) : List Byte :=
  octetsBE 1 i ++ octetsBE 4 0x5A585453 ++ octetsBE 1 0 ++ octetsBE 1 c.tenant ++ octetsBE 1 c.tree ++ octetsBE 1 c.idx ++
    octetsBE 1 ((if c.alg256 then 2 else 0) + (if c.rx then 1 else 0)) ++ octetsBE 4 c.epoch ++
    octetsBE 2 (if c.alg256 then 288 else 160)

/-- The key and the salt that op 0x2 derives (R362). -/
def KvCmd.derive (c : KvCmd) (root : BitVec 256) : BitVec 256 × BitVec 32 :=
  let b (i : Nat) : List Byte := octetsBE 16 (Config.cmac256 root (c.kdfInput i)).toNat
  let bits := b 1 ++ b 2 ++ (if c.alg256 then b 3 else [])
  let k := if c.alg256 then 32 else 16
  (BitVec.ofNat 256 (fieldAt bits 0 k), BitVec.ofNat 32 (fieldAt bits k 4))

/-- The key and the salt that an install brings (R361, R362). -/
def State.installKey (s : State) (c : KvCmd) : BitVec 256 × BitVec 32 :=
  if c.op = 2 then c.derive (mgetD c.tenant 0 s.kv.roots)
  else
    let k := if c.alg256 then 32 else 16
    (BitVec.ofNat 256 (c.material 0 k), BitVec.ofNat 32 (c.material k 4))

/-- An install succeeds (R364, R365). -/
def State.install (s : State) (c : KvCmd) : State :=
  let ks := s.installKey c
  let x : SaSlot :=
    { state := .valid, rx := c.rx, alg256 := c.alg256, derived := c.op == 2, tree := c.tree, tenant := c.tenant,
      idx := c.idx % 64, pn := if c.rx then 0 else 1, epoch := c.epoch, key := ks.1, salt := ks.2 }
  ((s.putSlot c.slot x).bind c.tree c.tenant (c.idx % 64) (some c.slot)).put (KV_LAST_EPOCH.epoch c.tenant) c.epoch

/-- An SA is deleted (R363): the slot is Empty and its map entry is cleared. -/
def State.deleteSa (s : State) (k : Nat) : State :=
  let x := s.saSlot k
  if x.state = .empty then s.putSlot k {} else (s.putSlot k {}).bind x.tree x.tenant x.idx none

/-- A tree-layer key is written into a Tree Engine slot, with the SFC (R106, R371). -/
def State.writeTreeKey (s : State) (t : Nat) (onu : Option Nat) (idx : Nat) (key : BitVec 128) : State :=
  let k : KeySlot := ⟨true, s.get (TE_SFC.sfc t), key⟩
  s.modTree t fun x => match onu with
    | some o => { x with ukeys := mset (ukey o idx) k x.ukeys }
    | none => { x with bkeys := mset idx k x.bkeys }

/-- Every key slot, root key and KEK is overwritten (R363, R375). -/
def State.keyWipe (s : State) : State :=
  { s with kv := { s.kv with slots := [], saMap := [], roots := [], keks := [] } }.set1 KV_EVENT.zeroised

/-- The encrypted broadcast key stands in the output window (R371); of a slot that holds no key, an open value (log 21). -/
def State.exportKey (s : State) (c : KvCmd) (kek : BitVec 128) : State :=
  let b : KeySlot := mgetD c.keyIndex {} (s.tree c.tree).bkeys
  let e := octetsBE 16 (if b.valid then (Config.aesEnc kek b.key).toNat else s.freeVal)
  (List.range 4).foldl (fun s k => s.put (KV_OUT.out c.req k) (fieldAt e (4 * k) 4)) (if b.valid then s else s.drawn)

/-- What a command does that succeeds (R363). -/
def State.kvOk (s : State) (c : KvCmd) : State :=
  match c.op with
  | 1 => s.install c
  | 2 => s.install c
  | 3 => s.deleteSa c.slot
  | 4 => { s with kv := { s.kv with roots := mset c.tenant (BitVec.ofNat 256 (c.material 0 32)) s.kv.roots } }
  | 5 => { s with kv := { s.kv with roots := mdel c.tenant s.kv.roots } }
  | 6 => { s with kv := { s.kv with
      keks := mset (termKey c.tree c.idx) (BitVec.ofNat 128 (c.material 0 16)) s.kv.keks } }
  | 7 => s.writeTreeKey c.tree (some c.idx) c.keyIndex
      (Config.aesDec ((s.kek c.tree c.idx).getD 0) (BitVec.ofNat 128 (fieldAt c.blob 0 16)))
  | 8 => { s.writeTreeKey c.tree none c.keyIndex (Config.drbg s.freeCtr) with freeCtr := s.freeCtr + 1 }
  | 9 => s.exportKey c ((s.kek c.tree c.idx).getD 0)
  | 10 => s.keyWipe
  | _ => s

/-- A command ends with a result: it is counted, its blob is overwritten, its go bit reads 0, and the next one starts (R363). -/
def State.kvEnd (s : State) (c : KvCmd) (res : Nat) : State :=
  let s1 := (s.inc KV_CMD_CNT.count).put (KV_RES.result c.req) res
  let s2 := if res = 1 then s1 else (s1.inc KV_FAIL_CNT.count).set1 KV_EVENT.cmd_failed
  let s3 := (List.range 16).foldl (fun s k => s.put (KV_BLOB.blob c.req k) 0) (s2.put (KV_CMD.go c.req) 0)
  State.kvStart { s3 with kv := { s3.kv with cmds := s3.kv.cmds.drop 1, started := false } }

/-- The slot of an install that changed nothing leaves Installing for its former state (R365). -/
def State.slotBack (s : State) (c : KvCmd) : State :=
  let x := s.saSlot c.slot
  if c.installs ∧ x.state = .installing then s.putSlot c.slot { x with state := x.prior, prior := .empty } else s

/-- R74 holds an install: a partial load is between the end of Check and the swap of its tenant. -/
def State.kvLoadHeld (s : State) (c : KvCmd) : Bool :=
  c.installs && s.sil.step == .apply && s.on SIL_STATUS.partial && bit1 s.imgTenantMask c.tenant &&
    !bit1 (s.get SIL_PARTIAL_TENANT.tenants) c.tenant

/-- The running command completes (R363, R365). -/
def State.kvComplete (s : State) : State :=
  match s.kv.cmds with
  | [] => s
  | c :: _ =>
    if s.kvLoadHeld c then { s with kv := { s.kv with cmds := s.kv.cmds.map fun x => if x = c then { x with held := true } else x } }
    else
      let r := s.kvResult c
      let s1 := if s.kvUnnamed c then s.drawn else s
      if r = 1 then (s1.kvOk c).kvEnd c r else (s1.slotBack c).kvEnd c r

/-- KV_COMMAND_END (R363, R365): the running command completes, its result is posted, and the next one starts. -/
def execKvCommandEnd (s : State) : Host.Outcome State Fault Refusal :=
  if s.kv.started then s.kvComplete.done else s.done

/-- KV_CMD_TIMEOUT (R363): the running command ends with TIMEOUT and changes nothing. -/
def execKvCmdTimeout (s : State) : Host.Outcome State Fault Refusal :=
  match s.kv.cmds with
  | [] => s.done
  | c :: _ => ((s.slotBack c).kvEnd c 0xB).done

/-! ## Entropy (R373) -/

/-- ENTROPY_HEALTH_FAIL (R373): the source has failed a health test. -/
def execEntropyHealthFail (s : State) : Host.Outcome State Fault Refusal :=
  ((s.set1 CIP_EVENT.entropy_fail).set1 KV_STATUS.entropy_fail).done

/-- ENTROPY_SOURCE_RECOVERED (R373): the source has passed 1,024 consecutive windows. -/
def execEntropySourceRecovered (s : State) : Host.Outcome State Fault Refusal := (s.put KV_STATUS.entropy_fail 0).done

/-- DRBG_RESEED (R373): the DRBG is reseeded from the source, or runs on unreseeded while the source is failed. -/
def execDrbgReseed (s : State) : Host.Outcome State Fault Refusal :=
  if s.on KV_STATUS.entropy_fail then s.done
  else { s with kv := { s.kv with reseeds := s.kv.reseeds + 1 } }.done

end Sys2Proof.Machine
end

