-- ==== Sys2Proof/Machine/Forward.lean ====
section
/-! DEFINITION. Forwarding and learning (R269 to R288): the table, lookups and floods, notifications, the compare-and-set
commands, the table window and the sweeper. -/

namespace Sys2Proof.Machine

/-! ## The table (R269 to R271) -/

/-- FWD_NOW: the seconds since power-on, modulo 65,536, from the MGT clock. -/
def State.fwdNow (s : State) : Nat := s.us / 1000000 % 65536

/-- A flow context may take a frame of a tenant (R58, R254). -/
def State.flowAllowed (s : State) (tenant f : Nat) : Bool :=
  match s.flowPart f with
  | none => false
  | some p => p.tenant == tenant || (p.tenant == 0 && (p.kind == 2 || p.kind == 3))

/-- The key of an entry (R270). -/
structure FwdKey where
  tenant : Nat
  vid : Nat
  mac : Nat
  deriving DecidableEq, Repr

/-- The bank of a key and the first index of its bucket (R270). -/
def FwdKey.bucket (k : FwdKey) : Nat × Nat :=
  let h := crc32c (octetsBE 1 k.tenant ++ octetsBE 2 k.vid ++ octetsBE 6 k.mac)
  (bitsOf h 13 3, 32768 * bitsOf h 13 3 + 4 * bitsOf h 0 13)

/-- The address of a word of an entry (R270). -/
def fwdAddr (i w : Nat) : Nat := 0x1020000000 + 32 * i + 8 * w

/-- A word of an entry. -/
def State.fwdWord (s : State) (i w : Nat) : Nat := s.word (fwdAddr i w)

/-- A word of the entry is poison. -/
def State.fwdPoison (s : State) (i : Nat) : Bool := (List.range 4).any fun w => s.poisoned (fwdAddr i w)

/-- The entry is in use. -/
def State.fwdValid (s : State) (i : Nat) : Bool := bit1 (s.fwdWord i 0) 63 && !s.fwdPoison i

/-- The key that an entry holds. -/
def State.fwdKey (s : State) (i : Nat) : FwdKey :=
  ⟨bitsOf (s.fwdWord i 1) 58 6, bitsOf (s.fwdWord i 0) 48 12, bitsOf (s.fwdWord i 0) 0 48⟩

/-- flow, ptidx and lif of an entry. -/
def State.fwdData (s : State) (i : Nat) : Nat × Nat × Nat :=
  let w := s.fwdWord i 1
  (bitsOf w 40 16, bitsOf w 28 12, bitsOf w 14 14)

/-- version of an entry. -/
def State.fwdVer (s : State) (i : Nat) : Nat := bitsOf (s.fwdWord i 2) 32 32

/-- A field of a word of an entry is set. -/
def State.fwdSet (s : State) (i w lo n v : Nat) : State := s.putWord (fwdAddr i w) (withBits (s.fwdWord i w) lo n v)

/-- An entry is invalidated. -/
def State.fwdDrop (s : State) (i : Nat) : State :=
  (List.range 4).foldl (fun s w => s.putWord (fwdAddr i w) 0) s

/-- An entry that reads as uncorrectable is invalidated (R275), which counts as a read of poison (R497). -/
def State.fwdUncorr (s : State) (i : Nat) : State :=
  (((s.fwdDrop i).inc FWD_UNCORR_CNT.count).set1 FWD_EVENT.uncorr).inc REL_POISON_RD_CNT.count

/-- Logical bank k is out of service (R287). -/
def State.bankOut (s : State) (k : Nat) : Bool := bit1 (s.get FWD_STATUS.banks_out) k

/-- A lookup of a key reads an uncorrectable word (R275). -/
def State.fwdBad (s : State) (k : FwdKey) : Bool :=
  let b := k.bucket
  !s.bankOut b.1 && (List.range 4).any fun w => s.fwdPoison (b.2 + w)

/-- Ways of a bucket that read as uncorrectable are invalidated (R275). -/
def State.fwdScrub (s : State) (k : FwdKey) : State :=
  let b := k.bucket
  if s.bankOut b.1 then s
  else (List.range 4).foldl (fun s w => if s.fwdPoison (b.2 + w) then s.fwdUncorr (b.2 + w) else s) s

/-- The entry of a key. -/
def State.fwdFind (s : State) (k : FwdKey) : Option Nat :=
  let b := k.bucket
  if s.bankOut b.1 then none
  else ((List.range 4).map (b.2 + ·)).find? fun i => s.fwdValid i && s.fwdKey i == k

/-- What a lookup of a key finds; one that reads an uncorrectable word is a miss (R275). -/
def State.fwdLook (s : State) (k : FwdKey) : Option Nat := if s.fwdBad k then none else s.fwdFind k

/-- The valid entries of the banks in service, by the octets of word 0 that memory lists (R287; log 148). -/
def State.fwdEntries (s : State) : List Nat :=
  ((s.mem.filter fun e => decide (0x1020000000 ≤ e.1) && decide (e.1 < 0x1020800000) && e.1 % 32 == 0 &&
    decide (128 ≤ e.2.toNat)).map fun e => (e.1 - 0x1020000000) / 32).filter fun i => s.fwdValid i && !s.bankOut (i / 32768)

/-- The entry of a key that a sweeper pass removes in the cycle of the lookup (R284). -/
def State.ghostOf (s : State) (k : FwdKey) : Option FwdGhost :=
  s.fwd.ghosts.find? fun g =>
    (⟨bitsOf g.w1.toNat 58 6, bitsOf g.w0.toNat 48 12, bitsOf g.w0.toNat 0 48⟩ : FwdKey) == k

/-- The cycle of a sweeper pass's removals is over (R284). -/
def State.fwdCycleEnd (s : State) : State := { s with fwd := { s.fwd with ghosts := [], spent := [] } }

/-! ## Notifications (R276, R277) -/

/-- The 16 octets of a notification (R276). -/
def notifyBody (kind : Nat) (contest : Bool) (k : FwdKey) (lif ver : Nat) : List Byte :=
  octetsBE 1 (kind * 64 + (if contest then 32 else 0)) ++ octetsBE 1 k.tenant ++ octetsBE 2 k.vid ++ octetsBE 6 k.mac ++
    octetsBE 2 lif ++ octetsBE 4 ver

/-- A notification is sent (R276, R277). -/
def State.notifySend (s : State) (kind : Nat) (contest : Bool) (k : FwdKey) (lif ver : Nat) : State :=
  (s.inc FWD_NOTIFY_CNT.count).workItem 2 0 k.tenant (notifyBody kind contest k lif ver)

/-- A record of the hold cache is live (R277). -/
def State.holdLive (s : State) (r : HoldRec) : Bool := decide (s.us < r.startUs + 2000)

/-- A record holds a key. -/
def HoldRec.has (r : HoldRec) (k : FwdKey) : Bool := r.tenant == k.tenant && r.vid == k.vid && r.mac == k.mac

/-- A new or move notification goes through the hold cache (R277). -/
def State.notify (s : State) (kind : Nat) (k : FwdKey) (lif ver : Nat) : State :=
  let live := s.fwd.hold.filter s.holdLive
  match live.find? fun r => r.has k with
  | some r =>
    if r.lif = lif then s.inc FWD_NOTIFY_SUPP_CNT.count
    else
      let upd (x : HoldRec) : HoldRec := if x.has k then { x with lif := lif } else x
      State.notifySend ({ s with fwd := { s.fwd with hold := live.map upd } }.inc FWD_CONTEST_CNT.count) kind true k lif ver
  | none =>
    if 8192 ≤ live.length then (s.inc FWD_NOTIFY_DROP_CNT.count).set1 FWD_EVENT.notify_drop
    else
      State.notifySend { s with fwd := { s.fwd with hold := live ++ [⟨k.tenant, k.vid, k.mac, lif, s.us⟩] } } kind false k lif ver

/-! ## Lookups and floods (R273, R274) -/

/-- The domain entry of a tenant and VID (R274). -/
def State.domain (s : State) (tenant vid : Nat) : Nat :=
  let i := tenant * 4096 + vid
  bitsOf (s.tword (0x1021000000 + 8 * (i / 2))) (32 * (1 - i % 2)) 32

/-- Notifications are raised in a domain (R274, FWD_LEARN_CFG). -/
def State.learns (s : State) (tenant vid : Nat) : Bool :=
  s.on FWD_LEARN_CFG.en && bit1 (s.domain tenant vid) 31 && bit1 (s.domain tenant vid) 30

/-- A hit refreshes an entry: hit, or stamp in time-stamp mode (R273, R283). A hit that a sweeper pass met is cleared by the abort of
the removal (R282). -/
def State.fwdHit (s : State) (i : Nat) : State :=
  if s.fwd.modeInForce then s.fwdSet i 2 16 16 (s.fwdNow)
  else if s.fwd.spent.contains i then s else s.fwdSet i 0 61 1 1

/-- A lookup in the cycle of the removal of an entry sees it and leaves it removed (R284): the source lookup. -/
def State.ghostSource (s : State) (k : FwdKey) (g : FwdGhost) (lif : Nat) : State :=
  if bitsOf g.w1.toNat 14 14 ≠ lif ∧ s.learns k.tenant k.vid then s.notify 1 k lif (bitsOf g.w2.toNat 32 32) else s

/-- The source lookup (R273). -/
def State.fwdSource (s : State) (k : FwdKey) (lif : Nat) : State :=
  if bit1 k.mac 40 then s.inc FWD_BAD_SRC_CNT.count
  else
    let hit := s.fwdLook k
    let ghost := s.ghostOf k
    let s := s.fwdScrub k
    match hit, ghost with
    | none, some g => s.ghostSource k g lif
    | none, none => if s.learns k.tenant k.vid then s.notify 0 k lif 0 else s
    | some i, _ =>
      let s1 := (s.fwdHit i).fwdSet i 1 12 2 0
      if (s.fwdData i).2.2 = lif then s1
      else if bit1 (s.fwdWord i 0) 62 then (s1.inc FWD_STATIC_MOVE_CNT.count).set1 FWD_EVENT.static_move
      else if s.learns k.tenant k.vid then s1.notify 1 k lif (s.fwdVer i)
      else s1

/-- The valid members of a flood group that take a copy (R274): flow and ptidx. -/
def State.floodMembers (s : State) (g lif : Nat) : List (Nat × Nat) :=
  ((List.range 64).filterMap fun m =>
    let w := s.tword (0x1022000000 + 512 * g + 8 * m)
    let l := bitsOf w 14 14
    if bit1 w 63 ∧ (l = 0x3FFF ∨ l ≠ lif) then some (bitsOf w 40 16, bitsOf w 28 12) else none)

/-- The members that take a copy of a frame of a tenant, VID and LIF; none for an invalid domain entry (R274). -/
def State.flood (s : State) (tenant vid lif : Nat) : List (Nat × Nat) :=
  let d := s.domain tenant vid
  if bit1 d 31 then s.floodMembers (bitsOf d 0 10) lif else []

/-- The destination lookup (R273): the flow contexts and port-table indexes of the frame, and whether it was flooded. -/
def State.fwdDest (s : State) (k : FwdKey) (lif : Nat) : State × List (Nat × Nat) × Bool :=
  let group := bit1 k.mac 40
  let hit := if group then none else s.fwdLook k
  let ghost := if group then none else s.ghostOf k
  let s := if group then s else s.fwdScrub k
  match hit, ghost with
  | none, some g => (s.inc FWD_DST_HIT_CNT.count, [(bitsOf g.w1.toNat 40 16, bitsOf g.w1.toNat 28 12)], false)
  | some i, _ =>
    let n := s.fwdWord i 3
    let s1 := (s.inc FWD_DST_HIT_CNT.count).putWord (fwdAddr i 3) (min (n + 1) (2 ^ 64 - 1))
    let s2 := if s.on FWD_LEARN_CFG.dst_refresh then s1.fwdHit i else s1
    (s2, [((s.fwdData i).1, (s.fwdData i).2.1)], false)
  | none, none =>
    let c := s.flood k.tenant k.vid lif
    let s1 := s.inc FWD_DST_MISS_CNT.count
    (if c.isEmpty then s1.inc FWD_FLOOD_DROP_CNT.count else s1, c, true)

/-! ## Compare-and-set commands (R279, R280) -/

/-- The key in a command window. -/
def State.winKey (s : State) (r : Nat) : FwdKey :=
  ⟨s.get (FWD_CMD.tenant r), s.get (FWD_CMD_KEY1.vid r),
    s.get (FWD_CMD_KEY1.mac_hi r) * 2 ^ 32 + s.get (FWD_CMD_KEY0.mac_lo r)⟩

/-- The result of a command is posted, with the entry's values where there is an entry (R279). -/
def State.fwdResult (s : State) (r res : Nat) (i : Option Nat) : State :=
  let s1 := s.put (FWD_CMD.result r) res
  match i with
  | none => s1
  | some i =>
    let d := s.fwdData i
    ((((s1.put (FWD_CMD_RVER.version r) (s.fwdVer i)).put (FWD_CMD_RDATA.flow r) d.1).put (FWD_CMD_RDATA.ptidx r) d.2.1).put
      (FWD_CMD_RLIF.index r) i).put (FWD_CMD_RLIF.lif r) d.2.2

/-- The next version (R279). -/
def State.nextVersion (s : State) : Nat :=
  let v := (s.get FWD_VERSION.version + 1) % 2 ^ 32
  if v = 0 then 1 else v

/-- The entry takes the next version (R279). -/
def State.newVersion (s : State) (i : Nat) : State :=
  (s.fwdSet i 2 32 32 s.nextVersion).put FWD_VERSION.version s.nextVersion

/-- flow, ptidx and lif of an entry are replaced. -/
def State.fwdReplace (s : State) (i flow ptidx lif : Nat) : State :=
  let w := withBits (withBits (withBits (s.fwdWord i 1) 40 16 flow) 28 12 ptidx) 14 14 lif
  s.putWord (fwdAddr i 1) w

/-- An insert or update is refused (R279). -/
def State.fwdRefused (s : State) (r : Nat) : Bool :=
  !s.on FWD_CTRL.en || !s.flowAllowed (s.get (FWD_CMD.tenant r)) (s.get (FWD_CMD_DATA.flow r))

/-- The lowest free way of a key's bucket. -/
def State.freeWay (s : State) (k : FwdKey) : Option Nat :=
  let b := k.bucket
  if s.bankOut b.1 then none else ((List.range 4).map (b.2 + ·)).find? fun i => !s.fwdValid i

/-- Insert (R279). -/
def State.fwdInsert (s : State) (r : Nat) : State :=
  let k := s.winKey r
  if s.fwdRefused r then s.fwdResult r 7 (s.fwdFind k)
  else match s.fwdFind k with
    | some i => s.fwdResult r 2 (some i)
    | none => match s.freeWay k with
      | none => ((s.inc FWD_NO_SPACE_CNT.count).set1 FWD_EVENT.no_space).fwdResult r 5 none
      | some i =>
        let w0 := 1 <<< 63 ||| (if s.on (FWD_CMD.static r) then 1 <<< 62 else 0) ||| 1 <<< 61 ||| k.vid <<< 48 ||| k.mac
        let w1 := k.tenant <<< 58 ||| s.get (FWD_CMD_DATA.flow r) <<< 40 ||| s.get (FWD_CMD_DATA.ptidx r) <<< 28 |||
          s.get (FWD_CMD_LIF.lif r) <<< 14
        let s1 := ((s.putWord (fwdAddr i 0) w0).putWord (fwdAddr i 1) w1).putWord (fwdAddr i 2) (s.fwdNow <<< 16)
        ((s1.putWord (fwdAddr i 3) 0).newVersion i).fwdResult r 1 (some i)

/-- The entry that an update, delete or lock acts on, or the failure (R279). -/
def State.fwdTarget (s : State) (r : Nat) : Nat × Option Nat :=
  match s.fwdFind (s.winKey r) with
  | none => (3, none)
  | some i =>
    if s.fwdVer i ≠ s.get (FWD_CMD_EXP.expected r) then (4, some i)
    else if bit1 (s.fwdWord i 0) 60 ∧ bitsOf (s.fwdWord i 2) 12 4 ≠ r then (6, some i)
    else (1, some i)

/-- Update (R279). -/
def State.fwdUpdate (s : State) (r : Nat) : State :=
  if s.fwdRefused r then s.fwdResult r 7 (s.fwdFind (s.winKey r))
  else match s.fwdTarget r with
    | (1, some i) =>
      let s1 := s.fwdReplace i (s.get (FWD_CMD_DATA.flow r)) (s.get (FWD_CMD_DATA.ptidx r)) (s.get (FWD_CMD_LIF.lif r))
      let s2 := ((s1.fwdSet i 1 12 2 0).fwdSet i 0 61 1 1).fwdSet i 0 62 1 (s.get (FWD_CMD.static r))
      (s2.newVersion i).fwdResult r 1 (some i)
    | (res, i) => s.fwdResult r res i

/-- Delete (R279). -/
def State.fwdDelete (s : State) (r : Nat) : State :=
  match s.fwdTarget r with
  | (1, some i) => (s.fwdResult r 1 (some i)).fwdDrop i
  | (res, i) => s.fwdResult r res i

/-- Read (R279). -/
def State.fwdReadCmd (s : State) (r : Nat) : State :=
  match s.fwdFind (s.winKey r) with
  | some i => s.fwdResult r 1 (some i)
  | none => s.fwdResult r 3 none

/-- Lock (R279, R280). -/
def State.fwdLock (s : State) (r : Nat) : State :=
  match s.fwdTarget r with
  | (1, some i) => ((s.fwdSet i 0 60 1 1).fwdSet i 2 12 4 r).fwdResult r 1 (some i)
  | (res, i) => s.fwdResult r res i

/-- Unlock (R279). -/
def State.fwdUnlock (s : State) (r : Nat) : State :=
  match s.fwdFind (s.winKey r) with
  | none => s.fwdResult r 3 none
  | some i =>
    if bit1 (s.fwdWord i 0) 60 ∧ bitsOf (s.fwdWord i 2) 12 4 = r then (s.fwdSet i 0 60 1 0).fwdResult r 1 (some i)
    else s.fwdResult r 6 (some i)

/-- A word is written to FWD_CMD_r: its RW fields (R279). -/
def State.fwdCmdWrite (s : State) (r op d : Nat) : State :=
  ((s.put (FWD_CMD.op r) op).put (FWD_CMD.static r) ((FWD_CMD.static r).of d)).put (FWD_CMD.tenant r) ((FWD_CMD.tenant r).of d)

/-- A go bit is written with an op: the command is carried out (R279). An op that the table does not define has no effect of its
own and the result is REFUSED (DESIGN CHOICE, log 24). -/
def State.fwdGo (s : State) (r op d : Nat) : State :=
  let s0 := s.fwdCmdWrite r op d
  let s1 := s0.fwdScrub (s0.winKey r)
  match op with
  | 1 => s1.fwdInsert r
  | 2 => s1.fwdUpdate r
  | 3 => s1.fwdDelete r
  | 4 => s1.fwdReadCmd r
  | 5 => s1.fwdLock r
  | 6 => s1.fwdUnlock r
  | _ => s1.fwdResult r 7 none

/-- A command that a SHELF reset catches is taken from its window and still runs when the reset takes effect (R288); it has no effect
on the table (DESIGN CHOICE, log 149). -/
def State.fwdHeldGo (s : State) (r op d : Nat) : State :=
  let s1 := s.fwdCmdWrite r op d
  let k := s1.winKey r
  { s1 with fwd := { s1.fwd with
    caught := s1.fwd.caught.filter (· != r), running := s1.fwd.running ++ [(r, k.tenant, k.vid, k.mac)] } }

/-- The commands running when a SHELF reset takes effect end with RETRY (R288). -/
def State.fwdRetry (s : State) : State :=
  s.fwd.running.foldl (fun s c => s.fwdResult c.1 8 (s.fwdFind ⟨c.2.1, c.2.2.1, c.2.2.2⟩))
    { s with fwd := { s.fwd with running := [], caught := [] } }

/-- A command from the window of a requester; SHELF must answer (R38). -/
def State.fwdCommand (s : State) (r : Requester) (op : Nat) (d : BitVec 32) : State :=
  if !s.answers [17] then s
  else if s.fwd.caught.contains r.val then (s.ungate 17).fwdHeldGo r.val op d.toNat
  else (s.ungate 17).fwdGo r.val op d.toNat

/-- A SHELF reset takes effect while the next command of a window runs (R288; an input, log 149). -/
def State.fwdCatch (s : State) (r : Nat) : State := { s with fwd := { s.fwd with caught := r :: s.fwd.caught.filter (· != r) } }

/-- FWD_INSERT (R279): op 0x1; d gives static and tenant. -/
def execFwdInsert (r : Requester) (d : BitVec 32) (s : State) : Host.Outcome State Fault Refusal := (s.fwdCommand r 1 d).done

/-- FWD_UPDATE (R279): op 0x2. -/
def execFwdUpdate (r : Requester) (d : BitVec 32) (s : State) : Host.Outcome State Fault Refusal := (s.fwdCommand r 2 d).done

/-- FWD_DELETE (R279): op 0x3. -/
def execFwdDelete (r : Requester) (d : BitVec 32) (s : State) : Host.Outcome State Fault Refusal := (s.fwdCommand r 3 d).done

/-- FWD_READ (R279): op 0x4. -/
def execFwdRead (r : Requester) (d : BitVec 32) (s : State) : Host.Outcome State Fault Refusal := (s.fwdCommand r 4 d).done

/-- FWD_LOCK (R279, R280): op 0x5. -/
def execFwdLock (r : Requester) (d : BitVec 32) (s : State) : Host.Outcome State Fault Refusal := (s.fwdCommand r 5 d).done

/-- FWD_UNLOCK (R279): op 0x6. -/
def execFwdUnlock (r : Requester) (d : BitVec 32) (s : State) : Host.Outcome State Fault Refusal := (s.fwdCommand r 6 d).done

/-- FWD_LOCK_TIMEOUT (R280): the lock of an entry expires. -/
def execFwdLockTimeout (idx : BitVec 18) (s : State) : Host.Outcome State Fault Refusal :=
  if s.fwdValid idx.toNat ∧ bit1 (s.fwdWord idx.toNat 0) 60 then
    (((s.fwdSet idx.toNat 0 60 1 0).inc FWD_LOCK_TO_CNT.count).set1 FWD_EVENT.lock_timeout).done
  else s.done

/-! ## The window (R272, R281) -/

/-- The address lies in the forwarding table, the domain table or the flood groups. -/
def fwdWindow (a : Nat) : Bool :=
  (decide (0x1020000000 ≤ a) && decide (a < 0x1020800000)) || (decide (0x1021000000 ≤ a) && decide (a < 0x1021100000)) ||
    (decide (0x1022000000 ≤ a) && decide (a < 0x1022080000))

/-- A window write while FWD runs takes effect only on word 1 of an entry that the writer has locked (R281). -/
def State.fwdWinLocked (s : State) (r a d : Nat) : State :=
  let i := (a - 0x1020000000) / 32
  let t := (s.fwdKey i).tenant
  if a < 0x1020800000 ∧ a % 32 = 8 ∧ s.fwdValid i ∧ bit1 (s.fwdWord i 0) 60 ∧ bitsOf (s.fwdWord i 2) 12 4 = r ∧
      s.flowAllowed t (bitsOf d 40 16) then
    (s.fwdReplace i (bitsOf d 40 16) (bitsOf d 28 12) (bitsOf d 14 14)).newVersion i
  else s.set1 FWD_EVENT.win_refused

/-- A 64-bit write of the window (R272, R281). -/
def State.fwdWinWrite (s : State) (r a d : Nat) : State :=
  if !fwdWindow a ∨ a % 8 ≠ 0 then s
  else if s.on FWD_CTRL.en then s.fwdWinLocked r a d
  else s.putWord a d

/-- FWD_WINDOW_WRITE (R272, R281). -/
def execFwdWindowWrite (r : Requester) (a : BitVec 40) (d : BitVec 64) (s : State) : Host.Outcome State Fault Refusal :=
  if s.answers [17] then ((s.ungate 17).fwdWinWrite r.val a.toNat d.toNat).done else s.done

/-! ## The sweeper (R282, R283) -/

/-- An entry is removed by the sweeper (R282), with a notification where its domain learns (R274); `seen` says that a lookup of the
cycle of the removal still sees it (R284). -/
def State.fwdAged (s : State) (i : Nat) (seen : Bool) : State :=
  let k := s.fwdKey i
  let w (n : Nat) : BitVec 64 := BitVec.ofNat 64 (s.fwdWord i n)
  let s0 : State := if seen then { s with fwd := { s.fwd with ghosts := ⟨w 0, w 1, w 2⟩ :: s.fwd.ghosts } } else s
  let s1 := (s0.fwdDrop i).inc FWD_AGED_CNT.count
  if s.on FWD_AGE_CFG.notify ∧ s.learns k.tenant k.vid then s1.notifySend 2 false k (s.fwdData i).2.2 (s.fwdVer i) else s1

/-- The sweeper visits one entry in hit-bit mode (R282); `raced` says that a hit has been set since the pass read the entry, `seen` that
a lookup falls in the cycle of the removal. -/
def State.sweepHit (s : State) (i : Nat) (raced seen : Bool) : State :=
  if bit1 (s.fwdWord i 0) 61 then (s.fwdSet i 0 61 1 0).fwdSet i 1 12 2 0
  else
    let idle := min 2 (bitsOf (s.fwdWord i 1) 12 2 + 1)
    if idle < 2 then s.fwdSet i 1 12 2 idle
    else if raced then
      State.inc { s.fwdSet i 1 12 2 0 with fwd := { s.fwd with spent := i :: s.fwd.spent } } FWD_AGE_ABORT_CNT.count
    else if bit1 (s.fwdWord i 0) 60 then s.fwdSet i 1 12 2 2
    else s.fwdAged i seen

/-- The sweeper visits one entry in time-stamp mode (R283). -/
def State.sweepStamp (s : State) (i : Nat) (raced seen : Bool) : State :=
  let age := (s.fwdNow + 65536 - bitsOf (s.fwdWord i 2) 16 16) % 65536
  if age < max 1 (s.get FWD_AGE_CFG.age_s) then s
  else if raced then (s.fwdSet i 2 16 16 (s.fwdNow)).inc FWD_AGE_ABORT_CNT.count
  else if bit1 (s.fwdWord i 0) 60 then s.fwdSet i 1 12 2 2
  else s.fwdAged i seen

/-- An entry is treated as freshly hit, as the mode has changed (R283). -/
def State.sweepFresh (s : State) (i : Nat) : State :=
  ((s.fwdSet i 0 61 1 1).fwdSet i 1 12 2 0).fwdSet i 2 16 16 (s.fwdNow)

/-- One pass over the valid entries that are not static (R282, R283). -/
def State.sweep (s : State) (raced seen : List Nat) : State :=
  let es := s.fwdEntries.filter fun i => !bit1 (s.fwdWord i 0) 62
  let m := s.on FWD_AGE_CFG.mode
  if m ≠ s.fwd.modeInForce then
    es.foldl State.sweepFresh { s with fwd := { s.fwd with modeInForce := m } }
  else es.foldl (fun s i =>
    if m then s.sweepStamp i (raced.contains i) (seen.contains i) else s.sweepHit i (raced.contains i) (seen.contains i)) s

/-- A pass is made, if the sweeper runs passes and SHELF is there. -/
def State.sweepIf (s : State) (x : SweepRace) : State :=
  if s.on FWD_AGE_CFG.en ∧ s.up 17 then s.sweep (x.raced.map (·.toNat)) (x.seen.map (·.toNat)) else s

/-- FWD_SWEEP_PERIOD (R282): period_s has passed; `raced` lists the entries hit since the pass read them, `seen` those that the lookups
of the PRISM_PASS_END that comes next read in the cycle of their removal (R284, log 150). -/
def execFwdSweepPeriod (x : SweepRace) (s : State) : Host.Outcome State Fault Refusal :=
  (s.sweepIf x).done

/-- FWD_SWEEP_NOW (R282): a write of 1 to FWD_CTRL.sweep_now. -/
def execFwdSweepNow (x : SweepRace) (s : State) : Host.Outcome State Fault Refusal :=
  if s.answers [17] then ((s.ungate 17).sweepIf x).done else s.done

/-! ## The spare bank (R286) -/

/-- The entries of logical bank k that read as uncorrectable are written to the spare as invalid and counted (R286). -/
def State.bankScrub (s : State) (k : Nat) : State :=
  let lo := 0x1020000000 + 32 * 32768 * k
  let hi := lo + 32 * 32768
  let met (m : PoisonMark) : List Nat :=
    let b := (max m.lo lo - lo) / 32
    if m.bad then (List.range ((min m.hi hi - lo + 31) / 32 - b)).map fun j => 32768 * k + b + j else []
  let bad := ((s.poison.flatMap met).eraseDups).filter s.fwdPoison
  bad.foldl (fun s i => (s.fwdDrop i).inc FWD_BANK_LOST_CNT.count) s

/-- No word of logical bank k can be read (R286): poison holds its first word and every word where a mark of the model begins or
ends. -/
def State.bankUnreadable (s : State) (k : Nat) : Bool :=
  let lo := 0x1020000000 + 32 * 32768 * k
  let hi := lo + 32 * 32768
  let edges := lo :: s.poison.flatMap fun m => [m.lo, m.hi]
  (edges.filter fun a => decide (lo ≤ a) && decide (a < hi)).all fun a => s.poisoned (a - a % 8)

/-- Logical bank k is empty (R286). -/
def State.bankEmpty (s : State) (k : Nat) : State :=
  let lo := 0x1020000000 + 32 * 32768 * k
  let hi := lo + 32 * 32768
  { s with
    mem := s.mem.filter fun e => !(decide (lo ≤ e.1) && decide (e.1 < hi))
    poison := ⟨lo, hi, false⟩ :: s.poison }

/-- FWD_BANK_COPY_END (R286): the spare takes the place of the bank copied. -/
def execFwdBankCopyEnd (s : State) : Host.Outcome State Fault Refusal :=
  match s.fwd.copy with
  | none => s.done
  | some (k, p) =>
    let s1 := if s.fwd.copyLost then (s.bankEmpty k).incBy FWD_BANK_LOST_CNT.count 32768 else s.bankScrub k
    let s2 := { s1 with fwd := { s1.fwd with
      copy := none, copyLost := false
      retiredBanks := s1.fwd.retiredBanks ++ [s1.get (FWD_BANK_MAP.phys k)] } }
    (((s2.put (FWD_BANK_MAP.phys k) p).set1 FWD_EVENT.swap_done).put FWD_STATUS.swap_active 0).done

end Sys2Proof.Machine
end

