-- ==== Sys2Proof/Machine/PortOps.lean ====
section
/-! DEFINITION. Whether a frame can go out where its flow context leads: the conditions of R306 that depend on the egress. -/

namespace Sys2Proof.Machine

/-- The device holds the interlock (R193), a release that waits for its tick included (R195). -/
def State.holdsLock (s : State) : Bool := s.get MGT_PROT_STATUS.state == 2 || s.prot.releaseAtTick

/-- A tree is protected (R193). -/
def State.isProt (s : State) (t : Nat) : Bool := s.on MGT_PROT_CFG.en && bit1 (s.get MGT_PROT_TREES.trees) t

/-- The interlock keeps a tree dark: the tree is protected and the device does not hold (R193, R196). -/
def State.protBlocked (s : State) (t : Nat) : Bool :=
  s.isProt t && !s.holdsLock

/-- TE_STATUS.laser_permit: the interlock does not force TXDIS of a tree (R99). A tree that is Off reads 0, the field's reset value
(DEDUCED, log 140). -/
def State.laserPermit (s : State) (t : Nat) : Bool := s.treeState t != 0 && !s.protBlocked t

/-- A protected tree sends nothing yet after a take: its Laser step of the switch-over runs, or its Sync step waits for a tick (R198). -/
def State.protQuiet (s : State) (t : Nat) : Bool := s.isProt t && (s.prot.laser.contains t || s.prot.sync.contains t)

/-- A flow context counts as privileged towards the uplinks (R203). -/
def State.replFlow (s : State) (f : Nat) : Bool := s.privFlow f && s.on UL_FRER_CFG.gen_en

/-- A downstream port-table entry is valid (R84). -/
def State.portEntryOk (s : State) (t i : Nat) : Bool :=
  !s.poisoned (0x1000000000 + t * 0x8000 + 8 * i) && bit1 (s.portEntry t i) 63 && bitsOf (s.portEntry t i) 57 2 != 3

/-- The cause for which a frame of a tenant to a flow context is refused, 0 for none, apart from the flow check of R254 (R306).
A Failed slice refuses with cause 0x0A (R502). Where several hold, the order is the model's (DEDUCED, log 27). -/
def State.egressCause (s : State) (p : FlowPart) (f ptidx : Nat) : Nat :=
  if !s.jnlUp || !s.up 17 then 0xB
  else if s.isl (13 + p.slice) = 3 then 0xA
  else if p.kind = 0 then
    let t := p.target % 32
    if s.treeState t ≤ 1 ∨ s.treeState t = 5 ∨ s.protBlocked t then 5
    else if !s.portEntryOk t ptidx then 6
    else 0
  else if p.kind = 1 ∧ !s.replFlow f ∧ s.portDown (p.target % 4) then 0xC
  else 0

/-- A frame of a tenant to a flow context of the FLOW Drawer: the cause it is refused with, 0 for none (R254, R306). -/
def State.flowCause (s : State) (tenant f ptidx : Nat) : Nat :=
  match s.flowPart f with
  | none => 4
  | some p => if s.flowAllowed tenant f then s.egressCause p f ptidx else 4

/-- A tree is Lit or Active. -/
def State.isLit (s : State) (t : Nat) : Bool := s.treeState t == 2 || s.treeState t == 3

/-- A tree leaves Doze for Lit; its retention banks are to be checked (R103). -/
def State.leaveDoze (s : State) (t : Nat) : State :=
  if s.treeState t = 4 then (s.put (TE_STATUS.state t) 2).modTree t fun x => { x with dozeDisc := false, bankCheck := true } else s

end Sys2Proof.Machine
end

