-- ==== Sys2Proof/Machine/Calib.lean ====
section
/-! DEFINITION. Live burst calibration (R210 to R235): receive profiles, measurement, load bands, staleness and requests. -/

namespace Sys2Proof.Machine

/-! ## Receive profiles (R212, R213) -/

/-- The receive profile of a terminal. -/
def State.rxProf (s : State) (t onu : Nat) : RxProfile := mgetD (termKey t onu) {} s.rx

/-- The state with a receive profile replaced. -/
def State.setRx (s : State) (t onu : Nat) (x : RxProfile) : State := { s with rx := mset (termKey t onu) x s.rx }

/-- A word of a receive profile (R212). -/
def RxProfile.wordAt (x : RxProfile) (w : Nat) : Nat :=
  let st := match x.state with | .uncalibrated => 0 | .calibrated => 1 | .stale => 2 | .unwritten => 3
  if w = 0 then
    st <<< 62 ||| x.prof.toNat <<< 60 ||| x.staleCause.toNat <<< 57 ||| (if x.seedOk then 1 else 0) <<< 56 |||
      x.cdrSeed.toNat <<< 49 ||| x.thresh.toNat <<< 41 ||| x.dfe1.toNat <<< 35 ||| x.ffePost.toNat <<< 29 |||
      x.ffePre.toNat <<< 23 ||| x.ctle.toNat <<< 19 ||| (x.needOct % 2048) <<< 8 ||| x.marginQ.toNat
  else
    x.rxStamp.toNat <<< 55 ||| x.termStamp.toNat <<< 47 ||| x.bandStamp.toNat <<< 45 ||| x.sfcStamp.toNat <<< 29 |||
      (min x.lockRun 255) <<< 21 ||| (x.lateRun % 8) <<< 18 ||| min x.refined 262143

/-- A terminal is in Operation (R114). -/
def State.operating (s : State) (t onu : Nat) : Bool := decide ((s.term t onu).state = .operation)

/-- Measurement and requests run on a tree (R226). -/
def State.calOn (s : State) (t : Nat) : Bool := s.on (BC_TREE_CFG.cal_en t)

/-- The burst profile that a receive profile gives a terminal's bursts (R210, R214, R226). -/
def State.profileOf (s : State) (t : Nat) (x : RxProfile) : Nat :=
  if s.up 12 ∧ s.calOn t ∧ x.state = .calibrated then x.prof.toNat else 3

/-- The burst profile given to a terminal's bursts. -/
def State.giveProfile (s : State) (t onu : Nat) : Nat := s.profileOf t (s.rxProf t onu)

/-- The receive profile as the snapshot of a build at tick k takes it: a profile that the evaluation at that tick made Stale is still
Calibrated in it (R221, R230). -/
def RxProfile.asOf (x : RxProfile) (k : Nat) : RxProfile :=
  if x.state = .stale ∧ x.staleTick = some k then { x with state := .calibrated } else x

/-- The receive profile of a terminal in the snapshot of a build that begins now. -/
def State.rxSnap (s : State) (t onu : Nat) : RxProfile := (s.rxProf t onu).asOf s.ge.k

/-- The burst profile of a terminal in the snapshot of a build (R214). -/
def State.snapProfile (s : State) (t onu : Nat) : Nat := s.profileOf t (s.rxSnap t onu)

/-- The fields of BC_DEF_n. -/
def bcDefFields (t : Nat) : List (Fld × Acc) :=
  [(BC_DEF.thresh t, .rw), (BC_DEF.dfe1 t, .rw), (BC_DEF.ffe_post t, .rw), (BC_DEF.ffe_pre t, .rw), (BC_DEF.ctle t, .rw)]

/-- The lane settings that a value of each field of BC_DEF_n stands for, with no CDR seed (R213). -/
def defSet (t : Nat) (v : Fld → Nat) : LaneSet :=
  ⟨BitVec.ofNat 4 (v (BC_DEF.ctle t)), BitVec.ofNat 6 (v (BC_DEF.ffe_pre t)), BitVec.ofNat 6 (v (BC_DEF.ffe_post t)),
    BitVec.ofNat 6 (v (BC_DEF.dfe1 t)), BitVec.ofNat 8 (v (BC_DEF.thresh t)), none⟩

/-- The chiplet's own copy of BC_DEF_n (R214). -/
def State.copyLane (s : State) (t : Nat) : LaneSet :=
  defSet t fun f => match mget t s.bc.defCopy with | some w => f.of w.toNat | none => f.rst

/-- The settings of a receive profile itself. -/
def RxProfile.lane (x : RxProfile) (seed : Option (BitVec 7)) : LaneSet := ⟨x.ctle, x.ffePre, x.ffePost, x.dfe1, x.thresh, seed⟩

/-- The settings that a receive profile has the bursts of its terminal received with (R213). -/
def State.laneOf (s : State) (t : Nat) (x : RxProfile) : LaneSet :=
  match x.state with
  | .uncalibrated => defSet t s.get
  | .unwritten => defSet t s.get
  | .stale => x.lane none
  | .calibrated => x.lane (if x.seedOk then some x.cdrSeed else none)

/-- The lane settings of a terminal in the snapshot of a build; with CAL not in Run the chiplet applies its copy of BC_DEF_n (R214). -/
def State.snapLane (s : State) (t onu : Nat) : LaneSet := if s.up 12 then s.laneOf t (s.rxSnap t onu) else s.copyLane t

/-- pre_oct of a burst profile, its two low bits ignored (R211). -/
def State.preOct (s : State) (t p : Nat) : Nat := s.get (BC_PROF.pre_oct t p) / 4 * 4

/-- Octets of the delimiter of a burst profile. -/
def State.delimOct (s : State) (t p : Nat) : Nat := if s.on (BC_PROF.delim8 t p) then 8 else 4

/-! ## Requests (R222, R224) -/

/-- A request of a terminal is queued. -/
def State.hasReq (s : State) (t onu : Nat) : Bool := s.bc.reqs.any fun r => r.tree == t && r.onu == onu

/-- A calibration burst of a terminal is placed in a map that still stands, or is expected. -/
def State.calPlaced (s : State) (t onu : Nat) : Bool :=
  (s.ge.maps.any fun m => m.tree == t &&
    decide (m.stage = .building ∨ m.stage = .built ∨ m.stage = .honoured ∨ m.stage = .sealed) &&
    m.slots.any fun x => x.calibration && x.onu == onu) ||
  (s.tree t).expected.any fun b => b.calibration && b.onu == onu

/-- A terminal qualifies for a request (R222). -/
def State.wantsCal (s : State) (t onu : Nat) : Bool :=
  s.operating t onu && s.calOn t && decide ((s.rxProf t onu).state ≠ .calibrated)

/-- A request is queued and counted (R222). -/
def State.addReq (s : State) (t onu : Nat) : State :=
  if s.hasReq t onu then s
  else ({ s with bc := { s.bc with reqs := s.bc.reqs ++ [CalReq.mk t onu s.ge.k false] } }).inc (BC_CAL_REQ_CNT.count t)

/-- The request of a terminal that has come to qualify is raised (R222). -/
def State.raiseFor (s : State) (t onu : Nat) : State := if s.up 12 && s.wantsCal t onu then s.addReq t onu else s

/-- The requests of all terminals that qualify are raised, in ONU-ID order (R222, R228). -/
def State.raiseReqs (s : State) : State := s.terms.foldl (fun s e => s.raiseFor (e.1 / 256) (e.1 % 256)) s

/-- The requests of the terminals of a tree that qualify are raised. -/
def State.raiseTree (s : State) (t : Nat) : State :=
  s.terms.foldl (fun s e => if e.1 / 256 = t then s.raiseFor t (e.1 % 256) else s) s

/-- At a tick, a terminal that qualifies and has neither a request nor a calibration burst on its way is given a request (R222). -/
def State.tickReqs (s : State) : State :=
  s.terms.foldl (fun s e => if s.calPlaced (e.1 / 256) (e.1 % 256) then s else s.raiseFor (e.1 / 256) (e.1 % 256)) s

/-- A request is withdrawn (R222). -/
def State.dropReq (s : State) (t onu : Nat) : State :=
  { s with bc := { s.bc with reqs := s.bc.reqs.filter fun r => !(r.tree == t && r.onu == onu) } }

/-- A missed calibration burst returns the request it served to the tail of the queue (R224); while CAL is not in Run it is lost (R228). -/
def State.returnReq (s : State) (r : CalReq) : State :=
  if s.hasReq r.tree r.onu ∨ !s.wantsCal r.tree r.onu ∨ !s.up 12 then s
  else { s with bc := { s.bc with reqs := s.bc.reqs ++ [r] } }

/-- Requests that no map has placed whose build began within 8 tree frames of their start are counted late, once (R222). `n` is 8 after
a build, and 9 at a tick, whose build is still to begin. -/
def State.lateReqs (s : State) (n : Nat) : State :=
  let due (r : CalReq) : Bool := !r.late && decide (r.since + n ≤ s.ge.k)
  let l := s.bc.reqs.filter due
  let s1 := { s with bc := { s.bc with reqs := s.bc.reqs.map fun r => if due r then { r with late := true } else r } }
  l.foldl (fun s r => (s.inc (BC_CAL_LATE_CNT.count r.tree)).set1 BC_EVENT.cal_late) s1

/-! ## Staleness (R219 to R221) -/

/-- A profile enters Stale, which is counted, and its terminal's request is raised (R220, R222). -/
def State.enterStale (s : State) (t onu cause : Nat) (tick : Option Nat) : State :=
  ((s.setRx t onu { s.rxProf t onu with
    state := .stale, staleCause := BitVec.ofNat 3 cause, staleUs := s.us, staleTick := tick }).inc (BC_STALE_CNT.count t)).raiseFor t onu

/-- The cause that a Stale profile shows after a further one: the lowest of those of one cycle, which the model takes to be one
microsecond (DESIGN CHOICE, log 142); later, cause 6 or 7 takes the place of the one before (R225, R233). -/
def RxProfile.causeAfter (x : RxProfile) (us cause : Nat) : Nat :=
  if x.staleUs = us then min x.staleCause.toNat cause else if cause = 6 ∨ cause = 7 then cause else x.staleCause.toNat

/-- A cause to become Stale arises for a profile outside the evaluation at a tick (R220): a Calibrated one becomes Stale, and a Stale one
shows what causeAfter says. -/
def State.makeStale (s : State) (t onu cause : Nat) : State :=
  let x := s.rxProf t onu
  if x.state = .calibrated then s.enterStale t onu cause none
  else if x.state = .stale then
    s.setRx t onu { x with
      staleCause := BitVec.ofNat 3 (x.causeAfter s.us cause), staleTick := none
      staleUs := if cause = 6 ∨ cause = 7 then s.us else x.staleUs }
  else s

/-- The context of a terminal has been re-bound from Held: its profile is Stale with cause 0x7 whatever it was (R225). -/
def State.rebindStale (s : State) (t onu : Nat) : State :=
  if (s.rxProf t onu).state = .stale then s.makeStale t onu 7 else s.enterStale t onu 7 none

/-- A profile becomes Uncalibrated (R225, R226, R233). -/
def State.uncalibrate (s : State) (t onu : Nat) : State :=
  { s with rx := mdel (termKey t onu) s.rx }

/-- The latest temperature report of a terminal is forgotten with its binding (R219, R225). -/
def State.dropTemp (s : State) (t onu : Nat) : State :=
  { s with bc := { s.bc with termTemp := mdel (termKey t onu) s.bc.termTemp } }

/-- The lane temperature of a tree in 0.5 °C. -/
def State.laneTemp (s : State) (t : Nat) : Int := signedOf (s.get (BC_TREE_STAT.rx_temp t)) 9

/-- The cause for which a Calibrated profile becomes Stale at a tick, 0 for none (R220). -/
def State.staleWhy (s : State) (t onu : Nat) (x : RxProfile) : Nat :=
  if 16 < (s.laneTemp t - x.rxStamp.toInt).natAbs then 1
  else if (match mget (termKey t onu) s.bc.termTemp with
      | some v => x.termStamp != 0x80 && decide (8 < (v.toInt - x.termStamp.toInt).natAbs)
      | none => false) then 2
  else if s.get (BC_TREE_STAT.band t) ≠ x.bandStamp.toNat then 3
  else 0

/-- The evaluation of R220 at a tick for the profiles of every tree. -/
def State.evalStale (s : State) : State :=
  if !s.up 12 then s
  else s.rx.foldl (fun s e =>
    let t := e.1 / 256
    let onu := e.1 % 256
    match s.staleWhy t onu e.2 with
    | 0 => s
    | c =>
      if e.2.state = .calibrated then s.enterStale t onu c (some s.ge.k)
      else if e.2.state = .stale ∧ e.2.staleUs = s.us then s.makeStale t onu c
      else s) s

/-- Every profile of a tree meets a cause (R220). -/
def State.staleTree (s : State) (t cause : Nat) : State :=
  s.rx.foldl (fun s e => if e.1 / 256 = t then s.makeStale t (e.1 % 256) cause else s) s

/-! ## Load bands (R218) -/

/-- The octets of an upstream frame of a tree: the upstream line rate over 125 µs (R150). -/
def State.frameOctets125 (s : State) (t : Nat) : Nat :=
  if s.isXgs t then 155520 else match (s.treeEntry t).usRate with | 0 => 777600 | 1 => 388800 | _ => 194400

/-- The number of maps of the load window. -/
def State.loadWin (s : State) : Nat :=
  let n := s.get BC_CFG.load_win_sh
  2 ^ (if 4 ≤ n ∧ n ≤ 8 then n else 6)

/-- The load L of a tree as a fraction: octets granted to data over frame octets (R218). -/
def State.load (s : State) (t : Nat) : Nat × Nat :=
  let l := (mgetD t [] s.bc.grants).take s.loadWin
  (l.foldl (· + ·) 0, l.length * s.frameOctets125 t)

/-- The band in which a load lies (R218). -/
def bandOf (num den : Nat) : Nat :=
  if num * 100 < 25 * den ∨ den = 0 then 0
  else if num * 100 < 60 * den then 1
  else if num * 100 ≤ 85 * den then 2
  else 3

/-- The lower boundary of a band in percent. -/
def bandFloor (b : Nat) : Nat := match b with | 0 => 0 | 1 => 25 | 2 => 60 | _ => 85

/-- The load and the band in force of a tree, once per tree frame (R218). -/
def State.bandStep (s : State) (t : Nat) : State :=
  let l := s.load t
  let b := s.get (BC_TREE_STAT.band t)
  let n := bandOf l.1 l.2
  let h := s.get BC_CFG.hyst_pct
  let s1 := s.put (BC_TREE_STAT.load_pct t) (if l.2 = 0 then 0 else min 100 (l.1 * 100 / l.2))
  let moves := if b < n then decide ((bandFloor n + h) * l.2 ≤ l.1 * 100)
    else if n < b then decide (l.1 * 100 + h * l.2 ≤ bandFloor (n + 1) * l.2)
    else false
  if moves then (s1.put (BC_TREE_STAT.band t) n).inc (BC_BAND_CNT.count t) else s1

/-- The load bands of every tree (R218). -/
def State.bandSteps (s : State) : State := if s.up 12 then (List.range 32).foldl State.bandStep s else s

/-- The grants of a sealed map enter the load window (R218). -/
def State.noteGrants (s : State) (t octets : Nat) : State :=
  { s with bc := { s.bc with grants := mset t ((octets :: mgetD t [] s.bc.grants).take 256) s.bc.grants } }

/-! ## Measurement (R215 to R217, R229) -/

/-- The smallest burst profile whose preamble holds a need, 3 where none does (R215). -/
def State.profFor (s : State) (t need : Nat) : Nat :=
  ((List.range 4).find? fun p => decide (need + s.get (BC_TREE_CFG.margin_oct t) ≤ s.preOct t p)).getD 3

/-- The largest need on profile-3 bursts over the last second (R229). -/
def State.needMax (s : State) (t : Nat) : Nat :=
  (s.bc.needs.filter fun e => e.1 == t && decide (s.us ≤ e.2.2 + 1000000)).foldl (fun m e => max m e.2.1) 0

/-- Profile 3 is too short for the largest need and the margin (R229). -/
def State.p3Check (s : State) (t : Nat) : State :=
  if s.preOct t 3 < s.needMax t + s.get (BC_TREE_CFG.margin_oct t) then s.set1 BC_EVENT.p3_short else s

/-- A need is recorded, and profile 3 checked against it (R229). -/
def State.noteNeed (s : State) (t need : Nat) : State :=
  let l := s.bc.needs.filter fun e => decide (s.us ≤ e.2.2 + 1000000)
  State.p3Check { s with bc := { s.bc with needs := l ++ [(t, need, s.us)] } } t

/-- A full measurement (R215). -/
def State.fullMeasure (s : State) (t onu : Nat) (m : Meas) : State :=
  let x : RxProfile := {
    state := .calibrated, prof := BitVec.ofNat 2 (s.profFor t m.need.toNat), staleCause := (s.rxProf t onu).staleCause
    seedOk := true, cdrSeed := m.cdr, thresh := m.thresh, dfe1 := m.dfe1, ffePost := m.ffePost, ffePre := m.ffePre
    ctle := m.ctle, needOct := m.need.toNat, marginQ := m.margin, rxStamp := BitVec.ofNat 9 (s.get (BC_TREE_STAT.rx_temp t))
    termStamp := mgetD (termKey t onu) 0x80 s.bc.termTemp, bandStamp := BitVec.ofNat 2 (s.get (BC_TREE_STAT.band t))
    sfcStamp := BitVec.ofNat 16 (s.get (TE_SFC.sfc t)) }
  (((s.setRx t onu x).inc (BC_MEAS_CNT.count t)).dropReq t onu).noteNeed t m.need.toNat

/-- A signed code moves by at most one towards a measured one (R216). -/
def stepTo {n : Nat} (x y : BitVec n) : BitVec n := if x.toInt < y.toInt then x + 1 else if y.toInt < x.toInt then x - 1 else x

/-- An unsigned code moves by at most one towards a measured one (R216). -/
def stepToU {n : Nat} (x y : BitVec n) : BitVec n := if x.toNat < y.toNat then x + 1 else if y.toNat < x.toNat then x - 1 else x

/-- need_oct averaged with a burst's need, rounded up (R216). -/
def avgNeed (a old need : Nat) : Nat := (-(((old : Int) - need) / (2 ^ a : Nat)) + old).toNat

/-- A refinement of a Calibrated profile (R216), with its counter. -/
def State.refine (s : State) (t onu : Nat) (m : Meas) : State :=
  let x := s.rxProf t onu
  let a := s.get BC_CFG.alpha_sh
  (s.setRx t onu { x with
    ctle := stepToU x.ctle m.ctle, ffePre := stepTo x.ffePre m.ffePre, ffePost := stepTo x.ffePost m.ffePost
    dfe1 := stepTo x.dfe1 m.dfe1, thresh := stepTo x.thresh m.thresh, cdrSeed := m.cdr
    needOct := avgNeed (if 1 ≤ a ∧ a ≤ 6 then a else 3) x.needOct m.need.toNat, marginQ := m.margin
    refined := min (x.refined + 1) 262143 }).inc (BC_REFINE_CNT.count t)

/-- The promotion and demotion tests on a burst's own need (R216). -/
def State.promote (s : State) (t onu need : Nat) : State :=
  let x := s.rxProf t onu
  let p := x.prof.toNat
  let g := s.get (BC_TREE_CFG.margin_oct t)
  let late := if 2 * s.preOct t p < 2 * need + g then x.lateRun + 1 else 0
  let lock := if 0 < p ∧ need + g ≤ s.preOct t (p - 1) then min 255 (x.lockRun + 1) else 0
  if p < 3 ∧ max 1 (s.get BC_CFG.promote_n) ≤ late then
    (s.setRx t onu { x with prof := x.prof + 1, lateRun := 0, lockRun := 0 }).inc (BC_PROMOTE_CNT.count t)
  else if max 1 (s.get BC_CFG.demote_n) ≤ lock then
    (s.setRx t onu { x with prof := x.prof - 1, lateRun := 0, lockRun := 0 }).inc (BC_DEMOTE_CNT.count t)
  else s.setRx t onu { x with lateRun := late, lockRun := lock }

/-- What a confirmed burst teaches (R215 to R217, R224, R228). -/
def State.learnBurst (s : State) (t onu prof : Nat) (calibration : Bool) (m : Meas) : State :=
  if !s.operating t onu || (s.term t onu).correcting || s.protBlocked t || !s.calOn t || !s.up 12 then s
  else if prof = 3 then
    let s1 := s.fullMeasure t onu m
    if calibration then s1.inc (BC_CAL_DONE_CNT.count t) else s1
  else if (s.rxProf t onu).state = .calibrated then (s.refine t onu m).promote t onu m.need.toNat
  else s

/-! ## Banks (R227) -/

/-- A calibration bank has failed its check (R227); the retention failure bit is set with it. -/
def State.calBankLost (s : State) (k : Nat) : State :=
  let ks := (List.range 1024).map (1024 * k + ·)
  let rx := ks.foldl (fun m i => mset i { state := .unwritten } m) s.rx
  ks.foldl (fun s i => s.raiseFor (i / 256) (i % 256)) ({ s with rx := rx }.set1 BC_EVENT.bank_lost)

/-! ## The commands -/

/-- LANE_TEMP_SAMPLE (R219): the lane temperature of a tree is read. -/
def execLaneTempSample (t : Tree) (temp : BitVec 9) (s : State) : Host.Outcome State Fault Refusal :=
  if s.up 12 then (s.put (BC_TREE_STAT.rx_temp t.val) temp.toNat).done else s.done

/-- A terminal temperature is reported (R219, R234). -/
def State.termTemp (s : State) (t onu v : Nat) : State :=
  if v = 0x80 then s
  else if !s.operating t onu then s.set1 BC_EVENT.cmd_refused
  else
    let s1 := { s with bc := { s.bc with termTemp := mset (termKey t onu) (BitVec.ofNat 8 v) s.bc.termTemp } }
    let x := s1.rxProf t onu
    if x.termStamp = 0x80 ∧ x.state ≠ .unwritten then s1.setRx t onu { x with termStamp := BitVec.ofNat 8 v } else s1

/-- A write of BC_TERM_TEMP. -/
def State.termTempWrite (s : State) (d : Nat) : State :=
  let s1 := ((s.put BC_TERM_TEMP.temp (BC_TERM_TEMP.temp.of d)).put BC_TERM_TEMP.tree (BC_TERM_TEMP.tree.of d)).put
    BC_TERM_TEMP.onu (BC_TERM_TEMP.onu.of d)
  if BC_TERM_TEMP.go.of d = 1 then s1.termTemp (BC_TERM_TEMP.tree.of d) (BC_TERM_TEMP.onu.of d) (BC_TERM_TEMP.temp.of d)
  else s1

/-- TERM_TEMP_REPORT (R219). -/
def execTermTempReport (d : BitVec 32) (s : State) : Host.Outcome State Fault Refusal :=
  if s.answers [12] then ((s.ungate 12).termTempWrite d.toNat).done else s.done

/-- BC_CMD holds the command written. -/
def State.bcCmd (s : State) (cmd t onu : Nat) : State :=
  ((s.put BC_CMD.cmd cmd).put BC_CMD.tree t).put BC_CMD.onu onu

/-- Command 0x1: recalibrate (R220, R233). -/
def State.recalibrate (s : State) (t onu : Nat) : State :=
  if !s.operating t onu then s.set1 BC_EVENT.cmd_refused else (s.makeStale t onu 6).raiseFor t onu

/-- Command 0x2: forget (R233). -/
def State.forgetCal (s : State) (t onu : Nat) : State :=
  if !s.operating t onu then s.set1 BC_EVENT.cmd_refused else (s.uncalibrate t onu).raiseFor t onu

/-- CAL_RECALIBRATE (R233). -/
def execCalRecalibrate (t : Tree) (onu : BitVec 8) (s : State) : Host.Outcome State Fault Refusal :=
  if s.answers [12] then (((s.ungate 12).bcCmd 1 t.val onu.toNat).recalibrate t.val onu.toNat).done else s.done

/-- CAL_FORGET (R233). -/
def execCalForget (t : Tree) (onu : BitVec 8) (s : State) : Host.Outcome State Fault Refusal :=
  if s.answers [12] then (((s.ungate 12).bcCmd 2 t.val onu.toNat).forgetCal t.val onu.toNat).done else s.done

/-- A write of BC_DEF_n refreshes the chiplet's copy (R214). -/
def State.bcDef (s : State) (t d : Nat) : State :=
  let s1 := s.putRw d (bcDefFields t)
  { s1 with bc := { s1.bc with defCopy := mset t (BitVec.ofNat 32 (wordOf (bcDefFields t) s1.get)) s1.bc.defCopy } }

/-- BC_DEF_WRITE (R214). -/
def execBcDefWrite (t : Tree) (d : BitVec 32) (s : State) : Host.Outcome State Fault Refusal :=
  if s.answers [12] then ((s.ungate 12).bcDef t.val d.toNat).done else s.done

/-- The RW fields of BC_PROF_n_p. -/
def bcProfFields (t p : Nat) : List (Fld × Acc) :=
  [(BC_PROF.fec t p, .rw), (BC_PROF.delim8 t p, .rw), (BC_PROF.pre_byte t p, .rw), (BC_PROF.pre_oct t p, .rw)]

/-- A write of BC_PROF_n_p is refused (R211). -/
def State.profRefused (s : State) (t p d : Nat) : Bool :=
  let v := (BC_PROF.pre_oct t p).of d / 4 * 4
  decide (1 < s.treeState t) || decide (v < 16) || decide (2044 < v) ||
    (List.range 4).any fun q => (decide (q < p) && decide (v < s.preOct t q)) || (decide (p < q) && decide (s.preOct t q < v))

end Sys2Proof.Machine
end

