-- ==== Sys2Proof/Machine/GrantOps.lean ====
section
/-! DEFINITION. What the Grant Engine works from (R145 to R156): descriptors, admission, burst overheads, demand, the upstream
time line and the silences on it, and the placement of a silence (R122 to R124). -/

namespace Sys2Proof.Machine

/-! ## Descriptors (R145) -/

/-- The fields of words 0 to 2 of a descriptor (R145). -/
def aEn (w : BitVec 64) : Bool := bit1 w.toNat 63
def aClass (w : BitVec 64) : Nat := bitsOf w.toNat 61 2
def aAgr (w : BitVec 64) : Bool := bit1 w.toNat 60
def aDbru (w : BitVec 64) : Bool := bit1 w.toNat 59
def aOnu (w : BitVec 64) : Nat := bitsOf w.toNat 48 8
def aId (w : BitVec 64) : Nat := bitsOf w.toNat 32 14
def aTenant (w : BitVec 64) : Nat := bitsOf w.toNat 24 6
def aGuar (w : BitVec 64) : Nat := bitsOf w.toNat 44 20
def aMax (w : BitVec 64) : Nat := bitsOf w.toNat 24 20
def aAgrMax (w : BitVec 64) : Nat := bitsOf w.toNat 4 20
def aNa (w : BitVec 64) : Nat := bitsOf w.toNat 44 20
def aWeight (w : BitVec 64) : Nat := bitsOf w.toNat 36 8

/-- Word w of a descriptor as a read returns it (R145, R146). -/
def Alloc.wordAt (a : Alloc) (w : Nat) : BitVec 64 :=
  match w with
  | 0 => a.w0
  | 1 => a.w1
  | 2 => a.w2
  | _ => BitVec.ofNat 64 (min a.lastGrant 0xFFFFF <<< 44 ||| min a.report 0xFFFFF <<< 24 ||| min a.age 15 <<< 20 |||
      min a.outstanding 0xFFFFF)

/-- The allocations of a tree, in index order. -/
def State.allocsOf (s : State) (t : Nat) : List (Nat × Alloc) :=
  (s.allocs.filter fun e => e.1 / 512 == t).map fun e => (e.1 % 512, e.2)

/-- A guaranteed entry (R146). -/
def Alloc.guaranteed (a : Alloc) : Bool := aEn a.w0 && (decide (0 < aGuar a.w1) || aAgr a.w0)

/-- An enabled fixed entry. -/
def Alloc.fixedOn (a : Alloc) : Bool := aEn a.w0 && aClass a.w0 == 0

/-! ## Rates, guards and overheads (R148 to R151, R211) -/

/-- The rate code of a tree: the us_rate of its TREE Drawer entry. -/
def State.rateCode (s : State) (t : Nat) : Nat := (s.treeEntry t).usRate.toNat

/-- The map granularity of a tree in octets (R149). An example of the spec gives 32 at 49.7664 Gb/s. -/
def State.wordOct (s : State) (t : Nat) : Nat :=
  if !s.isXgs t ∧ s.rateCode t = 0 then 32 else (Config.granularity (s.isXgs t) (s.rateCode t)).toNat + 1

/-- The minimum guard (R148). -/
def State.minGuard (s : State) (t : Nat) : Nat :=
  if s.isXgs t then 32 else match s.rateCode t with | 0 => 160 | 1 => 80 | _ => 40

/-- The guard in force (R148). -/
def State.guardOct (s : State) (t : Nat) : Nat := s.minGuard t + s.get (GE_TREE_CFG.guard_extra t)

/-- The overhead of a burst on a profile (R211). -/
def State.ovh (s : State) (t p : Nat) : Nat :=
  s.guardOct t + s.preOct t p + s.delimOct t p +
    (Config.headerTrailer (s.isXgs t) (s.rateCode t) (s.on (BC_PROF.fec t p))).toNat

/-- ovh_max of a tree (R151). -/
def State.ovhMax (s : State) (t : Nat) : Nat := s.ovh t 3

/-- be_min_oct as it acts. -/
def State.beMin (s : State) (t : Nat) : Nat := let v := s.get (GE_TREE_CFG.be_min_oct t); if v = 0 then 32 else v

/-- The ceiling of max_grant_oct (R148). -/
def State.ceiling (s : State) (t : Nat) : Nat := s.frameOctets125 t / 2

/-! ## Admission (R147, R166) -/

/-- The distinct terminals of guaranteed entries. -/
def guarOnus (l : List (Nat × Alloc)) : List Nat :=
  l.foldl (fun m e => if e.2.guaranteed ∧ aOnu e.2.w0 ∉ m then aOnu e.2.w0 :: m else m) []

/-- The committed sum of a tree for a set of entries and reserves (R147). -/
def committedOf (l : List (Nat × Alloc)) (ovhMax beRes calRes : Nat) : Nat :=
  l.foldl (fun a e => if e.2.guaranteed then a + aGuar e.2.w1 + (if aAgr e.2.w0 then aAgrMax e.2.w1 else 0) else a) 0 +
    ovhMax * (guarOnus l).length + beRes + calRes

/-- The committed sum of a tree (R147), GE_TREE_COMMIT_n. -/
def State.committed (s : State) (t : Nat) : Nat :=
  committedOf (s.allocsOf t) (s.ovhMax t) (s.get (GE_TREE_RES.be_res_oct t)) (s.get (GE_TREE_CALRES.cal_res_oct t))

/-- Enabled guaranteed entries of a tree. -/
def State.guarCount (s : State) (t : Nat) : Nat := ((s.allocsOf t).filter fun e => e.2.guaranteed).length

/-- The least non-zero be_res_oct (R166). -/
def State.beResFloor (s : State) (t : Nat) : Nat := 64 * (s.beMin t + s.ovhMax t)

/-! ## The upstream time line (R119, R125, R148, R154) -/

/-- TEQ of a tree in nanoseconds (R125). -/
def State.teqNs (s : State) (t : Nat) : Nat := 10000 * (s.treeEntry t).maxReachKm + 35000

/-- Nanoseconds in upstream bit periods of a tree, to the nearest. DESIGN CHOICE (log 33): the spec states no rounding where the
rate gives no whole number. -/
def State.nsBits (s : State) (t ns : Nat) : Nat := (ns * s.frameOctets125 t * 8 + 62500) / 125000

/-- Picoseconds in upstream bit periods, to the nearest (R133). -/
def State.psBits (s : State) (t : Nat) (ps : Int) : Int :=
  let x := ps * ((s.frameOctets125 t * 8 : Nat) : Int)
  if 0 ≤ x then (x + 62500000) / 125000000 else -((-x + 62500000) / 125000000)

/-- Upstream bit periods in whole nanoseconds. -/
def State.bitsNs (s : State) (t b : Nat) : Nat := b * 125000 / (s.frameOctets125 t * 8)

/-- The local count, in ns, of tick k (R384). -/
def State.tickAt (s : State) (k : Nat) : Nat := s.ge.tickNs + 125000 * k - 125000 * s.ge.k

/-- z of the grants of map k (R119, R154). DEDUCED (log 34): the tick and the terminal response time that z contains. -/
def State.zNs (s : State) (k : Nat) : Nat := s.tickAt k + 35000

/-- The start of upstream frame k of a tree (R154). -/
def State.upNs (s : State) (t k : Nat) : Nat := s.zNs k + s.teqNs t

/-- The run-ahead N (R154). -/
def State.runAhead (s : State) : Nat := s.get GE_MAP_CTRL.run_ahead

/-- The first map whose build has not begun (R156). -/
def State.nextMap (s : State) : Nat := max (s.ge.k + s.runAhead) (s.ge.begun + 1)

/-- The map whose z interval holds an instant. -/
def State.mapOfZ (s : State) (z : Nat) : Nat := s.ge.k + (z - s.zNs s.ge.k) / 125000

/-- The offset of the time of day from the local count, in whole ns. -/
def State.todOfNs (s : State) (ns : Nat) : Nat := ((ns : Int) + (s.todNs : Int) - (s.localNs : Int)).toNat

/-! ## Silences (R119 to R124) -/

/-- The silences of a tree. -/
def State.windowsOf (s : State) (t : Nat) : List Window := mgetD t [] s.windows

/-- The state with the silences of a tree replaced. -/
def State.setWindows (s : State) (t : Nat) (l : List Window) : State := { s with windows := mset t l s.windows }

/-- The exclusion zone of a silence in upstream frame k, in octets. -/
def State.zoneOf (s : State) (t k : Nat) (w : Window) : Option (Nat × Nat) :=
  let u := s.upNs t k
  let a := max w.startNs u
  let b := min (w.startNs + w.lenNs) (u + 125000)
  if a < b then some ((a - u) * s.frameOctets125 t / 125000, ceilDiv ((b - u) * s.frameOctets125 t) 125000) else none

/-- The zones of the silences of a tree in upstream frame k. -/
def State.zonesOf (s : State) (t k : Nat) : List (Nat × Nat) := (s.windowsOf t).filterMap (s.zoneOf t k)

/-- The weight of a slot of the TDD pattern (R122). -/
def State.tddWeight (s : State) (t j : Nat) : Nat :=
  if s.on (TE_TDD_CFG.en t) then s.get (TE_TDD_W.weight t j) else 0

/-- The pattern length in slots (R122); a period of 0 acts as 1. -/
def State.tddSlots (s : State) (t : Nat) : Nat := max 1 (s.get (TE_TDD_CFG.period_slots t))

/-- The slots that a window of `len` ns meets from an instant `o` within the pattern on, each with its overlap in ns. -/
def overlaps (slots o len : Nat) : Nat → List (Nat × Nat)
  | 0 => []
  | n + 1 =>
    if len = 0 then []
    else
      let left := min len (125000 - o % 125000)
      ((o / 125000) % slots, left) :: overlaps slots (o + left) (len - left) n

/-- The cost of a window that starts at an instant of the local count, none where it meets a protected slot (R123). -/
def State.tddCost (s : State) (t start len : Nat) : Option Nat :=
  let n := s.tddSlots t
  let p := n * 125000
  let o := ((s.todOfNs start : Int) - 1000 * (s.get (TE_TDD_CFG.phase_us t) : Int)) % (p : Int)
  let l := overlaps n o.toNat len (len / 125000 + 2)
  if l.any fun e => s.tddWeight t e.1 == 15 then none
  else some (l.foldl (fun a e => a + s.tddWeight t e.1 * e.2) 0)

/-- The start that the procedure of R123 finds for a window of `len` ns. It looks at the weights alone: two windows of a tree may meet
where their starts cost the same (DESIGN CHOICE, log 143). -/
def State.placeAt (s : State) (t len : Nat) : Option Nat :=
  let e := s.upNs t s.nextMap
  let best := (List.range (s.tddSlots t * 8)).foldl (fun (b : Option (Nat × Nat)) k =>
    match s.tddCost t (e + k * 15625) len, b with
    | none, _ => b
    | some c, none => some (k, c)
    | some c, some (k0, c0) => if c < c0 then some (k, c) else some (k0, c0)) none
  best.map fun b => e + b.1 * 15625

/-- A silence is placed, or its placement counted as skipped (R123, R124). `lead` is the time from z of the grant to the start of
the silence, which lies before z where it is negative. -/
def State.placeWindow (s : State) (t len : Nat) (lead : Int) (onu : Option Nat) (silent : Bool) : State :=
  match s.placeAt t len with
  | none => s.inc (TE_QW_SKIP_CNT.count t)
  | some st =>
    let z := ((st : Int) - lead).toNat
    s.setWindows t (s.windowsOf t ++ [Window.mk onu st len (s.mapOfZ z) silent false z])

/-- Length of the quiet window of a tree in ns (R119). -/
def State.quietNs (s : State) (t : Nat) : Nat := 10000 * (s.treeEntry t).diffReachKm + 50000

/-- The quiet window of an acquisition cycle is placed (R119, R123). -/
def State.placeQuiet (s : State) (t : Nat) : State :=
  s.placeWindow t (s.quietNs t) (10000 * ((s.treeEntry t).maxReachKm - (s.treeEntry t).diffReachKm)) none false

/-- The ranging window of a terminal is placed: 48 µs before and 4 µs after the arrival that its response implies (R124,
R126). -/
def State.placeRanging (s : State) (t onu : Nat) : State :=
  s.placeWindow t 52000 (((s.term t onu).respNs : Int) - 48000) (some onu) false

/-- A terminal has a ranging window placed. -/
def State.rangingPlaced (s : State) (t onu : Nat) : Bool := (s.windowsOf t).any fun w => w.onu == some onu

/-! ## Demand (R152, R153) -/

/-- The demand of an allocation in octets. -/
def State.demandOf (s : State) (t : Nat) (a : Alloc) : Nat :=
  if aDbru a.w0 then a.report - a.outstanding
  else match a.lastRx with
    | none => if 2 ≤ aClass a.w0 then s.beMin t else aGuar a.w1
    | some (g, i) => if i * 16 < g then 2 * g else g - i

/-- Octets granted to an allocation in a map. -/
def GMap.granted (m : GMap) (i : Nat) : Nat :=
  m.slots.foldl (fun a x => x.allocs.foldl (fun b e => if e.1 = i then b + e.2 else b) a) 0

/-- A map stands and has not been sealed. -/
def MapStage.standing : MapStage → Bool
  | .building | .built | .honoured => true
  | _ => false

/-- The age that an allocation will have once the maps already built before map k are sealed (R165). DEDUCED (log 35): the maps
not yet sealed count as they count for outstanding. -/
def State.ageAt (s : State) (t i k : Nat) (a : Alloc) : Nat :=
  (s.ge.maps.filter fun m => m.tree == t && decide (m.k < k) && m.stage.standing).foldl (fun g m =>
    if m.replace || !m.servedOk then g else if 0 < m.granted i then 0 else min 15 (g + 1)) a.age

/-- Late octets of an allocation whose windows meet upstream frame k (R160). -/
def State.lateOf (s : State) (t i k : Nat) : Nat :=
  let u := s.todOfNs (s.upNs t k)
  (s.ge.late.filter fun d => d.tree == t && d.alloc == i && decide (d.startNs < u + 125000) && decide (u < d.endNs)).foldl
    (fun a d => a + d.octets) 0

/-- What the snapshot of a map holds of the configuration of a tree (R155, R167). -/
def State.mapCfg (s : State) (t : Nat) : MapCfg :=
  { beRes := s.get (GE_TREE_RES.be_res_oct t), beMin := s.beMin t, guard := s.guardOct t, ovhMax := s.ovhMax t
    calOct := roundUp (s.get (BC_TREE_CFG.cal_pay_oct t)) (s.wordOct t), calFec := s.on (BC_PROF.fec t 3) }

/-- The snapshot of R155 for map k of a tree: the enabled allocations whose terminal is in Operation. -/
def State.snapshot (s : State) (t k : Nat) : List SnapAlloc :=
  (s.allocsOf t).filterMap fun e =>
    let onu := aOnu e.2.w0
    if aEn e.2.w0 && s.operating t onu then
      let p := s.snapProfile t onu
      some ⟨e.1, e.2.w0, e.2.w1, e.2.w2, s.demandOf t e.2, s.ageAt t e.1 k e.2, s.ovh t p, p, s.on (BC_PROF.fec t p),
        s.lateOf t e.1 k, s.snapLane t onu⟩
    else none

end Sys2Proof.Machine
end

