-- ==== Sys2Proof/Machine/MapBuild.lean ====
section
/-! DEFINITION. Building, rebuilding and withdrawing maps (R155 to R167), and the Fallback Map (R188 to R191). -/

namespace Sys2Proof.Machine

/-! ## Amounts (R162) -/

/-- What the passes of R162 carry: the time left, the octets given per pass and allocation, the terminals with a burst, the
octets served per AGR record, the requests of calibration bursts with the lane settings, and whether a guaranteed pass fell short. -/
structure Amt where
  avail : Nat
  parts : List (Nat × Nat × Nat) := []
  opened : List Nat := []
  agr : List (AgrRec × Nat) := []
  late : List (Nat × Nat) := []
  cals : List (CalReq × LaneSet) := []
  short : Bool := false
  served : Bool := true
  deriving DecidableEq, Repr

/-- Octets given to an allocation so far. -/
def Amt.g (m : Amt) (i : Nat) : Nat := m.parts.foldl (fun a e => if e.2.1 = i then a + e.2.2 else a) 0

/-- Octets given to an allocation in one pass. -/
def Amt.gPass (m : Amt) (p i : Nat) : Nat := m.parts.foldl (fun a e => if e.1 = p ∧ e.2.1 = i then a + e.2.2 else a) 0

/-- Distinct allocations given something. -/
def Amt.count (m : Amt) : Nat := (m.parts.foldl (fun l e => if e.2.1 ∈ l then l else e.2.1 :: l) []).length

/-- Rounded down to the map granularity. -/
def downWord (w x : Nat) : Nat := x / w * w

/-- The structures that passes 1 to 7 may use: 512 less the eight kept for reserved structures, and in the guaranteed passes less
the 64 kept for the urgent pass (R150). -/
def structCap (pass : Nat) : Nat := if pass ≤ 3 then 440 else 504

/-- The procedure give of R162. -/
def Amt.give (m : Amt) (w pass : Nat) (a : SnapAlloc) (x : Nat) : Amt :=
  let x1 := downWord w x
  let onu := aOnu a.w0
  let extra := if onu ∈ m.opened then 0 else a.ovh
  let x2 := if m.avail < x1 + extra then downWord w (m.avail - extra) else x1
  if x2 = 0 ∨ (m.g a.idx = 0 ∧ structCap pass ≤ m.count) then m
  else { m with
    avail := m.avail - x2 - extra
    parts := m.parts ++ [(pass, a.idx, x2)]
    opened := if onu ∈ m.opened then m.opened else onu :: m.opened }

/-- give in a guaranteed pass, noting whether the allocation got its due. -/
def Amt.giveDue (m : Amt) (w pass : Nat) (a : SnapAlloc) (x : Nat) : Amt :=
  let n := m.give w pass a x
  if n.g a.idx < m.g a.idx + downWord w x then { n with short := true } else n

/-- Pass 1: fixed. -/
def pass1 (w : Nat) (l : List SnapAlloc) (m : Amt) : Amt :=
  l.foldl (fun m a => if aClass a.w0 = 0 then m.giveDue w 1 a (aGuar a.w1) else m) m

/-- Pass 2: the stored AGR records that meet the frame, in order. -/
def pass2 (w : Nat) (l : List SnapAlloc) (rs : List AgrRec) (m : Amt) : Amt :=
  rs.foldl (fun m r => match l.find? fun a => a.idx == r.alloc with
    | none => m
    | some a =>
      let n := m.giveDue w 2 a (min r.left (min (aAgrMax a.w1 - m.gPass 2 a.idx) (aMax a.w1 - m.g a.idx)))
      { n with agr := n.agr ++ [(r, n.gPass 2 a.idx - m.gPass 2 a.idx)] }) m

/-- Pass 3: assured. -/
def pass3 (w : Nat) (l : List SnapAlloc) (m : Amt) : Amt :=
  l.foldl (fun m a =>
    if aClass a.w0 = 1 then m.giveDue w 3 a (min (aGuar a.w1) (min a.demand (aMax a.w1 - m.g a.idx))) else m) m

/-- Pass 5: urgent, for allocations of age 7 and more, the highest age first (R162, R165). -/
def pass5 (w beMin : Nat) (l : List SnapAlloc) (m : Amt) : Amt :=
  let old (g : Nat) := l.filter fun a => decide (2 ≤ aClass a.w0) && a.age == g
  (([15, 14, 13, 12, 11, 10, 9, 8, 7].flatMap old).take 64).foldl (fun m a => m.give w 5 a (min beMin (aMax a.w1))) m

/-- The allocations in round-robin order from a pointer. -/
def fromPtr (p : Nat) (l : List SnapAlloc) : List SnapAlloc :=
  (l.filter fun a => decide (p ≤ a.idx)) ++ l.filter fun a => decide (a.idx < p)

/-- Pass 6: non-assured, round robin. -/
def pass6 (w ptr : Nat) (l : List SnapAlloc) (m : Amt) : Amt :=
  (fromPtr ptr l).foldl (fun m a =>
    if aClass a.w0 = 2 then m.give w 6 a (min (aNa a.w2) (min a.demand (aMax a.w1)) - m.g a.idx) else m) m

/-- The octets wanted in pass 7: for best-effort its demand and late AGR octets, for another class the late octets alone. -/
def wantOf (m : Amt) (a : SnapAlloc) : Nat :=
  let late := a.late + m.late.foldl (fun x e => if e.1 = a.idx then x + e.2 else x) 0
  if aClass a.w0 = 3 then min (a.demand + late) (aMax a.w1) - m.g a.idx
  else min (m.g a.idx + late) (aMax a.w1) - m.g a.idx

/-- The weight in pass 7: be_weight, or 1 where that is 0 (R160). -/
def weightOf (a : SnapAlloc) : Nat := max 1 (aWeight a.w2)

/-- The loop of pass 7. -/
def pass7Loop (w : Nat) : Nat → List (SnapAlloc × Nat) → Amt → Amt
  | 0, _, m => m
  | n + 1, cand, m =>
    let tot := cand.foldl (fun x e => x + weightOf e.1) 0
    if tot = 0 ∨ m.avail < w then m
    else
      let share (a : SnapAlloc) : Nat := downWord w (m.avail * weightOf a / tot)
      let sat := cand.filter fun e => decide (e.2 ≤ share e.1)
      if sat.isEmpty then cand.foldl (fun x e => x.give w 7 e.1 (share e.1)) m
      else pass7Loop w n (cand.filter fun e => !decide (e.2 ≤ share e.1)) (sat.foldl (fun x e => x.give w 7 e.1 e.2) m)

/-- Pass 7: best-effort by weight, the overhead of new bursts set aside first. -/
def pass7 (w : Nat) (l : List SnapAlloc) (m : Amt) : Amt :=
  let cand := (l.map fun a => (a, wantOf m a)).filter fun e => decide (0 < e.2)
  let m1 := cand.foldl (fun (x : Amt) e =>
    if aOnu e.1.w0 ∈ x.opened then x else { x with avail := x.avail - e.1.ovh, opened := aOnu e.1.w0 :: x.opened }) m
  pass7Loop w 513 cand m1

/-! ## Placement (R163) -/

/-- Free gaps in rising order, and what has been placed. -/
structure Placing where
  gaps : List (Nat × Nat)
  slots : List Slot := []
  kept : List (Nat × Nat × Nat) := []
  trims : Nat := 0
  miss : Nat := 0
  structs : Nat
  deriving DecidableEq, Repr

/-- A gap without an interval. -/
def cutGap (a b : Nat) (g : Nat × Nat) : List (Nat × Nat) :=
  if b ≤ g.1 ∨ g.2 ≤ a then [g]
  else (if g.1 < a then [(g.1, a)] else []) ++ (if b < g.2 then [(b, g.2)] else [])

/-- Gaps without an interval. -/
def cutGaps (gs : List (Nat × Nat)) (z : Nat × Nat) : List (Nat × Nat) := gs.flatMap (cutGap z.1 z.2)

/-- The gaps of an upstream frame. -/
def gapsOf (frame : Nat) (zones : List (Nat × Nat)) : List (Nat × Nat) := zones.foldl cutGaps [(0, frame)]

/-- The room of a gap from its first word boundary. -/
def roomOf (w : Nat) (g : Nat × Nat) : Nat := g.2 - roundUp g.1 w

/-- The earliest gap that holds a length. -/
def firstGap (w len : Nat) (gs : List (Nat × Nat)) : Option (Nat × Nat) := gs.find? fun g => decide (len ≤ roomOf w g)

/-- The largest gap, the earliest of equals. -/
def largestGap (w : Nat) (gs : List (Nat × Nat)) : Option (Nat × Nat) :=
  gs.foldl (fun b g => match b with | none => some g | some x => if roomOf w x < roomOf w g then some g else some x) none

/-- One terminal's slot before placement: its octets per pass and allocation, in allocation order; of a calibration burst its payload
and its request. -/
structure TermSlot where
  onu : Nat
  ovh : Nat
  profile : Nat
  fec : Bool
  pay : Nat
  parts : List (Nat × Nat × Nat)
  guard : Nat := 0
  lane : LaneSet := {}
  req : Option CalReq := none
  deriving DecidableEq, Repr

/-- Octets of a list of parts. -/
def partSum (l : List (Nat × Nat × Nat)) : Nat := l.foldl (fun a e => a + e.2.2) 0

/-- Length of a slot, rounded up to the granularity (R149, R163). -/
def TermSlot.len (w : Nat) (u : TermSlot) : Nat := roundUp (u.ovh + u.pay + partSum u.parts) w

/-- Octets per allocation of a list of parts, in allocation order. -/
def allocSums (l : List (Nat × Nat × Nat)) : List (Nat × Nat) :=
  l.foldl (fun m e => mmod e.2.1 0 (fun x => x + e.2.2) m) []

/-- A slot is placed at a position. -/
def Placing.put (p : Placing) (w s : Nat) (u : TermSlot) : Placing :=
  let n := u.len w
  if partSum u.parts + u.pay < w then p
  else { p with
    gaps := cutGaps p.gaps (s, s + n)
    slots := p.slots ++ [⟨u.onu, .data, s, n, u.ovh, allocSums u.parts, u.profile, u.fec, u.req.isSome, u.guard, u.lane, u.pay, u.req⟩]
    kept := p.kept ++ u.parts }

/-- n octets are taken off the parts, a later pass before an earlier one (R163). -/
def trimParts : Nat → Nat → List (Nat × Nat × Nat) → List (Nat × Nat × Nat)
  | 0, _, l => l
  | pass + 1, n, l =>
    let r := l.foldl (fun (a : Nat × List (Nat × Nat × Nat)) e =>
      if e.1 = pass + 1 then (a.1 - e.2.2, a.2 ++ [(e.1, e.2.1, e.2.2 - a.1)]) else (a.1, a.2 ++ [e])) (n, [])
    trimParts pass r.1 r.2

/-- A slot trimmed to a length: its payload is what the length holds past the overhead. -/
def TermSlot.trimTo (w room : Nat) (u : TermSlot) : TermSlot :=
  let pay := downWord w (room - u.ovh)
  { u with
    pay := min u.pay pay, parts := (trimParts 7 (partSum u.parts - pay) u.parts).filter fun e => decide (0 < e.2.2) }

/-- A slot is trimmed to the largest gap left. -/
def Placing.trim (p : Placing) (w : Nat) (u : TermSlot) : Placing :=
  let q := { p with trims := p.trims + 1 }
  match largestGap w p.gaps with
  | none => q
  | some g => q.put w (roundUp g.1 w) (u.trimTo w (roomOf w g))

/-- The first n octets of parts, and the rest. -/
def splitParts (n : Nat) (l : List (Nat × Nat × Nat)) : List (Nat × Nat × Nat) × List (Nat × Nat × Nat) :=
  let r := l.foldl (fun (a : Nat × List (Nat × Nat × Nat) × List (Nat × Nat × Nat)) e =>
    let x := min a.1 e.2.2
    (a.1 - x, (if 0 < x then a.2.1 ++ [(e.1, e.2.1, x)] else a.2.1),
      if x < e.2.2 then a.2.2 ++ [(e.1, e.2.1, e.2.2 - x)] else a.2.2)) (n, [], [])
  r.2

/-- The structures that a split adds: one where it cuts through an allocation (R150). -/
def splitExtra (r : List (Nat × Nat × Nat) × List (Nat × Nat × Nat)) : Nat :=
  if r.1.any fun e => r.2.any fun x => x.2.1 == e.2.1 then 1 else 0

/-- A slot that no gap holds is split, or trimmed where a split is not allowed (R150, R163). -/
def Placing.split (p : Placing) (w : Nat) (u : TermSlot) : Placing :=
  match largestGap w p.gaps with
  | none => p.trim w u
  | some g =>
    let pay := downWord w (roomOf w g - u.ovh)
    let r := splitParts pay u.parts
    if p.structs + splitExtra r ≤ 512 ∧ 0 < pay ∧ u.req.isNone then
      let p1 := { p.put w (roundUp g.1 w) { u with parts := r.1 } with structs := p.structs + splitExtra r }
      let u2 := { u with parts := r.2 }
      match firstGap w (u2.len w) p1.gaps with
      | some h => p1.put w (roundUp h.1 w) u2
      | none => p1.trim w u2
    else p.trim w u

/-- A slot is placed at the start of the earliest gap that holds it, else split or trimmed. -/
def Placing.place (p : Placing) (w : Nat) (u : TermSlot) : Placing :=
  match firstGap w (u.len w) p.gaps with
  | some g => p.put w (roundUp g.1 w) u
  | none => p.split w u

/-- The earliest start in a window where a slot lies in one gap and ends no later than the window's end. -/
def windowStart (w len a b : Nat) (gs : List (Nat × Nat)) : Option Nat :=
  (gs.map fun g => (roundUp (max g.1 a) w, g.2)).find? (fun g => decide (g.1 + len ≤ g.2) && decide (g.1 + len ≤ b))
    |>.map (·.1)

/-- The terminals of a snapshot that have been given something, rising. -/
def onusOf (l : List SnapAlloc) (parts : List (Nat × Nat × Nat)) : List Nat :=
  (List.range 256).filter fun o => l.any fun a => aOnu a.w0 == o && parts.any fun e => e.2.1 == a.idx

/-- The slot of a terminal. -/
def slotFor (guard : Nat) (l : List SnapAlloc) (parts : List (Nat × Nat × Nat)) (o : Nat) : Option TermSlot :=
  let mine := l.filter fun a => aOnu a.w0 == o
  mine.head?.map fun h => ⟨o, h.ovh, h.profile, h.fec, 0, mine.flatMap fun a => parts.filter fun e => e.2.1 == a.idx, guard, h.lane, none⟩

/-- The slot of a calibration burst: one structure to the default Alloc-ID, on profile 3 (R223). -/
def calSlot (c : MapCfg) (e : CalReq × LaneSet) : TermSlot :=
  ⟨e.1.onu, c.ovhMax, 3, c.calFec, c.calOct, [], c.guard, e.2, some e.1⟩

/-- The length of the slot of a calibration burst. -/
def MapCfg.calLen (c : MapCfg) (w : Nat) : Nat := roundUp (c.ovhMax + c.calOct) w

/-! ## Building (R155, R162, R163) -/

/-- The first octet of upstream frame k that begins at or after a time of day, clipped to the frame. -/
def State.todOctets (s : State) (t k tod : Nat) : Nat :=
  min (s.frameOctets125 t) (ceilDiv ((tod - s.todOfNs (s.upNs t k)) * s.frameOctets125 t) 125000)

/-- The octets of upstream frame k that have ended by a time of day, clipped to the frame. -/
def State.todOctetsBy (s : State) (t k tod : Nat) : Nat :=
  min (s.frameOctets125 t) ((tod - s.todOfNs (s.upNs t k)) * s.frameOctets125 t / 125000)

/-- The stored records that meet upstream frame k, by window start, then arrival (R162). -/
def State.agrFor (s : State) (t k : Nat) : List AgrRec :=
  let u := s.todOfNs (s.upNs t k)
  let l := s.ge.agr.filter fun r => r.tree == t && decide (r.startNs < u + 125000) && decide (u < r.startNs + r.lenNs)
  l.mergeSort fun a b => decide (a.startNs < b.startNs ∨ (a.startNs = b.startNs ∧ a.seq ≤ b.seq))

/-- Map k's upstream frame is the last that a record's window meets. -/
def State.lastMeet (s : State) (t k : Nat) (r : AgrRec) : Bool :=
  decide (r.startNs + r.lenNs ≤ s.todOfNs (s.upNs t k) + 125000)

/-- Pass 4 for calibration: the requests of the tree raised before this tick, oldest first, within cal_max, the eight structures and
cal_res_oct (R150, R222, R223). `used` counts the structures placed before, `resOct` their octets, and `inSvc` are the in-service
terminals. -/
def State.pickCals (s : State) (t w : Nat) (c : MapCfg) (used resOct : Nat) (inSvc : List Nat) (l : List SnapAlloc) (m : Amt) : Amt :=
  let len := c.calLen w
  let top := min (min 8 (s.get (GE_TREE_CFG.cal_max t))) (8 - used)
  let given (o : Nat) : Bool := l.any fun a => aOnu a.w0 == o && decide (0 < m.g a.idx)
  (s.bc.reqs.filter fun r => r.tree == t && decide (r.since < s.ge.k)).foldl (fun m r =>
    if m.cals.length < top ∧ len ≤ m.avail ∧ r.onu ∉ inSvc ∧ !given r.onu ∧ s.operating t r.onu ∧
        resOct + (m.cals.length + 1) * len ≤ s.get (GE_TREE_CALRES.cal_res_oct t) then
      { m with avail := m.avail - len, cals := m.cals ++ [(r, s.snapLane t r.onu)] }
    else m) m

/-- The calibration bursts kept by a rebuild. -/
def State.keepCals (s : State) (t w : Nat) (c : MapCfg) (cals : List (CalReq × LaneSet)) (m : Amt) : Amt :=
  let l := cals.filter fun e => s.operating t e.1.onu
  { m with avail := m.avail - c.calLen w * l.length, cals := l }

/-- The amounts of a map (R162). `cal` is pass 4. -/
def State.amounts (s : State) (t k ptr : Nat) (c : MapCfg) (zones : List (Nat × Nat)) (l : List SnapAlloc) (cal : Amt → Amt) : Amt :=
  let w := s.wordOct t
  let room := (gapsOf (s.frameOctets125 t) zones).foldl (fun a g => a + (g.2 - g.1)) 0
  let rs := s.agrFor t k
  let m := pass3 w l (pass2 w l rs (pass1 w l { avail := room }))
  let m1 := { m with late := (m.agr.filter fun e => s.lastMeet t k e.1).map fun e => (e.1.alloc, e.1.left - e.2) }
  let m2 := cal m1
  let m3 := { m2 with served := decide (c.beRes ≤ m2.avail) }
  let m4 := if 0 < c.beRes then pass5 w c.beMin l m3 else m3
  pass7 w l (pass6 w ptr l m4)

/-- The windowed slots of R163, then the others with the calibration slots, by ONU-ID. -/
def State.placeAll (s : State) (t k : Nat) (c : MapCfg) (zones : List (Nat × Nat)) (l : List SnapAlloc) (m : Amt) (pre : Nat) : Placing :=
  let w := s.wordOct t
  let win := (m.agr.filter fun e => decide (0 < e.2)).map fun e => (e.1.onu, e.1.startNs, e.1.startNs + e.1.lenNs)
  let first := win.foldl (fun (a : List (Nat × Nat × Nat)) e => if a.any fun x => x.1 == e.1 then a else a ++ [e]) []
  let p0 : Placing := { gaps := gapsOf (s.frameOctets125 t) zones, structs := pre + m.cals.length + m.count }
  let p1 := first.foldl (fun (p : Placing × List Nat) e => match slotFor c.guard l m.parts e.1 with
    | none => p
    | some u => match windowStart w (u.len w) (s.todOctets t k e.2.1) (s.todOctetsBy t k e.2.2) p.1.gaps with
      | some a => (p.1.put w a u, e.1 :: p.2)
      | none => ({ p.1 with miss := p.1.miss + 1 }, p.2)) (p0, [])
  (List.range 256).foldl (fun (p : Placing) o =>
    let q := if o ∈ p1.2 then p else match (if o ∈ onusOf l m.parts then slotFor c.guard l m.parts o else none) with
      | some u => p.place w u
      | none => p
    match m.cals.find? fun e => e.1.onu == o with
    | some e => q.place w (calSlot c e)
    | none => q) p1.1

/-- The AGR octets that the placed slots keep, per record in order. -/
def agrKept (kept : List (Nat × Nat × Nat)) (l : List (AgrRec × Nat)) : List (AgrRec × Nat) :=
  (l.foldl (fun (a : List (Nat × Nat) × List (AgrRec × Nat)) e =>
    let left := mgetD e.1.alloc 0 a.1
    let x := min left e.2
    (mset e.1.alloc (left - x) a.1, a.2 ++ [(e.1, x)])) (allocSums (kept.filter fun e => e.1 == 2), [])).2

/-- The grants of a map enter outstanding (R152). -/
def State.addOutstanding (s : State) (t : Nat) (l : List (Nat × Nat)) : State :=
  l.foldl (fun s e => s.modAlloc t e.1 fun a => { a with outstanding := a.outstanding + e.2 }) s

/-- Grants leave outstanding (R152). -/
def State.subOutstanding (s : State) (t : Nat) (l : List (Nat × Nat)) : State :=
  l.foldl (fun s e => s.modAlloc t e.1 fun a => { a with outstanding := a.outstanding - e.2 }) s

/-- Every grant of a map. -/
def GMap.grants (m : GMap) : List (Nat × Nat) := m.slots.flatMap (·.allocs)

/-- A record is served x octets: it leaves the store when its octets are granted (R161). -/
def serveAgr (l : List AgrRec) (e : AgrRec × Nat) : List AgrRec :=
  (l.map fun r => if r.seq = e.1.seq then { r with left := r.left - e.2 } else r).filter fun r => decide (0 < r.left)

/-- Octets that a map served return to their records (R167). -/
def returnAgr (l : List AgrRec) (e : AgrRec × Nat) : List AgrRec :=
  if e.2 = 0 then l
  else if l.any fun r => r.seq == e.1.seq then
    l.map fun r => if r.seq = e.1.seq then { r with left := r.left + e.2 } else r
  else l ++ [{ e.1 with left := e.2 }]

/-- Records cut by a map are counted once (R161). -/
def State.cutAgr (s : State) (t k : Nat) (l : List (AgrRec × Nat)) : State :=
  l.foldl (fun s e =>
    if s.lastMeet t k e.1 && decide (e.2 < e.1.left) && !e.1.cut then
      { s.inc GE_AGR_CUT_CNT.count with ge := { s.ge with
        agr := s.ge.agr.map fun r => if r.seq = e.1.seq then { r with cut := true } else r } }
    else s) s

/-- The map of a tree with this number. -/
def State.gmap (s : State) (t k : Nat) : Option GMap := s.ge.maps.find? fun m => m.tree == t && m.k == k

/-- The state with a map replaced or added. -/
def State.setMap (s : State) (m : GMap) : State :=
  { s with ge := { s.ge with maps := (s.ge.maps.filter fun x => !(x.tree == m.tree && x.k == m.k)) ++ [m] } }

/-- The amounts and the placement of a map take effect: slots, outstanding, AGR store, rr_ptr, counters (R161 to R163). -/
def State.finishMap (s : State) (m : GMap) (a : Amt) (count : Bool) : State :=
  let t := m.tree
  let p := s.placeAll t m.k m.cfg m.zones m.snap a m.reserved.length
  let kept := agrKept p.kept a.agr
  let pre := m.reserved.filter fun x => x.kind == .inService
  let cals := a.cals.filter fun e => p.slots.any fun x => x.req == some e.1
  let m1 := { m with slots := pre ++ p.slots, agr := kept, cals := cals, servedOk := a.served }
  let s1 := ((s.incBy (GE_TRIM_CNT.count t) p.trims).incBy GE_AGR_MISS_CNT.count p.miss).cutAgr t m.k kept
  let s2 := if count && a.short then s1.inc (GE_DISPLACED_CNT.count t) else s1
  let last := (a.parts.filter fun e => e.1 == 6).getLast?
  let ge := { s2.ge with
    agr := kept.foldl serveAgr s2.ge.agr
    rrPtr := match last with | some e => mset t ((e.2.1 + 1) % 512) s2.ge.rrPtr | none => s2.ge.rrPtr }
  (({ s2 with ge := ge }).setMap m1).addOutstanding t m1.grants

/-- Octets of 2 µs on a tree, rounded up. -/
def State.twoUs (s : State) (t : Nat) : Nat := ceilDiv (2 * s.frameOctets125 t) 125

/-- The start of a grant in map k that puts its burst at z of a silence, in octets of the upstream frame (R123, R149). -/
def State.grantStart (s : State) (t k z : Nat) : Nat :=
  roundUp (ceilDiv ((z - s.zNs k) * s.frameOctets125 t) 125000) (s.wordOct t)

/-- The serial-number and ranging grants that map k carries, as reserved structures: of those that fall due, in that order, at most the
eight that are kept (R150). A serial-number burst has at most 2 µs (R119); a ranging burst has the overhead of profile 3 (R210). -/
def State.windowGrants (s : State) (t k : Nat) : List Slot :=
  let ws := (s.windowsOf t).filter fun w => w.mapK == k && !w.silent
  let l := roundUp (s.twoUs t) (s.wordOct t)
  let o := roundUp (s.ovhMax t) (s.wordOct t)
  let sn := (ws.filter fun w => w.onu.isNone).map fun w =>
    Slot.mk 0 .serial (s.grantStart t k w.zNs) l 0 [] 3 (s.on (BC_PROF.fec t 3)) false 0 (s.copyLane t) 0 none
  let rng := ws.filterMap fun w => w.onu.map fun u =>
    Slot.mk u .ranging (s.grantStart t k w.zNs) o (s.ovhMax t) [] 3 (s.on (BC_PROF.fec t 3)) false 0 (s.snapLane t u) 0 none
  (sn ++ rng).take 8

/-- In-service bursts are placed first, each alone within 2 µs on both sides (R132, R150). DESIGN CHOICE (log 36): the earliest
stretch of the frame that holds the burst and its margins; the burst carries one map word. -/
def State.placeInService (s : State) (t : Nat) (used : Nat) (zones : List (Nat × Nat)) :
    List Slot × List (Nat × Nat) :=
  let w := s.wordOct t
  let d := roundUp (s.twoUs t) w
  ((s.ge.inService.filter fun e => e.1 == t && s.operating t e.2).foldl
    (fun (a : List Slot × List (Nat × Nat)) e =>
      let p := s.snapProfile t e.2
      let len := roundUp (s.ovh t p + w) w
      if 8 ≤ used + a.1.length then a
      else match firstGap w (len + 2 * d) (gapsOf (s.frameOctets125 t) a.2) with
        | none => a
        | some g =>
          let b := roundUp g.1 w
          (a.1 ++ [⟨e.2, .inService, b + d, len, s.ovh t p, [], p, s.on (BC_PROF.fec t p), false, s.guardOct t, s.snapLane t e.2, w, none⟩],
            a.2 ++ [(b, b + len + 2 * d)])) ([], zones))

/-- Trees for which maps are built: going Lit, Lit, Active, or going Dark, and not kept dark by the interlock (R155, R196). -/
def State.mapTree (s : State) (t : Nat) : Bool :=
  let x := s.treeState t
  (x == 2 || x == 3 || x == 5 || x == 6) && !s.protBlocked t

/-- The Grant Engine issues no allocation for a tree that goes Dark (R102, Stop). -/
def State.noGrants (s : State) (t : Nat) : Bool := s.treeState t == 6

/-- Map k of one tree is built (R155, R162, R163). -/
def State.buildMap (s : State) (k t : Nat) : State :=
  let l := if s.noGrants t then [] else s.snapshot t k
  let z0 := s.zonesOf t k
  let r0 := if s.noGrants t then [] else s.windowGrants t k
  let i := if s.noGrants t then ([], z0) else s.placeInService t r0.length z0
  let c := s.mapCfg t
  let resOct := (r0 ++ i.1).foldl (fun a x => a + x.len) 0
  let cal (m : Amt) : Amt :=
    if s.noGrants t then m
    else s.pickCals t (s.wordOct t) c (r0.length + i.1.length) resOct (i.1.map (·.onu)) l m
  let a := s.amounts t k (mgetD t 0 s.ge.rrPtr) c i.2 l cal
  let s1 := { s with ge := { s.ge with inService := s.ge.inService.filter fun e =>
    !(e.1 == t && i.1.any fun x => x.onu == e.2) } }
  let m : GMap :=
    { k := k, tree := t, stage := .building, snap := l, zones := i.2, reserved := r0 ++ i.1, slots := []
      rr := mgetD t 0 s.ge.rrPtr, cfg := c }
  let s2 := s1.finishMap m a true
  let placed := ((s2.gmap t k).map fun m => m.cals.map (·.1)).getD []
  { s2 with bc := { s2.bc with reqs := s2.bc.reqs.filter fun r => !placed.contains r } }

/-- A map gives back its outstanding grants and its AGR octets (R152, R167). -/
def State.unbuild (s : State) (m : GMap) : State :=
  let s1 := s.subOutstanding m.tree m.grants
  { s1 with ge := { s1.ge with agr := m.agr.foldl returnAgr s1.ge.agr } }

/-- What a map that is not serialised had placed is asked for again: its in-service bursts, and the requests of its calibration bursts,
which stand until a burst is placed (R132, R222). -/
def State.askAgain (s : State) (m : GMap) (cals : List CalReq) : State :=
  let again := (m.slots.filter fun x => x.kind == .inService && s.operating m.tree x.onu).map fun x => (m.tree, x.onu)
  let reqs := cals.filter fun r => s.up 12 && s.wantsCal r.tree r.onu && !s.hasReq r.tree r.onu
  { s with
    ge := { s.ge with inService := s.ge.inService ++ again.filter fun e => !s.ge.inService.contains e }
    bc := { s.bc with reqs := reqs ++ s.bc.reqs } }

/-- A map is open: its cut-off has not passed (R167). -/
def GMap.isOpen (m : GMap) : Bool := match m.stage with | .building | .built => true | _ => false

/-- A structure of an open map still qualifies. -/
def State.stillServed (s : State) (t : Nat) (x : SnapAlloc) : Bool :=
  let a := s.alloc t x.idx
  aEn a.w0 && s.operating t (aOnu x.w0)

/-- An open map is rebuilt from its snapshot without what no longer qualifies (R155, R167), and counted. -/
def State.rebuildMap (s : State) (m : GMap) : State :=
  let t := m.tree
  let s0 := (s.unbuild m).inc (GE_RECOMP_CNT.count t)
  let stop := s0.noGrants t
  let l := if stop then [] else m.snap.filter (s0.stillServed t)
  let res := if stop then [] else m.reserved.filter fun x => match x.kind with
    | .inService => s0.operating t x.onu
    | .ranging => decide ((s0.term t x.onu).step = .range)
    | _ => true
  let a := s0.amounts t m.k m.rr m.cfg m.zones l
    (if stop then id else s0.keepCals t (s0.wordOct t) m.cfg m.cals)
  let s1 := s0.finishMap { m with snap := l, reserved := res, slots := [] } a false
  let kept := ((s1.gmap t m.k).map (·.cals)).getD []
  s1.askAgain { m with slots := [] } ((m.cals.filter fun e => !kept.contains e).map (·.1))

/-- A map is withdrawn: it is never serialised (R167). -/
def State.withdraw (s : State) (m : GMap) : State :=
  let s1 := (s.unbuild m).askAgain m (m.cals.map (·.1))
  { s1 with ge := { s1.ge with maps := s1.ge.maps.filter fun x => !(x.tree == m.tree && x.k == m.k) } }

/-! ## Limits (R164) -/

/-- Two intervals meet. -/
def meets (a b c d : Nat) : Bool := decide (a < d) && decide (c < b)

/-- No two slots of a list overlap. -/
def disjointSlots : List Slot → Bool
  | [] => true
  | x :: r => (r.all fun y => !meets x.start (x.start + x.len) y.start (y.start + y.len)) && disjointSlots r

/-- The limits of R164 on a map. Limits 4 and 6 are judged on the guard and the terminals that the map was built with: a rebuild takes out
a terminal that leaves Operation while the map is open, and an honoured map is serialised as built (R167, R170). -/
def State.limitsOk (s : State) (m : GMap) : Bool :=
  let t := m.tree
  let structs := m.reserved.length + m.cals.length + m.grants.length
  decide (structs ≤ 512) &&
  (m.snap.all fun a => decide (m.granted a.idx ≤ aMax a.w1)) &&
  (m.slots.all fun x => decide (x.start + x.len ≤ s.frameOctets125 t)) &&
  disjointSlots m.slots && (m.slots.all fun x => decide (m.cfg.guard ≤ x.guard)) &&
  (m.slots.all fun x => x.kind == .inService || m.zones.all fun z => !meets x.start (x.start + x.len) z.1 z.2) &&
  (m.slots.all fun x => x.allocs.isEmpty || m.snap.any fun a => aOnu a.w0 == x.onu)

/-! ## The Fallback Map (R188 to R191) -/

/-- The entries of the Fallback Map of a tree (R188, R189). -/
def State.fallbackEntries (s : State) (t : Nat) : List (BitVec 64) :=
  let w := s.wordOct t
  let fixed := (s.allocsOf t).filter fun e => e.2.fixedOn
  ((List.range 256).foldl (fun (a : Nat × List (BitVec 64)) u =>
    let mine := fixed.filter fun e => aOnu e.2.w0 == u
    if mine.isEmpty || !s.operating t u then a
    else
      let r := mine.foldl (fun (b : Nat × Bool × List (BitVec 64)) e =>
        let n := downWord w (aGuar e.2.w1)
        (b.1 + n, false, b.2.2 ++ [BitVec.ofNat 64 (1 <<< 63 ||| (if b.2.1 then 1 else 0) <<< 62 ||| aId e.2.w0 <<< 48 |||
          u <<< 40 ||| b.1 <<< 20 ||| n)])) (a.1 + roundUp (s.ovhMax t) w, true, [])
      (r.1, a.2 ++ r.2.2)) (0, [])).2

/-- The octets of Fallback Map entries. -/
def entryOctets (l : List (BitVec 64)) : List Byte := l.flatMap fun e => octetsBE 8 e.toNat

/-- The Fallback Map of a tree. -/
def State.fb (s : State) (t : Nat) : Fallback := mgetD t {} s.fallback

/-- The Fallback Map of a Lit or Active tree is rebuilt and swapped in (R188, R191). -/
def State.rebuildFallback (s : State) (t : Nat) : State :=
  if s.treeState t = 2 ∨ s.treeState t = 3 then
    let f := s.fb t
    let l := s.fallbackEntries t
    { s with fallback := mset t { f with
        crc := BitVec.ofNat 32 (crc32 (entryOctets l)), generation := (f.generation + 1) % 2 ^ 32, entries := l } s.fallback }
  else s

/-- A word of the Fallback Map as a read returns it (R189). -/
def Fallback.wordAt (f : Fallback) (t i : Nat) : BitVec 64 :=
  match i with
  | 0 => BitVec.ofNat 64 (1 <<< 56 ||| t <<< 48 ||| f.entries.length <<< 32) ||| f.crc.setWidth 64
  | 1 => BitVec.ofNat 64 (f.generation <<< 32 ||| f.sent <<< 16 ||| f.omitted)
  | n + 2 => f.entries.getD n 0

/-- The bursts of the Fallback Map: entries grouped by terminal (R188). -/
def fallbackBursts (l : List (BitVec 64)) : List (List Nat) :=
  l.foldl (fun a e => if bit1 e.toNat 62 then a ++ [[e.toNat]] else match a.getLast? with
    | none => [[e.toNat]]
    | some g => a.dropLast ++ [g ++ [e.toNat]]) []

/-- Allocation index of an Alloc-ID of a tree. -/
def State.allocById (s : State) (t id : Nat) : Option (Nat × Alloc) :=
  (s.allocsOf t).find? fun e => aEn e.2.w0 && aId e.2.w0 == id

/-- One burst of a Fallback Map: its slot. It carries no lane settings; the chiplet applies its copy of BC_DEF_n (DESIGN CHOICE, log
144). -/
def State.fbSlot (s : State) (t : Nat) (g : List Nat) : Slot :=
  let o := (g.head?.map fun e => bitsOf e 40 8).getD 0
  let st := (g.head?.map fun e => bitsOf e 20 20).getD 0
  let n := g.foldl (fun a e => a + bitsOf e 0 20) 0
  let pre := roundUp (s.ovhMax t) (s.wordOct t)
  ⟨o, .data, st - pre, pre + n, pre, g.filterMap fun e => (s.allocById t (bitsOf e 48 14)).map fun a => (a.1, bitsOf e 0 20), 3,
    s.on (BC_PROF.fec t 3), false, s.guardOct t, s.copyLane t, 0, none⟩

/-- The Fallback Map that goes out for map k: the copy in use when its seal called for it, else the copy in use (R191). -/
def State.fbFor (s : State) (t k : Nat) : Fallback :=
  match (s.tree t).fbSealed with
  | some (j, f) => if j = k then f else s.fb t
  | none => s.fb t

/-- The seal of map k calls for the Fallback Map of a tree (R191). -/
def State.callFallback (s : State) (t k : Nat) : State := s.modTree t fun x => { x with fbSealed := some (k, s.fb t) }

/-- The Fallback Map of a tree is serialised for map k: the bursts that go out, and the state with its counts (R190). -/
def State.serialiseFallback (s : State) (t k : Nat) : State × List Slot :=
  let f := s.fbFor t k
  if f.crc.toNat ≠ crc32 (entryOctets f.entries) then ((s.set1 MIR_EVENT.fb_corrupt).rebuildFallback t, [])
  else
    let z := s.zonesOf t k
    let good (x : Slot) : Bool := s.operating t x.onu && z.all fun e => !meets x.start (x.start + x.len) e.1 e.2
    let gs := (fallbackBursts f.entries).map fun g => (g, s.fbSlot t g)
    let out := gs.filter fun e => good e.2
    let left := (gs.filter fun e => !good e.2).foldl (fun a e => a + e.1.length) 0
    let g := s.fb t
    ({ s with fallback := mset t { g with sent := min 0xFFFF (g.sent + 1), omitted := min 0xFFFF (g.omitted + left) } s.fallback },
      out.map (·.2))

end Sys2Proof.Machine
end

