-- ==== Sys2Proof/Machine/MirrorOps.lean ====
section
/-! DEFINITION. The Mirror's copy of the dynamic state of the privileged trees, the maps it builds from it, and their comparison with the
Grant Engine's (R178 to R187); rebuilding and withdrawing maps for both (R167, R183). -/

namespace Sys2Proof.Machine

/-- One allocation structure of a map, field by field (R179): Alloc-ID, start time and grant size in octets, flags and burst profile. -/
structure MapStruct where
  alloc : Nat
  start : Nat
  size : Nat
  flags : Nat
  profile : Nat
  deriving DecidableEq, Repr

end Sys2Proof.Machine

namespace Sys2Proof.Config

/-- The Alloc-ID of a serial-number grant of a tree mode; the standards of R79 fix it. -/
opaque snAllocId : Bool → BitVec 14

/-- The octets of an allocation structure of a bandwidth map, by tree mode; the standards of R79 fix them. -/
opaque structOctets : Bool → Machine.MapStruct → List Byte

end Sys2Proof.Config

namespace Sys2Proof.Machine

/-! ## The cores -/

/-- The Mirror core in service. -/
def State.mirService (s : State) : Option Nat :=
  if s.get MIR_STATUS.core0 = 0 then some 0 else if s.get MIR_STATUS.core1 = 0 then some 1 else none

/-- Both Mirror cores are retired, or MIRROR has become Failed and no new reset of it has reached Rejoin (R184, R502). -/
def State.unmirrored (s : State) : Bool := s.mir.retired == 3 || s.mir.failed

/-- A Mirror core builds maps. -/
def State.mirRuns (s : State) : Bool := s.up 11 && s.mirService.isSome

/-! ## The copy (R178) -/

/-- The Mirror keeps a copy of a tree's dynamic state. -/
def State.mirrors (s : State) (t : Nat) : Bool := s.privTree t && s.mirRuns && !s.mir.takeAll

/-- The state as the Mirror sees it: its own copy in place of the Grant Engine's dynamic state, its own maps in place of the others. -/
def State.toMir (s : State) : State :=
  { s with
    allocs := s.allocs.map fun e =>
      let d := mgetD e.1 (0, 0) s.mir.copy.dyn
      if s.privTree (e.1 / 512) then (e.1, { e.2 with age := d.1, outstanding := d.2 }) else e
    ge := { s.ge with rrPtr := s.mir.copy.rr, agr := s.mir.copy.agr, maps := s.mir.maps } }

/-- The dynamic state of the trees that satisfy a condition. -/
def State.dynOf (s : State) (p : Nat → Bool) : MirCopy :=
  { dyn := (s.allocs.filter fun e => p (e.1 / 512)).map fun e => (e.1, e.2.age, e.2.outstanding)
    rr := s.ge.rrPtr.filter fun e => p e.1, agr := s.ge.agr.filter fun r => p r.tree }

/-- The Mirror's copy and maps taken from a state as the Mirror saw it. -/
def State.fromMir (s m : State) : State :=
  { s with mir := { s.mir with copy := m.dynOf s.privTree, maps := m.ge.maps.filter fun x => s.privTree x.tree } }

/-- An event of a tree takes effect on the Grant Engine's state and, where the tree is mirrored, on the Mirror's copy (R178). -/
def State.both (s : State) (t : Nat) (f : State → State) : State := f (if s.mirrors t then s.fromMir (f s.toMir) else s)

/-- An event of map k of a tree takes effect on the Grant Engine's map and on the Mirror's (R178, R183). -/
def State.onMap (s : State) (f : State → GMap → State) (t k : Nat) : State :=
  s.both t fun s => match s.gmap t k with | some m => f s m | none => s

/-- The Mirror's copy of the privileged trees that satisfy a condition is replaced by the Grant Engine's state (R180, R182, R187). -/
def State.takeMirror (s : State) (p : Nat → Bool) : State :=
  let q (t : Nat) : Bool := p t && s.privTree t
  let c := s.mir.copy
  let d := s.dynOf q
  { s with mir := { s.mir with
    copy := {
      dyn := d.dyn.foldl (fun l e => mset e.1 e.2 l) (c.dyn.filter fun e => !p (e.1 / 512))
      rr := d.rr.foldl (fun l e => mset e.1 e.2 l) (c.rr.filter fun e => !p e.1)
      agr := (c.agr.filter fun r => !p r.tree) ++ d.agr }
    maps := (s.mir.maps.filter fun m => !p m.tree) ++ s.ge.maps.filter fun m => q m.tree } }

/-- The Mirror's copy is replaced where that is due: of every privileged tree, or of the trees whose checks have passed (R180, R182,
R187). -/
def State.takeDue (s : State) : State :=
  let r := s.mir.ready
  let s1 := if !s.mirRuns then s
    else if s.mir.takeAll then s.takeMirror fun _ => true
    else if r.isEmpty then s else s.takeMirror r.contains
  if s.mirRuns then { s1 with mir := { s1.mir with takeAll := false, ready := [] } } else s1

/-- An upset of the Mirror's copy of one allocation. -/
def State.mirUpset (s : State) (t i age out : Nat) : State :=
  if s.mirrors t then
    { s with mir := { s.mir with copy := { s.mir.copy with dyn := mset (t * 512 + i) (age, out) s.mir.copy.dyn } } }
  else s

/-! ## The comparison (R179) -/

/-- The structures of a slot: its allocations one after another from its first payload octet, or the one structure to the default
Alloc-ID, which equals the ONU-ID (R223). -/
def Slot.structs (x : Slot) (l : List SnapAlloc) : List MapStruct :=
  let fec := if x.fec then 2 else 0
  if x.allocs.isEmpty then [⟨x.onu, x.start + x.ovh, x.calOct, fec, x.profile⟩]
  else
    (x.allocs.foldl (fun (a : Nat × List MapStruct) e =>
      let w := ((l.find? fun y => y.idx == e.1).map (·.w0)).getD 0
      (a.1 + e.2, a.2 ++ [⟨aId w, a.1, e.2, fec + (if aDbru w then 1 else 0), x.profile⟩])) (x.start + x.ovh, [])).2

/-- The structure list of a map in serialisation order: serial-number and ranging grants, then the slots by start. -/
def State.mapStructs (s : State) (m : GMap) : List MapStruct :=
  let pre := m.reserved.filter fun x => x.kind != .inService
  let l := m.slots.mergeSort fun a b => decide (a.start ≤ b.start)
  (pre.map fun x => MapStruct.mk (if x.kind = .serial then (Config.snAllocId (s.isXgs m.tree)).toNat else x.onu) x.start x.len
    (if x.fec then 2 else 0) x.profile) ++ l.flatMap fun x => x.structs m.snap

/-- The CRC-64 of a structure list (R179). -/
def State.structCrc (s : State) (t : Nat) (l : List MapStruct) : Nat := crc64 (l.flatMap (Config.structOctets (s.isXgs t)))

/-- The first place in which two lists of one length differ. -/
def firstDiff : List MapStruct → List MapStruct → Nat → Option Nat
  | a :: l, b :: r, i => if a = b then firstDiff l r (i + 1) else some i
  | _, _, _ => none

/-- The Mirror's map k of a tree. -/
def State.mirMap (s : State) (t k : Nat) : Option GMap := s.mir.maps.find? fun m => m.tree == t && m.k == k

/-- What the comparator finds between the two maps k of a tree (R179): kind and index of MIR_LAST_MISMATCH, none where they agree or where
one of them has not been built. -/
def State.compareMaps (s : State) (t k : Nat) : Option (Nat × Nat) :=
  match s.gmap t k, s.mirMap t k with
  | some g, some m =>
    let a := s.mapStructs g
    let b := s.mapStructs m
    if a.length ≠ b.length then some (1, 0x1FF)
    else match firstDiff a b 0 with
      | some i => some (2, i)
      | none => if s.structCrc t a = s.structCrc t b then none else some (2, 0)
  | _, _ => none

/-- A mismatch on map k of a tree (R179, R180, R186). -/
def State.mismatchAt (s : State) (t k kind index : Nat) : State :=
  match s.gmap t k with
  | none => s
  | some m =>
    if !s.privTree t || !(s.mirRuns || (s.up 11 && s.mir.loading.isSome)) then s
    else
      let s1 := (s.setMap { m with replace := true }).inc MIR_MISMATCH_CNT.count
      let s2 := (((s1.put MIR_LAST_MISMATCH.tree t).put MIR_LAST_MISMATCH.kind kind).put MIR_LAST_MISMATCH.index index).put
        MIR_LAST_MISMATCH.sfc (s1.get (TE_SFC.sfc t) + (k - s1.ge.k))
      let s3 := (s2.set1 MIR_EVENT.mismatch).tlogEvent .mir 0 t
      let s4 := if kind = 3 then s3.set1 MIR_EVENT.late else s3
      { s4 with mir := { s4.mir with
        checkDue := s4.mir.checkDue || s4.mir.loading.isNone
        resync := if t ∈ s4.mir.resync then s4.mir.resync else s4.mir.resync ++ [t] } }

/-- The comparison of the two maps k of a tree (R179). -/
def State.comparePair (s : State) (t k : Nat) : State :=
  match s.compareMaps t k with
  | some d => s.mismatchAt t k d.1 d.2
  | none => s

/-- Checks that are due, or forced by the host, begin once a build has ended (R180, R181). -/
def State.checkBegins (s : State) (forced : Bool) : State :=
  { s with mir := { s.mir with
    checking := s.mir.checking || s.mir.checkDue || (forced && s.mir.forced), checkDue := false
    forced := s.mir.forced && !forced } }

/-! ## Rebuilding and withdrawing (R167, R183) -/

/-- An open map is rebuilt by both, and a pair that had been built is compared again (R183). -/
def State.rebuildPair (s : State) (t : Nat) (m : GMap) : State :=
  let s1 := s.onMap State.rebuildMap t m.k
  if m.stage = MapStage.built && s1.mirrors t then (s1.comparePair t m.k).checkBegins false else s1

/-- The open maps of a tree are rebuilt (R167). -/
def State.rebuildOpen (s : State) (t : Nat) : State :=
  (s.ge.maps.filter fun m => m.tree == t && m.isOpen).foldl (State.rebuildPair · t) s

/-- The maps that satisfy a condition are withdrawn (R167). -/
def State.withdrawWhere (s : State) (p : GMap → Bool) : State :=
  (s.ge.maps.filter p).foldl (fun s m => s.onMap State.withdraw m.tree m.k) s

/-- Grants of a tree leave outstanding (R152). -/
def State.grantsGone (s : State) (t : Nat) (l : List (Nat × Nat)) : State := s.both t fun s => s.subOutstanding t l

/-- Grants of a tree that no map of the Grant Engine made enter outstanding (R152, R190). -/
def State.grantsOut (s : State) (t : Nat) (l : List (Nat × Nat)) : State := s.both t fun s => s.addOutstanding t l

end Sys2Proof.Machine
end

