-- ==== Sys2Proof/Machine/Terminals.lean ====
section
/-! DEFINITION. What happens to a terminal context (R114 to R144): entering and leaving Operation, deregistration, drift,
in-service ranging, trunk correction, re-activation, and the loss of the ranging bank. -/

namespace Sys2Proof.Config

/-- Units of the Ranging_Time message of a tree mode in 125 µs (R127); the standards of R79 fix the unit. -/
opaque rangingUnits : Bool → Nat

end Sys2Proof.Config

namespace Sys2Proof.Machine

/-- A downstream PLOAM message of the hardware is queued (R117). Destination 0x3FF is every terminal. -/
def State.pushMsg (s : State) (t : Nat) (m : Ploam) : State := s.modTree t fun x => { x with hwPloam := x.hwPloam ++ [m] }

/-- A downstream PLOAM message of the hardware without a content that the spec states. -/
def State.pushPloam (s : State) (t onu : Nat) (kind : PloamKind) (arg : Int) : State := s.pushMsg t { onu := onu, kind := kind, arg := arg }

/-- Burst_Profile message p of a tree: the profile's number and the contents of BC_PROF_n_p (R116, R211). -/
def State.profileMsg (s : State) (t onu p : Nat) : Ploam :=
  { onu := onu, kind := .burstProfile, arg := p, body := octetsBE 1 p ++ octetsBE 4 (wordOf (bcProfFields t p) s.get) }

/-- Policy firmware queues a message (R116, R117). -/
def State.fwMessage (s : State) (t onu : Nat) (kind : PloamKind) (body : List Byte) : State :=
  s.modTree t fun x => { x with fwPloam := x.fwPloam ++ [{ onu := onu, kind := kind, body := body }] }

/-- Policy firmware disables or enables a serial number (R121). -/
def State.serialOff (s : State) (t : Nat) (sn : BitVec 64) (off : Bool) : State :=
  s.modTree t fun x => { x with
    disabledSn := (x.disabledSn.filter fun y => y != sn) ++ (if off then [sn] else []) }

/-- A message for policy firmware: channel, ONU-ID, length, octets (R116, R513). -/
def State.toFirmware (s : State) (t onu : Nat) (msg : List Byte) : State :=
  s.workItem 4 t 0 (octetsBE 1 0 ++ octetsBE 1 onu ++ octetsBE 2 msg.length ++ msg)

/-- Terminals of a tree in Operation (TE_STATUS.active). -/
def State.activeCount (s : State) (t : Nat) : Nat :=
  ((s.termsOf t).filter fun e => decide (e.2.state = .operation)).length

/-- Terminals of a tree in Held (TE_RNG_STATUS.held). -/
def State.heldCount (s : State) (t : Nat) : Nat := ((s.termsOf t).filter fun e => decide (e.2.state = .held)).length

/-- A tree is Active while a terminal is in Operation, else Lit (R100). -/
def State.litOrActive (s : State) (t : Nat) : State :=
  if s.treeState t = 2 ∨ s.treeState t = 3 then
    s.put (TE_STATUS.state t) (if 0 < s.activeCount t then 3 else 2)
  else s

/-- The terminal has an enabled fixed allocation (R188). -/
def State.hasFixed (s : State) (t onu : Nat) : Bool := (s.allocsOf t).any fun e => e.2.fixedOn && aOnu e.2.w0 == onu

/-- What follows a change of the set of terminals in Operation: the tree's state and the Fallback Map (R100, R188). -/
def State.opChanged (s : State) (t onu : Nat) : State :=
  let s1 := s.litOrActive t
  if s1.hasFixed t onu then s1.rebuildFallback t else s1

/-- A re-activation ends when no context is Held, and no record is unknown on a tree without discovery (R131, R143). -/
def State.rerangeCheck (s : State) (t : Nat) : State :=
  let busy := decide (0 < s.heldCount t) ||
    (s.on (TE_RNG_STATUS.no_discovery t) && (List.range 256).any fun o => (s.term t o).unknown)
  if busy then s else s.put (TE_RNG_STATUS.rerange_active t) 0

/-- The ranging window of a terminal carries no grant any longer; its silence stays (R124). -/
def State.dropWindow (s : State) (t onu : Nat) : State :=
  s.setWindows t ((s.windowsOf t).map fun w => if w.onu = some onu then { w with onu := none, silent := true } else w)

/-- The KEK slot of a terminal is overwritten and emptied (R371). -/
def State.dropKek (s : State) (t onu : Nat) : State := { s with kv := { s.kv with keks := mdel (termKey t onu) s.kv.keks } }

/-- A context becomes Free (R114, R371). The cause of its last deregistration stays in its record. -/
def State.toFree (s : State) (t onu : Nat) : State :=
  let s1 := (s.dropWindow t onu).modTerm t onu fun x => { lastCause := x.lastCause, unknown := x.unknown }
  (((s1.uncalibrate t onu).dropTemp t onu).dropReq t onu).dropKek t onu

/-- The tree-layer keys of a deactivated terminal are lost (R131). -/
def State.loseKeys (s : State) (t onu : Nat) : State :=
  s.modTree t fun x => { x with ukeys := x.ukeys.filter fun e => e.1 / 4 != onu }

/-- The slots of accepted frames queued for a terminal: frames to the tree whose port-table entry names it (R84, R135). -/
def State.termFrames (s : State) (t onu : Nat) : List Nat :=
  s.framesWhere fun h _ => match s.flowPart h.flow with
    | some p => p.kind == 0 && p.target % 32 == t && bitsOf (s.portEntry t h.ptidx) 40 8 == onu &&
        bitsOf (s.portEntry t h.ptidx) 57 2 != 2
    | none => false

/-- The Trouble Log entry of a deregistration (R135). The spec gives its arg no bit position: that part is open. -/
def State.deregLog (s : State) (t : Nat) : State := (s.tlogEvent .te s.freeVal t).drawn

/-- Deregistration (R135, R371). -/
def State.dereg (s : State) (t onu cause : Nat) : State :=
  let wasOp := s.operating t onu
  let s1 := s.modTree t fun x => { x with
    hwPloam := x.hwPloam.filter fun m => !(m.onu == onu && decide (m.kind = .rangingTime)) }
  let s2 := if cause = 7 then s1 else s1.pushPloam t onu .deactivate 0
  let s3 := (s2.dropWindow t onu).modTerm t onu fun x => { x with
    state := .quarantine, lastCause := cause, step := .none, retries := 0, resent := false, offsets := [], correcting := false
    acks := 0, holdFrames := 0, misses := 0, inService := false, isTries := 0 }
  let s4 := ((((s3.uncalibrate t onu).dropTemp t onu).dropReq t onu).dropKek t onu).loseKeys t onu
  let s5 := { s4 with ge := { s4.ge with inService := s4.ge.inService.filter fun e => !(e.1 == t && e.2 == onu) } }
  let s6 := ((s5.inc (TE_DEREG_CNT.count t)).put (TE_DEREG_LAST.cause t) cause).put (TE_DEREG_LAST.onu t) onu
  let s7 := (s6.deregLog t).rebuildOpen t
  let s8 := if wasOp then s7.opChanged t onu else s7
  let s9 := s8.rerangeCheck t
  if cause = 7 then s9 else s9.undeliverables 1 (s9.termFrames t onu)

/-- A context enters Operation (R126, R222). -/
def State.toOperation (s : State) (t onu : Nat) : State :=
  ((s.modTerm t onu fun x => { x with state := .operation, step := .none, retries := 0, misses := 0, offsets := [] }).opChanged
    t onu).raiseFor t onu

/-- A context that a response has bound becomes Acquired and starts the Place step, in which it is in Ranging (R121, R126). DEDUCED (log
38): Place begins in the cycle in which the context enters Acquired, so no read shows that state. -/
def State.toAcquired (s : State) (t onu respNs : Nat) : State :=
  (s.modTerm t onu fun x => { x with
    state := .ranging, step := .place, retries := 0, resent := false, respNs := respNs, correcting := false, acks := 0, holdFrames := 0 })

/-- The Place step: a ranging window is placed for a terminal, whose Range step follows (R126). -/
def State.tryPlace (s : State) (t onu : Nat) : State :=
  let s1 := s.placeRanging t onu
  if s1.rangingPlaced t onu then s1.modTerm t onu fun x => { x with step := .range } else s1

/-- A terminal whose ranging window will not come is back in Place, its retries unchanged (R142). -/
def State.placeAgain (s : State) (t onu : Nat) : State :=
  if (s.term t onu).step = .range then s.modTerm t onu fun x => { x with step := .place } else s

/-- Place is tried again for every terminal of a tree that waits for a window (R126). -/
def State.placeWaiting (s : State) (t : Nat) : State :=
  (s.termsOf t).foldl (fun s e => if e.2.step = .place then s.tryPlace t e.1 else s) s

/-- Assign_ONU-ID, and after it the burst profiles to the terminal alone (R116). -/
def State.assign (s : State) (t onu : Nat) : State :=
  (List.range 4).foldl (fun s p => s.pushMsg t (s.profileMsg t onu p)) (s.pushPloam t onu .assignOnuId onu)

/-! ## Ranging (R125 to R133) -/

/-- TEQ and RMAX of a tree in bit periods (R125). -/
def State.teqBits (s : State) (t : Nat) : Nat := s.nsBits t (s.teqNs t)
def State.rmaxBits (s : State) (t : Nat) : Nat := s.nsBits t (10000 * (s.treeEntry t).maxReachKm)

/-- An equalisation delay lies within the bounds of R128. -/
def State.eqdOk (s : State) (t : Nat) (e : Int) : Bool :=
  decide (((s.teqBits t - s.rmaxBits t : Nat) : Int) ≤ e) && decide (e ≤ (s.teqBits t : Int))

/-- Quotient to the nearest whole number. -/
def nearest (x : Int) (n : Nat) : Int := if 0 ≤ x then (2 * x + n) / (2 * n) else -((2 * -x + n) / (2 * n))

/-- Mean of some offsets, to the nearest bit period. DESIGN CHOICE (log 33). -/
def meanOf (l : List Int) : Int := if l.isEmpty then 0 else nearest (l.foldl (· + ·) 0) l.length

/-- A delay in bit periods in the unit of the Ranging_Time message, to the nearest (R127). -/
def State.rangingArg (s : State) (t : Nat) (bits : Int) : Int :=
  nearest (bits * (Config.rangingUnits (s.isXgs t) : Int)) (8 * s.frameOctets125 t)

/-- A Ranging_Time is queued, from which on offsets and measurements of the terminal are not used until 2 tree frames after its
Acknowledgement; a Calibrated profile of the terminal becomes Stale with cause 0x4 (R116, R128, R217, R220). -/
def State.sendRanging (s : State) (t onu : Nat) (bits : Int) : State :=
  ((s.pushPloam t onu .rangingTime (s.rangingArg t bits)).makeStale t onu 4).modTerm t onu fun x => { x with
    correcting := true, acks := x.acks + 1, holdFrames := 0, offsets := [] }

/-- An Acknowledgement of a Ranging_Time: after the last one outstanding, the two tree frames of R128 begin. A burst that arrives in the
tree frame under way is not of the two, so the span ends at the third tick (DESIGN CHOICE, log 145). -/
def Term.acked (x : Term) : Term :=
  if !x.correcting ∨ x.acks = 0 then x
  else { x with acks := x.acks - 1, holdFrames := if x.acks = 1 then 3 else x.holdFrames }

/-- A relative Ranging_Time is sent and EqD changed by it (R128, R132, R133); a correction out of bounds deregisters the terminal
with cause 0x3 and is not sent. -/
def State.correctEqd (s : State) (t onu : Nat) (d : Int) : State :=
  let x := s.term t onu
  if !x.unknown && !s.eqdOk t ((x.eqd : Int) + d) then s.dereg t onu 3
  else (s.sendRanging t onu d).modTerm t onu fun x => { x with
    eqd := if x.unknown then x.eqd else ((x.eqd : Int) + d).toNat }

/-- A signed offset kept in the 7-bit drift field (R144), saturating. -/
def driftOf (x : Int) : Int := max (-64) (min 63 x)

/-- The offset of a confirmed burst of a terminal in Operation (R128). -/
def State.noteOffset (s : State) (t onu : Nat) (off : Int) : State :=
  let x := s.term t onu
  if x.correcting then s
  else
    let n := max 1 (s.get (TE_RNG_CFG.drift_n t))
    let l := x.offsets ++ [off]
    let l := l.drop (l.length - n)
    let s1 := s.modTerm t onu fun x => { x with offsets := l, drift := driftOf (meanOf l) }
    if l.length = n ∧ l.all fun o => decide (s.get (TE_RNG_CFG.drift_bits t) < o.natAbs) then
      let s2 := s1.correctEqd t onu (-(meanOf l))
      if s2.operating t onu then s2.inc (TE_DRIFT_ADJ_CNT.count t) else s2
    else s1

/-- In-service ranging of a terminal is asked of the Grant Engine (R132). -/
def State.askInService (s : State) (t onu : Nat) : State :=
  if s.ge.inService.any fun e => e.1 == t && e.2 == onu then s
  else { s with ge := { s.ge with inService := s.ge.inService ++ [(t, onu)] } }

/-- In-service ranging begins (R132). -/
def State.startInService (s : State) (t onu : Nat) : State :=
  (s.modTerm t onu fun x => { x with inService := true, isTries := 0 }).askInService t onu

/-- A context in Operation moves to Held, its frames kept (R131, R132). DEDUCED (log 37): open maps are rebuilt without it, as a
Held context has no data grants (R114). -/
def State.toHeld (s : State) (t onu : Nat) : State :=
  let s1 := (s.modTerm t onu fun x => { x with
    state := .held, step := .none, inService := false, correcting := false, acks := 0, holdFrames := 0, offsets := [], misses := 0 }).dropReq t onu
  let s2 := { s1 with ge := { s1.ge with inService := s1.ge.inService.filter fun e => !(e.1 == t && e.2 == onu) } }
  (s2.loseKeys t onu).opChanged t onu

/-- The burst of in-service ranging was confirmed with an offset (R132). -/
def State.inServiceOk (s : State) (t onu : Nat) (off : Int) : State :=
  (s.modTerm t onu fun x => { x with inService := false, isTries := 0 }).correctEqd t onu (-off)

/-- The burst of in-service ranging was missed (R132). -/
def State.inServiceMiss (s : State) (t onu : Nat) : State :=
  let x := s.term t onu
  if x.isTries < s.get (TE_ACT_CFG.rng_retries t) then
    (s.modTerm t onu fun x => { x with isTries := x.isTries + 1 }).askInService t onu
  else ((s.toHeld t onu).rebuildOpen t).pushPloam t onu .deactivate 0

/-- A granted burst of a terminal was missed (R129). -/
def State.noteMiss (s : State) (t onu : Nat) : State :=
  if !s.operating t onu then s
  else
    let n := (s.term t onu).misses + 1
    let s1 := s.modTerm t onu fun x => { x with misses := n }
    if max 1 (s.get (TE_RNG_CFG.lob_n t)) ≤ n then s1.dereg t onu 2 else s1

/-- The terminals of a tree in a state. -/
def State.inState (s : State) (t : Nat) (p : TermState → Bool) : List Nat :=
  ((s.termsOf t).filter fun e => p e.2.state).map (·.1)

/-- Contexts between Acquired and Ranged (R131, R139). -/
def TermState.early : TermState → Bool
  | .acquired | .ranging | .ranged => true
  | _ => false

/-- The trunk that a tree leaves and the one it takes differ in length (R133). -/
def State.trunkDelta (s : State) (t : Nat) : Int :=
  let a : Asym := mgetD t {} s.struct.asym
  let d : Int := (a.len0 : Int) - (a.len1 : Int)
  let d := if s.on (TE_TRUNK.active t) then d else -d
  s.psBits t (d * (s.get (TE_TRUNK.rt_ps_per_m t) : Int))

/-- The correction of one terminal after a change of trunk (R133). -/
def State.trunkTerm (t : Nat) (d : Int) (s : State) (onu : Nat) : State :=
  let s1 := s.correctEqd t onu d
  if s1.operating t onu then s1.startInService t onu else s1.set1 (TE_RNG_EVENT.trunk_reach t)

/-- The trunk correction of a tree at switch-over (R133): none where the lengths are equal. -/
def State.trunkCorrect (s : State) (t : Nat) : State :=
  let a : Asym := mgetD t {} s.struct.asym
  if a.len0 = a.len1 then s
  else (s.inState t fun x => decide (x = .operation)).foldl (State.trunkTerm t (s.trunkDelta t)) s

/-- Re-activation of a whole tree (R131). -/
def State.reactivate (s : State) (t : Nat) : State :=
  let s1 := (s.inState t TermState.early).foldl (fun s o => s.toFree t o) s
  let ops := s1.inState t fun x => decide (x = .operation)
  let s2 := ops.foldl (fun s o => s.toHeld t o) s1
  let s3 := if ops.isEmpty then s2 else s2.rebuildOpen t
  let s4 := ((s3.pushPloam t 0x3FF .deactivate 0).set1 (TE_RNG_EVENT.rerange_all t)).put (TE_RNG_STATUS.rerange_active t) 1
  s4.rerangeCheck t

/-- The ranging bank of a tree has failed (R115, R131, R144). -/
def State.rangingBankLost (s : State) (t : Nat) : State :=
  let s1 := (List.range 256).foldl (fun s o => s.modTerm t o fun x => { x with unknown := true }) s
  if s.on (TE_RNG_STATUS.no_discovery t) then
    (s1.set1 (TE_RNG_EVENT.rerange_all t)).put (TE_RNG_STATUS.rerange_active t) 1
  else s1.reactivate t

/-! ## Terminal records (R144) -/

/-- The state code of a record (R144). -/
def TermState.code : TermState → Nat
  | .free => 0 | .acquired => 1 | .ranging => 2 | .ranged => 3 | .operation => 4 | .held => 5 | .quarantine => 6

/-- The state of a code; 0b111 is not used. -/
def stateOfCode (n : Nat) : Option TermState :=
  [TermState.free, .acquired, .ranging, .ranged, .operation, .held, .quarantine][n]?

/-- A word of a terminal record as a read returns it (R144). -/
def Term.wordAt (x : Term) (w : Nat) : BitVec 64 :=
  if w = 0 then x.serial
  else
    let top := x.state.code <<< 61 ||| x.lastCause % 16 <<< 57
    if x.unknown then BitVec.ofNat 64 (top ||| 0x1FFFFFF <<< 32 ||| 0x1FFFFFF <<< 7)
    else BitVec.ofNat 64 (top ||| x.rtd % 2 ^ 25 <<< 32 ||| x.eqd % 2 ^ 25 <<< 7 ||| toBits x.drift 7)

/-- The ranging fields of word 1 are taken from a write. -/
def Term.ranged (x : Term) (d : Nat) : Term :=
  { x with rtd := bitsOf d 32 25, eqd := bitsOf d 7 25, drift := signedOf d 7, unknown := false }

/-- What follows a state that a record write gives a context (R222, R225, R371): in Operation its request is raised, out of it the request
is withdrawn; entering Quarantine or Free, its profile becomes Uncalibrated and its KEK is gone; a context re-bound from Held has a Stale
profile. -/
def State.termState (s : State) (t onu : Nat) (old new : TermState) : State :=
  let s1 := if new = .operation then s.raiseFor t onu else s.dropReq t onu
  if new = .free ∨ new = .quarantine then (((s1.uncalibrate t onu).dropTemp t onu).dropKek t onu)
  else if old = .held ∧ (new = .acquired ∨ new = .ranging) then s1.rebindStale t onu
  else s1

/-- A write of a word of a terminal record (R144). DESIGN CHOICE (log 39): the unused state code leaves the state as it is. -/
def State.termWrite (s : State) (t onu w : Nat) (d : BitVec 64) : State :=
  let x := s.term t onu
  if w = 1 ∧ x.unknown then (s.modTerm t onu fun x => x.ranged d.toNat).rerangeCheck t
  else if s.treeState t = 1 ∨ !s.laserPermit t then
    if w = 0 then s.modTerm t onu fun x => { x with serial := d }
    else
      let st := (stateOfCode (bitsOf d.toNat 61 3)).getD x.state
      let s1 := ((s.modTerm t onu fun x => { x.ranged d.toNat with state := st, lastCause := bitsOf d.toNat 57 4 }).opChanged
        t onu).rerangeCheck t
      s1.termState t onu x.state st
  else s.set1 (TE_RNG_EVENT.cmd_refused t)

end Sys2Proof.Machine
end

