-- ==== Sys2Proof/Machine/Activation.lean ====
section
/-! DEFINITION. The commands of activation and ranging (R114 to R144). -/

namespace Sys2Proof.Machine

/-- A context is Free. -/
def State.anyFree (s : State) (t : Nat) : Option Nat :=
  (List.range 256).find? fun o => decide ((s.term t o).state = .free)

/-- The tree island and the Grant Engine work on a tree (R36, R196). -/
def State.treeRuns (s : State) (t : Nat) : Bool := s.up (treeIsl t) && s.up 10 && !s.protBlocked t

/-- An acquisition cycle runs (R118, R120, R131). -/
def State.cycleRuns (s : State) (t : Nat) : Bool :=
  s.treeRuns t && s.isLit t && !s.on (TE_RNG_STATUS.no_discovery t) &&
    (s.on (TE_RNG_STATUS.rerange_active t) || (s.on (TE_ACT_CFG.disc_en t) && (s.anyFree t).isSome))

/-- SN_ACQUISITION_CYCLE (R118): one broadcast serial-number grant with its quiet window, or the cycle is skipped. -/
def execSnAcquisitionCycle (t : Tree) (s : State) : Host.Outcome State Fault Refusal :=
  if s.cycleRuns t.val then (s.placeQuiet t.val).done else s.done

/-- A quiet window of the tree is on the fibre and holds an arrival, in ns after z of its grant (R119, R121). -/
def State.inQuiet (s : State) (t arrival : Nat) : Bool :=
  let lead := 10000 * ((s.treeEntry t).maxReachKm - (s.treeEntry t).diffReachKm)
  decide (lead ≤ arrival) && decide (arrival < lead + s.quietNs t) &&
    (s.windowsOf t).any fun w => w.serialised && w.onu.isNone && !w.silent

/-- The context that holds a serial number, other than Free. -/
def State.holderOf (s : State) (t : Nat) (sn : BitVec 64) : Option (Nat × Term) :=
  (s.termsOf t).find? fun e => e.2.serial == sn

/-- A response of an unassigned terminal goes to firmware; the ONU-ID octet of the item is open. -/
def State.responseToFirmware (s : State) (t : Nat) (msg : List Byte) : State :=
  (s.toFirmware t (s.freeVal % 256) msg).drawn

/-- A confirmed response in the order of R121. -/
def State.respond (s : State) (t : Nat) (sn : BitVec 64) (resp : Nat) (msg : List Byte) : State :=
  if (s.tree t).disabledSn.contains sn then s.responseToFirmware t msg
  else match s.holderOf t sn with
    | some (o, x) =>
      if x.state = .held then
        (((((s.toAcquired t o resp).rebindStale t o).assign t o).rerangeCheck t)).tryPlace t o
      else (s.set1 (TE_RNG_EVENT.dup_serial t)).responseToFirmware t msg
    | none => match s.anyFree t with
      | some o =>
        ((((((s.modTerm t o fun x => { x with serial := sn }).uncalibrate t o).dropTemp t o).toAcquired t o resp).assign t o)).tryPlace t o
      | none => s

/-- A confirmed Serial_Number_ONU is counted; one that fails its integrity check is counted and discarded (R116, R121). -/
def State.responseIn (s : State) (t : Nat) (sn : BitVec 64) (resp : Nat) (micOk : Bool) (msg : List Byte) : State :=
  let s1 := s.inc (TE_SN_RESP_CNT.count t)
  if micOk then s1.respond t sn resp msg else s1.inc (TE_PLOAM_MIC_CNT.count t)

/-- SN_RESPONSE (R121): the candidates of a quiet window that failed their HEC check are counted, and a confirmed response, if there is one,
is handled. -/
def execSnResponse (t : Tree) (serial : BitVec 64) (delayNs arrivalNs : BitVec 32) (hecFails : BitVec 8) (msg : SnMessage) (s : State) :
    Host.Outcome State Fault Refusal :=
  if s.treeRuns t.val && s.inQuiet t.val arrivalNs.toNat then
    let s1 := (s.incBy (TE_SN_COLL_CNT.count t.val) hecFails.toNat).incBy (TE_DELIM_FALSE_CNT.count t.val) hecFails.toNat
    (if msg.confirmed then s1.responseIn t.val serial (arrivalNs.toNat - delayNs.toNat) msg.micOk msg.octets else s1).done
  else s.done

/-- RANGING_PLACE_TIMEOUT (R126): 16 tree frames without a placement. -/
def execRangingPlaceTimeout (t : Tree) (onu : BitVec 8) (s : State) : Host.Outcome State Fault Refusal :=
  if (s.term t.val onu.toNat).step = .place then
    ((s.toFree t.val onu.toNat).inc (TE_RNG_FAIL_CNT.count t.val)).done
  else s.done

/-- A ranging window of a terminal is on the fibre. -/
def State.rangingOpen (s : State) (t onu : Nat) : Bool := (s.windowsOf t).any fun w => w.serialised && w.onu == some onu

/-- The measurement of R127 from the time of the delimiter after z in bit periods. -/
def State.measureRange (s : State) (t onu delim : Nat) : State :=
  let rtd := delim - 8 * s.preOct t 3
  let s1 := s.dropWindow t onu
  if s.rmaxBits t < rtd then s1.dereg t onu 3
  else
    let eqd := s.teqBits t - rtd
    (s1.modTerm t onu fun x => { x with rtd := rtd, eqd := eqd, drift := 0, unknown := false, step := .equalise, resent := false }).sendRanging
      t onu eqd

/-- A delimiter after z in bit periods lies in the ranging window of a terminal: 48 µs before to 4 µs after the arrival that its response
implies (R126). -/
def State.inRangingWindow (s : State) (t onu delim : Nat) : Bool :=
  let a := s.bitsNs t delim
  let r := (s.term t onu).respNs
  decide (r ≤ a + 48000) && decide (a < r + 4000)

/-- REGISTRATION_BURST (R126, R127): of a burst confirmed in the window RTD is measured and EqD computed, or the terminal is out of
reach. -/
def execRegistrationBurst (t : Tree) (onu : BitVec 8) (delimBits : BitVec 25) (s : State) :
    Host.Outcome State Fault Refusal :=
  if s.treeRuns t.val && decide ((s.term t.val onu.toNat).step = .range) && s.rangingOpen t.val onu.toNat &&
      s.inRangingWindow t.val onu.toNat delimBits.toNat then
    (s.measureRange t.val onu.toNat delimBits.toNat).done
  else s.done

/-- RANGE_WINDOW_TIMEOUT (R126): the window closed without a Registration. -/
def execRangeWindowTimeout (t : Tree) (onu : BitVec 8) (s : State) : Host.Outcome State Fault Refusal :=
  let x := s.term t.val onu.toNat
  if decide (x.step = .range) && s.rangingOpen t.val onu.toNat then
    if x.retries < s.get (TE_ACT_CFG.rng_retries t.val) then
      (((s.dropWindow t.val onu.toNat).modTerm t.val onu.toNat fun y => { y with
        step := .place, retries := y.retries + 1 }).tryPlace t.val onu.toNat).done
    else (s.dereg t.val onu.toNat 4).done
  else s.done

/-- The absolute Ranging_Time has been acknowledged (R126). -/
def State.ranged (s : State) (t onu : Nat) : State :=
  s.modTerm t onu fun x => { x.acked with state := .ranged, step := .approve, resent := false }

/-- RANGING_TIME_ACK (R126). -/
def execRangingTimeAck (t : Tree) (onu : BitVec 8) (s : State) : Host.Outcome State Fault Refusal :=
  if (s.term t.val onu.toNat).step = .equalise then (s.ranged t.val onu.toNat).done else s.done

/-- EQUALISE_TIMEOUT (R126): Ranging_Time is sent once more, then the terminal is deregistered. -/
def execEqualiseTimeout (t : Tree) (onu : BitVec 8) (s : State) : Host.Outcome State Fault Refusal :=
  let x := s.term t.val onu.toNat
  if x.step = .equalise then
    if x.resent then (s.dereg t.val onu.toNat 4).done
    else ((s.sendRanging t.val onu.toNat x.eqd).modTerm t.val onu.toNat fun y => { y with resent := true, acks := 1 }).done
  else s.done

/-! ## TE_TERM_CMD -/

/-- The command in TE_TERM_CMD. -/
def State.termCmdFields (s : State) (t cmd onu : Nat) : State :=
  (s.put (TE_TERM_CMD.cmd t) cmd).put (TE_TERM_CMD.onu t) onu

/-- A command without meaning where it stands (R141). -/
def State.termRefused (s : State) (t : Nat) : State := s.set1 (TE_RNG_EVENT.cmd_refused t)

/-- Command 0x1: approve (R126, R141). -/
def State.approve (s : State) (t onu : Nat) : State :=
  if s.treeState t ≤ 1 ∨ (s.term t onu).state ≠ .ranged then s.termRefused t else s.toOperation t onu

/-- Command 0x2: deregister (R134, R141). -/
def State.deregister (s : State) (t onu cause : Nat) : State :=
  let st := (s.term t onu).state
  if s.treeState t ≤ 1 ∨ st = .free ∨ st = .quarantine then s.termRefused t else s.dereg t onu cause

/-- Command 0x3: in-service ranging (R132, R141). -/
def State.inServiceCmd (s : State) (t onu : Nat) : State :=
  if s.treeState t ≤ 1 ∨ (s.term t onu).state ≠ .operation then s.termRefused t else s.startInService t onu

/-- Command 0x4: re-activation of the tree (R131, R141). -/
def State.reactivateCmd (s : State) (t : Nat) : State := if s.treeState t ≤ 1 then s.termRefused t else s.reactivate t

/-- A write of TE_TERM_CMD. DEDUCED (log 40): a reserved command is refused. -/
def State.termCmdWrite (s : State) (t d : Nat) : State :=
  let cmd := (TE_TERM_CMD.cmd t).of d
  let onu := (TE_TERM_CMD.onu t).of d
  let s1 := s.termCmdFields t cmd onu
  if (TE_TERM_CMD.go t).of d = 0 then s1
  else match cmd with
    | 1 => s1.approve t onu
    | 2 => s1.deregister t onu 1
    | 3 => s1.inServiceCmd t onu
    | 4 => s1.reactivateCmd t
    | _ => s1.termRefused t

/-- The tree island of a register write, taken out of Idle. -/
def State.onTree (s : State) (t : Nat) : State := s.ungate (treeIsl t)

/-- TERM_APPROVE (R126). -/
def execTermApprove (t : Tree) (onu : BitVec 8) (s : State) : Host.Outcome State Fault Refusal :=
  if s.answers [treeIsl t.val] then (((s.onTree t.val).termCmdFields t.val 1 onu.toNat).approve t.val onu.toNat).done else s.done

/-- APPROVE_TIMEOUT (R126). -/
def execApproveTimeout (t : Tree) (onu : BitVec 8) (s : State) : Host.Outcome State Fault Refusal :=
  if (s.term t.val onu.toNat).step = .approve then (s.dereg t.val onu.toNat 5).done else s.done

/-- TERM_DEREGISTER (R134): cause 0x1, or 0x8 where firmware acts on a duplicate serial number. -/
def execTermDeregister (t : Tree) (onu : BitVec 8) (duplicate : Bool) (s : State) : Host.Outcome State Fault Refusal :=
  if s.answers [treeIsl t.val] then
    (((s.onTree t.val).termCmdFields t.val 2 onu.toNat).deregister t.val onu.toNat (if duplicate then 8 else 1)).done
  else s.done

/-- TERM_INSERVICE_RANGING (R132). -/
def execTermInserviceRanging (t : Tree) (onu : BitVec 8) (s : State) : Host.Outcome State Fault Refusal :=
  if s.answers [treeIsl t.val] then
    (((s.onTree t.val).termCmdFields t.val 3 onu.toNat).inServiceCmd t.val onu.toNat).done
  else s.done

/-- TREE_REACTIVATE (R131). -/
def execTreeReactivate (t : Tree) (s : State) : Host.Outcome State Fault Refusal :=
  if s.answers [treeIsl t.val] then
    (((s.onTree t.val).put (TE_TERM_CMD.cmd t.val) 4).reactivateCmd t.val).done
  else s.done

/-- HOLD_EXPIRY (R131). -/
def execHoldExpiry (t : Tree) (onu : BitVec 8) (s : State) : Host.Outcome State Fault Refusal :=
  if (s.term t.val onu.toNat).state = .held then (s.dereg t.val onu.toNat 9).done else s.done

/-- QUARANTINE_EXPIRY (R136). -/
def execQuarantineExpiry (t : Tree) (onu : BitVec 8) (s : State) : Host.Outcome State Fault Refusal :=
  if (s.term t.val onu.toNat).state = .quarantine then (s.toFree t.val onu.toNat).done else s.done

/-- An Acknowledgement: of a message that hardware sent, or for firmware (R116, R126, R128). -/
def State.ackPloam (s : State) (t onu : Nat) (body : List Byte) : State :=
  let x := s.term t onu
  if x.step = .equalise then s.ranged t onu
  else if x.correcting ∧ 0 < x.acks then s.modTerm t onu Term.acked
  else s.toFirmware t onu body

/-- An upstream PLOAM message (R116). -/
def State.ploamIn (s : State) (t onu : Nat) (kind : UpPloam) (micOk : Bool) (body : List Byte) : State :=
  if !micOk then s.inc (TE_PLOAM_MIC_CNT.count t)
  else match kind with
    | .acknowledge => s.ackPloam t onu body
    | .registration => s.toFirmware t onu body
    | .keyReport => s.toFirmware t onu body
    | .other => s.toFirmware t onu body

/-- PLOAM_RECEIVED (R116): a message of at most the body that a work item holds. -/
def execPloamReceived (t : Tree) (onu : BitVec 8) (kind : UpPloam) (micOk : Bool) (body : List Byte) (s : State) :
    Host.Outcome State Fault Refusal :=
  if s.treeRuns t.val && decide (2 ≤ s.treeState t.val) && decide (body.length ≤ 4124) then
    (s.ploamIn t.val onu.toNat kind micOk body).done
  else s.done

/-- TERMINAL_RECORD_WRITE (R144). -/
def execTerminalRecordWrite (t : Tree) (onu : BitVec 8) (word : Fin 2) (d : BitVec 64) (s : State) :
    Host.Outcome State Fault Refusal :=
  if s.answers [treeIsl t.val] then ((s.onTree t.val).termWrite t.val onu.toNat word.val d).done else s.done

/-- A write of TE_TDD_CFG: a period outside 1 to 80 or that does not divide 8,000 is ignored; the other fields are written
(R122). -/
def State.tddWrite (s : State) (t d : Nat) : State :=
  let p := (TE_TDD_CFG.period_slots t).of d
  let s1 := (s.put (TE_TDD_CFG.en t) ((TE_TDD_CFG.en t).of d)).put (TE_TDD_CFG.phase_us t) ((TE_TDD_CFG.phase_us t).of d)
  if p = 0 ∨ 80 < p ∨ 8000 % p ≠ 0 then s1.set1 (TE_RNG_EVENT.tdd_refused t) else s1.put (TE_TDD_CFG.period_slots t) p

/-- TDD_CFG_WRITE (R122). -/
def execTddCfgWrite (t : Tree) (d : BitVec 32) (s : State) : Host.Outcome State Fault Refusal :=
  if s.answers [treeIsl t.val] then ((s.onTree t.val).tddWrite t.val d.toNat).done else s.done

end Sys2Proof.Machine
end

