-- ==== Sys2Proof/Machine/Parser.lean ====
section
/-! DEFINITION. The parser of the Prism (R239 to R242) and the key it builds (R243). The layouts of the headers that R239 names
are those of their standards (PRESUMED, log 25). -/

namespace Sys2Proof.Machine

/-- The registers that the parser reads: PR_PARSE_CFG, PR_PARSE_CFG2 and the EtherType of the Tenant Security Header. -/
structure ParseCfg where
  tpid3 : Nat
  vxlan : Nat
  gtpu : Nat
  ecpri : Nat
  tsh : Nat
  deriving DecidableEq, Repr

/-- One Ethernet header: addresses, the first VLAN tag, and the EtherType after the last tag, R-TAGs being stepped over. -/
structure EthHdr where
  dmac : Nat
  smac : Nat
  vlan : Option Nat := none
  etype : Nat := 0
  deriving DecidableEq, Repr

/-- One IP header, with the L4 fields that follow it: whether it was parsed in full, the presence of UDP and TCP, and whether that L4
header was parsed in full. -/
structure IpHdr where
  v6 : Bool
  full : Bool
  proto : Nat
  tos : Nat
  sip : Nat
  dip : Nat
  udp : Bool := false
  tcp : Bool := false
  l4Full : Bool := false
  sport : Nat := 0
  dport : Nat := 0
  deriving DecidableEq, Repr

/-- The tunnel kinds (R240). -/
inductive Tunnel where
  | none | vxlan | gtpu
  deriving DecidableEq, Repr

/-- The header that comes next. -/
inductive NextHdr where
  | eth | etherType (e : Nat) | mpls | nibble | v4 | v6 | l6 (nh : Nat) | l4 (proto : Nat) | vxlan | gtpu | gtpExt (typ : Nat)
  | gtpInner | ecpri | roe | done
  deriving DecidableEq, Repr

/-- What the parser holds as it goes: where it is, the bound of R241, the counts of R240, whether a header of a non-first fragment
was met, the headers, the flags, the tunnel with whether its header was parsed in full, its identifier and the offset where its inner
header starts, and the offset of the EtherType after the outer tags. -/
structure Parse where
  off : Nat := 0
  bound : Nat := 0
  vlans : Nat := 0
  labels : Nat := 0
  exts : Nat := 0
  frag : Bool := false
  deep : Bool := false
  lenBad : Bool := false
  csumBad : Bool := false
  eths : List EthHdr := []
  ips : List IpHdr := []
  vids : List Nat := []
  tunnel : Tunnel := .none
  tunFull : Bool := false
  tunId : Nat := 0
  inner : Nat := 0
  innerOk : Bool := false
  msgType : Nat := 0
  mpls : Bool := false
  ecpri : Bool := false
  extra : Option Nat := none
  etOff : Nat := 12
  deriving DecidableEq, Repr

/-- The parse window (R240). -/
def parseWindow : Nat := 256

/-- A header of n octets would pass the window (R240). -/
def Parse.outside (p : Parse) (n : Nat) : Bool := decide (parseWindow < p.off + n)

/-- n octets from the present offset lie within the bound (R241). -/
def Parse.has (p : Parse) (o n : Nat) : Bool := decide (p.off + o + n ≤ p.bound)

/-- A field of the header at the present offset, 0 when it is absent (R241, R242). -/
def Parse.fld (p : Parse) (l : List Byte) (o n : Nat) : Nat := if p.has o n then fieldAt l (p.off + o) n else 0

/-- The parse stops before a header that would pass a limit (R240). -/
def Parse.tooDeep (p : Parse) : Parse × NextHdr := ({ p with deep := true }, .done)

/-- A header whose length field does not lie within the bound conflicts: whatever that field held, a condition of R241 would hold
(DEDUCED, log 25). -/
def Parse.cut (p : Parse) : Parse := { p with lenBad := true }

/-- A declared end bounds what follows, and conflicts under a condition (R241). -/
def Parse.limit (p : Parse) (stop : Nat) (bad : Bool) : Parse :=
  { p with bound := min p.bound stop, lenBad := p.lenBad || bad }

/-- An Ethernet header (R239). -/
def parseEth (l : List Byte) (p : Parse) : Parse × NextHdr :=
  if p.outside 14 then p.tooDeep
  else if !p.has 0 14 then (p, .done)
  else
    let e := p.fld l 12 2
    ({ p with
        eths := p.eths ++ [⟨p.fld l 0 6, p.fld l 6 6, none, e⟩]
        innerOk := p.innerOk || p.tunnel != .none
        off := p.off + 14 }, .etherType e)

/-- The latest Ethernet header with its EtherType replaced. -/
def setEtype (e : Nat) : List EthHdr → List EthHdr
  | [] => []
  | [h] => [{ h with etype := e }]
  | h :: r => h :: setEtype e r

/-- The latest Ethernet header with its first VLAN tag. -/
def setVlan (t : Nat) : List EthHdr → List EthHdr
  | [] => []
  | [h] => [{ h with vlan := h.vlan.or (some t) }]
  | h :: r => h :: setVlan t r

/-- A VLAN tag after an EtherType that names one (R239, R240). -/
def parseVlan (l : List Byte) (p : Parse) : Parse × NextHdr :=
  if p.vlans = 4 ∨ p.outside 4 then p.tooDeep
  else if !p.has 0 4 then (p, .done)
  else
    let t := p.fld l 0 2
    let e := p.fld l 2 2
    let outer := p.tunnel == .none
    ({ p with
        vlans := p.vlans + 1
        eths := setEtype e (setVlan t p.eths)
        vids := if outer then p.vids ++ [t % 4096] else p.vids
        etOff := if outer then p.off + 2 else p.etOff
        off := p.off + 4 }, .etherType e)

/-- An R-TAG (R239). -/
def parseRtag (l : List Byte) (p : Parse) : Parse × NextHdr :=
  if p.outside 6 then p.tooDeep
  else if !p.has 0 6 then (p, .done)
  else
    let e := p.fld l 4 2
    ({ p with eths := setEtype e p.eths, etOff := if p.tunnel == .none then p.off + 4 else p.etOff, off := p.off + 6 },
      .etherType e)

/-- What an EtherType leads to (R239). -/
def parseEtherType (c : ParseCfg) (l : List Byte) (p : Parse) (e : Nat) : Parse × NextHdr :=
  if e = 0x8100 ∨ e = 0x88A8 ∨ e = c.tpid3 then parseVlan l p
  else if e = 0xF1C1 then parseRtag l p
  else if e = c.tsh then (p, .done)
  else if e ≤ 1500 then (p.limit (p.off + e) (!p.has 0 e), .done)
  else if e = 0x8847 ∨ e = 0x8848 then (p, .mpls)
  else if e = 0x0800 then (p, .v4)
  else if e = 0x86DD then (p, .v6)
  else if e = 0xAEFE then (p, .ecpri)
  else if e = 0xFC3D then (p, .roe)
  else (p, .done)

/-- An MPLS label (R239, R240). -/
def parseMpls (l : List Byte) (p : Parse) : Parse × NextHdr :=
  if p.labels = 8 ∨ p.outside 4 then p.tooDeep
  else if !p.has 0 4 then (p, .done)
  else
    let w := p.fld l 0 4
    let p1 := { p with labels := p.labels + 1, mpls := true, off := p.off + 4 }
    if bit1 w 8 then (p1, .nibble)
    else if p1.labels = 8 then p1.tooDeep
    else (p1, .mpls)

/-- What the first nibble of a payload leads to (R239). -/
def parseNibble (l : List Byte) (p : Parse) : Parse × NextHdr :=
  match p.fld l 0 1 / 16 with
  | 4 => (p, .v4)
  | 6 => (p, .v6)
  | _ => (p, .done)

/-- The ones' complement sum of 16-bit words. -/
def onesSum (l : List Byte) : Nat :=
  let s := (List.range (l.length / 2)).foldl (fun a i => a + fieldAt l (2 * i) 2) 0
  let s1 := s % 65536 + s / 65536
  s1 % 65536 + s1 / 65536

/-- An IPv4 header (R239, R241, R242). One taken as its fixed 20 octets is parsed in full where those lie within the bound, and its
checksum is that of those octets (DEDUCED, log 25). -/
def parseV4 (l : List Byte) (p : Parse) : Parse × NextHdr :=
  if p.outside 20 then p.tooDeep
  else if !p.has 0 1 then (p.cut, .done)
  else
    let ihl := p.fld l 0 1 % 16
    let tl := p.fld l 2 2
    let fixed := decide (ihl < 5) || (p.has 2 2 && decide (tl < ihl * 4))
    if !fixed && p.outside (ihl * 4) then p.tooDeep
    else
      let q := if fixed || !p.has 2 2 then p.cut else p.limit (p.off + tl) (!p.has 0 tl)
      let n := if fixed then 20 else ihl * 4
      let full := q.has 0 n
      let h : IpHdr := { v6 := false, full, proto := q.fld l 9 1, tos := q.fld l 1 1, sip := q.fld l 12 4, dip := q.fld l 16 4 }
      let bad := full && onesSum (slice l p.off n) != 0xFFFF
      let q1 := { q with
        ips := q.ips ++ [h], csumBad := q.csumBad || bad
        innerOk := q.innerOk || (full && q.tunnel == .gtpu), off := q.off + n }
      if fixed || !full || q.fld l 6 2 % 8192 != 0 then (q1, .done) else (q1, .l4 h.proto)

/-- An IPv6 header (R239, R241). -/
def parseV6 (l : List Byte) (p : Parse) : Parse × NextHdr :=
  if p.outside 40 then p.tooDeep
  else if !p.has 0 1 then (p.cut, .done)
  else
    let pl := p.fld l 4 2
    let q := p.limit (p.off + 40 + pl) (pl == 0 || !p.has 0 (40 + pl))
    let full := q.has 0 40
    let h : IpHdr :=
      { v6 := true, full, proto := q.fld l 6 1, tos := bitsOf (q.fld l 0 2) 4 8, sip := q.fld l 8 16, dip := q.fld l 24 16 }
    let q1 := { q with ips := q.ips ++ [h], innerOk := q.innerOk || (full && q.tunnel == .gtpu), off := q.off + 40 }
    if full then (q1, .l6 h.proto) else (q1, .done)

/-- The latest IP header changed. -/
def setIp (f : IpHdr → IpHdr) : List IpHdr → List IpHdr
  | [] => []
  | [h] => [f h]
  | h :: r => h :: setIp f r

/-- An IPv6 extension header, or what follows the last one (R239 to R242). A non-first fragment has no L4 fields; the extension
headers that its chain names are still parsed (DEDUCED, log 25). -/
def parseL6 (l : List Byte) (p : Parse) (nh : Nat) : Parse × NextHdr :=
  if nh = 0 ∨ nh = 43 ∨ nh = 44 ∨ nh = 60 then
    let n := if nh = 44 then 8 else p.fld l 1 1 * 8 + 8
    if p.exts = 3 ∨ p.outside n then p.tooDeep
    else if !p.has 0 n then (p.cut, .done)
    else
      let x := p.fld l 0 1
      let later := p.frag || (nh == 44 && p.fld l 2 2 / 8 != 0)
      ({ p with exts := p.exts + 1, frag := later, ips := setIp (fun h => { h with proto := x }) p.ips, off := p.off + n }, .l6 x)
  else if p.frag then (p, .done)
  else (p, .l4 nh)

/-- What a UDP destination port leads to (R239). -/
def udpNext (c : ParseCfg) (dport : Nat) : NextHdr :=
  if dport = c.vxlan then .vxlan
  else if dport = c.gtpu then .gtpu
  else if c.ecpri ≠ 0 ∧ dport = c.ecpri then .ecpri
  else .done

/-- A UDP or TCP header (R239, R241). -/
def parseL4 (c : ParseCfg) (l : List Byte) (p : Parse) (proto : Nat) : Parse × NextHdr :=
  if proto = 17 then
    if p.outside 8 then p.tooDeep
    else
      let n := p.fld l 4 2
      let q := if p.has 4 2 then p.limit (p.off + n) (decide (n < 8) || !p.has 0 n) else p.cut
      let q1 := { q with ips := setIp (fun h => { h with
        udp := q.has 0 4, l4Full := q.has 0 8, sport := q.fld l 0 2, dport := q.fld l 2 2 }) q.ips, off := q.off + 8 }
      if q.has 0 8 then (q1, udpNext c (q.fld l 2 2)) else (q1, .done)
  else if proto = 6 then
    let d := if p.has 12 1 then p.fld l 12 1 / 16 else 5
    if p.outside (max 20 (d * 4)) then p.tooDeep
    else
      let q := if p.has 12 1 then p.limit (p.off + d * 4) (decide (d < 5) || !p.has 0 (d * 4)) else p.cut
      ({ q with ips := setIp (fun h => { h with
        tcp := q.has 0 4, l4Full := q.has 0 (max 20 (d * 4)), sport := q.fld l 0 2, dport := q.fld l 2 2 }) q.ips }, .done)
  else (p, .done)

/-- A VXLAN header (R239, R240). -/
def parseVxlan (l : List Byte) (p : Parse) : Parse × NextHdr :=
  if p.tunnel ≠ .none ∨ p.outside 8 then p.tooDeep
  else if !p.has 0 8 then ({ p with tunnel := .vxlan, tunId := p.fld l 4 3 }, .done)
  else
    ({ p with tunnel := .vxlan, tunFull := true, tunId := p.fld l 4 3, inner := p.off + 8, off := p.off + 8 }, .eth)

/-- A GTP-U header (R239 to R241): 12 octets where one of E, S and PN is set. -/
def parseGtpu (l : List Byte) (p : Parse) : Parse × NextHdr :=
  let fl := p.fld l 0 1
  let n := if fl % 8 = 0 then 8 else 12
  if p.tunnel ≠ .none ∨ p.outside n then p.tooDeep
  else if !p.has 0 8 then ({ p.cut with tunnel := .gtpu }, .done)
  else
    let len := p.fld l 2 2
    let q := p.limit (p.off + 8 + len) (!p.has 0 (8 + len))
    let q1 := { q with
      tunnel := .gtpu, tunFull := q.has 0 n, tunId := p.fld l 4 4, msgType := p.fld l 1 1, inner := p.off + n, off := p.off + n }
    if n = 8 then (q1, .gtpInner)
    else if !q.has 0 12 then (q1, .done)
    else if bit1 fl 2 then (q1, .gtpExt (q.fld l 11 1))
    else (q1, .gtpInner)

/-- A GTP-U extension header, or what follows the last one (R239 to R241). -/
def parseGtpExt (l : List Byte) (p : Parse) (typ : Nat) : Parse × NextHdr :=
  if typ = 0 then (p, .gtpInner)
  else
    let n := 4 * p.fld l 0 1
    if p.outside (max 1 n) then p.tooDeep
    else if n = 0 ∨ !p.has 0 n then (p.cut, .done)
    else ({ p with off := p.off + n, inner := p.off + n }, .gtpExt (p.fld l (n - 1) 1))

/-- The payload of GTP-U: the inner IP header of a G-PDU (R239). -/
def parseGtpInner (l : List Byte) (p : Parse) : Parse × NextHdr :=
  if p.msgType = 255 then parseNibble l p else (p, .done)

/-- An eCPRI common header (R239, R241, R243). Payload octets beyond the parse window read as absent (DEDUCED, log 25). -/
def parseEcpri (l : List Byte) (p : Parse) : Parse × NextHdr :=
  if p.outside 4 then p.tooDeep
  else if !p.has 0 4 then ({ p.cut with extra := p.extra.or (some (p.fld l 1 1 <<< 24)) }, .done)
  else
    let n := p.fld l 2 2
    let q := p.limit (p.off + 4 + n) (!p.has 0 (4 + n))
    let data := if q.outside 6 then 0 else q.fld l 4 2
    ({ q with ecpri := true, extra := q.extra.or (some (p.fld l 1 1 <<< 24 ||| data <<< 8)) }, .done)

/-- An IEEE 1914.3 RoE header (R239, R241, R243). -/
def parseRoe (l : List Byte) (p : Parse) : Parse × NextHdr :=
  if p.outside 8 then p.tooDeep
  else if !p.has 0 8 then
    ({ p.cut with extra := p.extra.or (some (p.fld l 0 1 <<< 24 ||| p.fld l 1 1 <<< 16)) }, .done)
  else
    let n := p.fld l 2 2
    let q := p.limit (p.off + 8 + n) (!p.has 0 (8 + n))
    ({ q with ecpri := true, extra := q.extra.or (some (p.fld l 0 1 <<< 24 ||| p.fld l 1 1 <<< 16)) }, .done)

/-- One header. -/
def parseStep (c : ParseCfg) (l : List Byte) (p : Parse) : NextHdr → Parse × NextHdr
  | .eth => parseEth l p
  | .etherType e => parseEtherType c l p e
  | .mpls => parseMpls l p
  | .nibble => parseNibble l p
  | .v4 => parseV4 l p
  | .v6 => parseV6 l p
  | .l6 nh => parseL6 l p nh
  | .l4 x => parseL4 c l p x
  | .vxlan => parseVxlan l p
  | .gtpu => parseGtpu l p
  | .gtpExt t => parseGtpExt l p t
  | .gtpInner => parseGtpInner l p
  | .ecpri => parseEcpri l p
  | .roe => parseRoe l p
  | .done => (p, .done)

/-- Header after header; a pass meets far fewer than the steps allowed. -/
def parseLoop (c : ParseCfg) (l : List Byte) : Nat → Parse × NextHdr → Parse
  | 0, x => x.1
  | _ + 1, (p, .done) => p
  | n + 1, (p, h) => parseLoop c l n (parseStep c l p h)

/-- The parse of a frame without its FCS (R239 to R242). -/
def parseFrame (c : ParseCfg) (l : List Byte) : Parse := parseLoop c l 160 ({ bound := l.length }, .eth)

/-- The outer VIDs of a frame, 0xFFF for each tag that is absent (R246): outer in [23:12], inner in [11:0]. -/
def Parse.tagWord (p : Parse) : Nat := (p.vids[0]?.getD 0xFFF) <<< 12 ||| (p.vids[1]?.getD 0xFFF)

/-- A tunnel that a decapsulation may remove: its inner header was parsed in full (R241, R251). -/
def Parse.tunnelOk (p : Parse) : Bool := p.tunnel != .none && p.innerOk

/-- The exception codes that the parser sets, as bits (R255): LEN_CONFLICT, PARSE_DEEP and IP4_CSUM. -/
def Parse.codes (p : Parse) : Nat :=
  (if p.lenBad then 4 else 0) + (if p.deep then 8 else 0) + (if p.csumBad then 16 else 0)

/-- Octets 60 to 63 of the key (R243). -/
def Parse.last4 (p : Parse) : Nat := if p.tunnel = .none then p.extra.getD 0 else p.tunId

/-- The classification key (R243). With view 1 the Ethernet header and the IP header are each the innermost parsed in full, the
L4 fields those of the header that follows that IP header where it was parsed in full too (DEDUCED, log 26). -/
def Parse.key (p : Parse) (view : Bool) (tenant : Nat) (second : Bool) (codes lif : Nat) : List Byte :=
  let e : EthHdr := ((if view then p.eths.getLast? else p.eths.head?)).getD ⟨0, 0, none, 0⟩
  let ip := if view then (p.ips.filter (·.full)).getLast? else p.ips.head?
  let h0 : IpHdr := ip.getD { v6 := false, full := false, proto := 0, tos := 0, sip := 0, dip := 0 }
  let h : IpHdr := if view && !h0.l4Full then { h0 with udp := false, tcp := false, sport := 0, dport := 0 } else h0
  let b (x : Bool) (n : Nat) : Nat := if x then 2 ^ n else 0
  let pres := b e.vlan.isSome 7 + b p.mpls 6 + b (ip.isSome && !h.v6) 5 + b (ip.isSome && h.v6) 4 + b h.udp 3 + b h.tcp 2 +
    b p.tunFull 1 + b p.ecpri 0
  octetsBE 1 (tenant * 4 + b second 1) ++ octetsBE 1 pres ++ octetsBE 2 codes ++ octetsBE 2 lif ++ octetsBE 6 e.dmac ++
    octetsBE 6 e.smac ++ octetsBE 2 (e.vlan.getD 0) ++ octetsBE 2 e.etype ++ octetsBE 1 h.proto ++ octetsBE 1 h.tos ++
    octetsBE 16 h.sip ++ octetsBE 16 h.dip ++ octetsBE 2 h.sport ++ octetsBE 2 h.dport ++ octetsBE 4 p.last4

/-! ## Edits (R251) -/

/-- The frame without its tunnel (R251). -/
def decapFrame (p : Parse) (l : List Byte) : List Byte :=
  match p.tunnel with
  | .none => l
  | .vxlan => l.drop p.inner
  | .gtpu =>
    let v6 := fieldAt l p.inner 1 / 16 == 6
    l.take p.etOff ++ octetsBE 2 (if v6 then 0x86DD else 0x0800) ++ l.drop p.inner

/-- The offset of the outer VLAN tag, R-TAGs being stepped over; none where the frame carries no VLAN tag. -/
def outerTag (tpid3 : Nat) (l : List Byte) : Nat → Nat → Option Nat
  | 0, _ => none
  | n + 1, o =>
    let e := fieldAt l o 2
    if l.length < o + 4 then none
    else if e = 0x8100 ∨ e = 0x88A8 ∨ e = tpid3 then some o
    else if e = 0xF1C1 then outerTag tpid3 l n (o + 6)
    else none

/-- The vlan_op of an action (R251): 1 pops, 2 pushes, 3 replaces. -/
def vlanEdit (tpid3 op pcp vid : Nat) (l : List Byte) : List Byte :=
  if op = 2 then l.take 12 ++ octetsBE 2 0x8100 ++ octetsBE 2 (pcp <<< 13 ||| vid) ++ l.drop 12
  else match outerTag tpid3 l 42 12 with
    | none => l
    | some o =>
      if op = 1 then l.take o ++ l.drop (o + 4)
      else if op = 3 then
        l.take (o + 2) ++ octetsBE 2 (pcp <<< 13 ||| (fieldAt l (o + 2) 2) &&& 0x1000 ||| vid) ++ l.drop (o + 4)
      else l

end Sys2Proof.Machine
end

