-- ==== Sys2Proof/Machine/Prism.lean ====
section
/-! DEFINITION. Prism classification (R236 to R268): the tables, a pass, recirculation, rule generations and table writes. -/

namespace Sys2Proof.Machine

/-! ## The tables (R244, R257) -/

/-- The window of the tables of slice sl (R244). -/
def prismBase (sl : Nat) : Nat := 0x1010000000 + 0x02000000 * sl

/-- A word 0 is visible in a generation (R257). -/
def visible (w : Nat) (g : Bool) : Bool := bit1 w 63 && bit1 w (if g then 61 else 62)

/-- The PR_KPROF mask of profile k in a generation (R260). -/
def State.kprof (s : State) (g : Bool) (k : Nat) : Nat :=
  if g = s.on PR_GEN_STATUS.active then mgetD k 0 s.pr.kprofAct else s.get (PR_KPROF.mask k)

/-- The PR_HPROF mask of profile k in a generation (R260). -/
def State.hprof (s : State) (g : Bool) (k : Nat) : Nat :=
  if g = s.on PR_GEN_STATUS.active then mgetD k 0 s.pr.hprofAct else s.get (PR_HPROF.mask k)

/-- The hash seed of a generation (R260). -/
def State.hseed (s : State) (g : Bool) : Nat :=
  if g = s.on PR_GEN_STATUS.active then s.pr.seedAct else s.get PR_HASH_SEED.seed

/-- The octets of a key that a mask selects, in increasing offset (R248, R252). -/
def selectKey (mask : Nat) (key : List Byte) : List Byte :=
  (List.range 64).filterMap fun i => if bit1 mask i then key[i]? else none

/-- The registers that the parser reads. -/
def State.parseCfg (s : State) : ParseCfg :=
  ⟨s.get PR_PARSE_CFG.tpid3, s.get PR_PARSE_CFG.vxlan_port, s.get PR_PARSE_CFG2.gtpu_port,
    s.get PR_PARSE_CFG2.ecpri_port, s.get CIP_CFG.ethertype⟩

/-- The ways of a bucket that hold poison in the words read. -/
def State.wayPoison (s : State) (a n : Nat) : Bool := (List.range n).any fun w => s.poisoned (a + 8 * w)

/-- The P0 key of a frame (R246, R258). -/
def InFrame.p0Key (f : InFrame) (p : Parse) : Nat :=
  if f.second then 3 <<< 62 ||| f.lif1 <<< 48 ||| (if f.tkind then 1 else 0) <<< 32 ||| f.tag.toNat
  else match f.origin with
    | .uplink q => q <<< 48 ||| p.tagWord
    | .tree t _ x => 1 <<< 62 ||| t <<< 48 ||| x % 65536
    | .host _ => 2 <<< 62 ||| p.tagWord
    | .core _ _ => 2 <<< 62 ||| 1 <<< 48 ||| p.tagWord

/-- The P0 lookup (R245, R246): the LIF of the lowest visible matching way, and whether a way read as poison. -/
def State.p0 (s : State) (sl : Nat) (g : Bool) (key : Nat) : Option Nat × Bool :=
  let b := crc32c (octetsBE 8 key) % 16384
  let as := (List.range 4).map fun w => prismBase sl + 16 * (4 * b + w)
  let hit := as.find? fun a => !s.wayPoison a 2 && visible (s.word a) g && s.word (a + 8) == key
  (hit.map fun a => s.word a % 16384, as.any fun a => s.wayPoison a 2)

/-- The address of a P1 entry. -/
def p1Addr (sl lif : Nat) : Nat := prismBase sl + 0x100000 + 8 * lif

/-- The P1 entry of a LIF where it is visible (R247). -/
def State.p1 (s : State) (sl : Nat) (g : Bool) (lif : Nat) : Option Nat :=
  let w := s.tword (p1Addr sl lif)
  if visible w g then some w else none

/-- The packed key of P2: octet 0 and the octets that the profile selects, filled with 0 to 40 (R248). -/
def packKey (mask : Nat) (key : List Byte) : List Byte := slice (selectKey (mask ||| 1) key) 0 40

/-- The P2 lookup (R245, R248): the address of the lowest visible matching way, and whether a way read as poison. -/
def State.p2 (s : State) (sl : Nat) (g : Bool) (kp : Nat) (key : List Byte) : Option Nat × Bool :=
  let packed := packKey (s.kprof g kp) key
  let b := crc32c (octetsBE 1 kp ++ packed) % 32768
  let as := (List.range 4).map fun w => prismBase sl + 0x400000 + 64 * (4 * b + w)
  let hit := as.find? fun a => !s.wayPoison a 6 && visible (s.word a) g && bitsOf (s.word a) 58 3 == kp &&
    s.bytesAt (a + 8) 40 == packed
  (hit, as.any fun a => s.wayPoison a 6)

/-- The addresses of the P3 rules of a slice that memory lists as valid, lowest index first. -/
def State.p3Rules (s : State) (sl : Nat) : List Nat :=
  let lo := prismBase sl + 0xC00000
  (s.mem.filter fun e => decide (lo ≤ e.1) && decide (e.1 < lo + 0x200000) && e.1 % 256 == 0 &&
    decide (128 ≤ e.2.toNat)).map (·.1)

/-- Every key bit under a 1 in the mask equals the value bit (R249). -/
def State.p3Match (s : State) (a : Nat) (key : List Byte) : Bool :=
  let v := ofOctets (s.bytesAt (a + 8) 64)
  let m := ofOctets (s.bytesAt (a + 72) 64)
  (v ^^^ ofOctets key) &&& m == 0

/-- Some rule of P3 of a slice reads as poison. -/
def State.p3Poison (s : State) (sl : Nat) : Bool :=
  let lo := prismBase sl + 0xC00000
  let hi := lo + 0x200000
  s.poison.any fun m => m.bad && (List.range ((min m.hi hi - max m.lo lo + 7) / 8)).any fun i =>
    let a := max m.lo lo + 8 * i
    decide (a % 256 < 136) && s.poisoned a

/-- The P3 search (R249): the address of the lowest matching rule. -/
def State.p3 (s : State) (sl : Nat) (g : Bool) (rgroup : Nat) (key : List Byte) : Option Nat :=
  (s.p3Rules sl).find? fun a =>
    let w := s.word a
    !s.wayPoison a 17 && visible w g && (bitsOf w 53 8 == rgroup || bitsOf w 53 8 == 0xFF) && s.p3Match a key

/-- The address of a P4 entry. -/
def p4Addr (sl idx : Nat) : Nat := prismBase sl + 0xE00000 + 32 * idx

/-- The address of a P5 group. -/
def p5Addr (sl grp : Nat) : Nat := prismBase sl + 0x1080000 + 8 * grp

/-- The address of the word that holds indirection entry i. -/
def indAddr (sl i : Nat) : Nat := prismBase sl + 0x1000000 + 8 * (i / 2)

/-- size and base of a group word in a generation (R252). -/
def groupRange (w : Nat) (g : Bool) : Nat × Nat :=
  if g then (bitsOf w 50 4, bitsOf w 18 16) else (bitsOf w 54 4, bitsOf w 34 16)

/-- A group word is valid for a generation (R252). -/
def groupOk (w : Nat) (g : Bool) : Bool :=
  let r := groupRange w g
  bit1 w 63 && decide (r.1 ≤ 8) && r.2 % 2 ^ r.1 == 0 && decide (r.2 + 2 ^ r.1 ≤ 65536)

/-- The CRC-32C of R245 from an initial value (R252). -/
def crc32cFrom (seed : Nat) (l : List Byte) : Nat :=
  (l.foldl (fun c b => crcRefl 0x82F63B78 8 (c ^^^ b.toNat)) seed) ^^^ 0xFFFFFFFF

/-- The half of a word that entry i of two takes: the even one in the high half (R252). DEDUCED (log 28). -/
def halfOf (w i : Nat) : Nat := bitsOf w (32 * (1 - i % 2)) 32

/-- The member of a group that a key takes (R252): the member index; none when the group is invalid. -/
def State.member (s : State) (sl : Nat) (g : Bool) (grp : Nat) (key : List Byte) : Option Nat :=
  let w := s.tword (p5Addr sl grp)
  if groupOk w g then
    let r := groupRange w g
    some (r.2 + crc32cFrom (s.hseed g) (selectKey (s.hprof g (bitsOf w 0 3)) key) % 2 ^ r.1)
  else none

/-- The flow context and ptidx of a spread action, none for an invalid group or member (R252). -/
def State.spread (s : State) (sl : Nat) (g : Bool) (grp : Nat) (key : List Byte) : Option (Nat × Nat) :=
  match s.member sl g grp key with
  | none => none
  | some i =>
    let e := halfOf (s.tword (indAddr sl i)) i
    if bit1 e 31 then some (bitsOf e 12 16, bitsOf e 0 12) else none

/-- A spread action reads poison (R255). -/
def State.spreadPoison (s : State) (sl : Nat) (g : Bool) (grp : Nat) (key : List Byte) : Bool :=
  s.poisoned (p5Addr sl grp) || (match s.member sl g grp key with
    | some i => s.poisoned (indAddr sl i)
    | none => false)

/-! ## One pass (R250 to R255) -/

/-- What the tables give a frame: its LIF, tenant and key, the exception codes as bits, the P0 miss, the P2 and P3 entries that
matched, and the action index; `noAct` when P1 gave no entry to start from. -/
structure Looked where
  lif : Nat
  tenant : Nat
  fromP1 : Bool
  key : List Byte
  codes : Nat
  miss : Bool
  p2 : Option Nat := none
  p3 : Option Nat := none
  idx : Option Nat
  deny : Bool := false
  deriving DecidableEq, Repr

/-- The P3 verdict on an action index (R250): the index and whether the frame is denied. -/
def resolve (dflt : Nat) (p2 : Option Nat) (p3 : Option Nat) : Nat × Bool :=
  let idx := (p2.map fun w => w % 32768).getD dflt
  match p3 with
  | none => (idx, false)
  | some w =>
    match bitsOf w 51 2 with
    | 0 => (idx, false)
    | 1 => (idx, true)
    | 2 => (w % 32768, false)
    | _ => (if p2.isSome then idx else w % 32768, false)

/-- The lookups after a P0 miss (R246, R255). -/
def State.lookMiss (s : State) (sl : Nat) (f : InFrame) (p : Parse) (p0bad : Bool) : Looked :=
  let codes := p.codes + 2 + (if p0bad then 1 else 0)
  { lif := 0x3FFF, tenant := 0, fromP1 := false, miss := true
    key := p.key false 0 f.second codes 0x3FFF
    codes := codes + (if s.poisoned (p1Addr sl 0x3FFF) ∧ !p0bad ∧ s.get (PR_EXC.code 0 1) = 3 then 1 else 0)
    idx := (s.p1 sl f.gen 0x3FFF).map (· % 32768) }

/-- The lookups of P2 and P3 from a visible P1 entry (R247 to R250). -/
def State.lookHit (s : State) (sl : Nat) (f : InFrame) (p : Parse) (p0bad : Bool) (lif w : Nat) : Looked :=
  let codes := p.codes + (if p0bad then 1 else 0)
  let tenant := bitsOf w 54 6
  let key := p.key (bit1 w 42) tenant f.second codes lif
  let r2 := if bit1 w 41 then s.p2 sl f.gen (bitsOf w 51 3) key else (none, false)
  let a3 := if bit1 w 40 then s.p3 sl f.gen (bitsOf w 43 8) key else none
  let bad3 := bit1 w 40 && s.p3Poison sl
  let v := resolve (w % 32768) (r2.1.map s.word) (a3.map s.word)
  { lif := lif, tenant := tenant, fromP1 := true, miss := false, key := key
    codes := codes ||| (if r2.2 || bad3 then 1 else 0)
    p2 := r2.1, p3 := a3, idx := some v.1, deny := v.2 }

/-- The lookups of P0 to P3 for a frame (R246 to R250). -/
def State.look (s : State) (sl : Nat) (f : InFrame) (p : Parse) : Looked :=
  let r0 := s.p0 sl f.gen (f.p0Key p)
  match r0.1 with
  | none => s.lookMiss sl f p r0.2
  | some lif =>
    match s.p1 sl f.gen lif with
    | some w => s.lookHit sl f p r0.2 lif w
    | none =>
      let codes := p.codes ||| 1
      { lif := lif, tenant := 0, fromP1 := false, miss := false, key := p.key false 0 f.second codes lif
        codes := codes, idx := none }

/-- A 64-bit frame count rises by an amount and saturates (R248, R249, R251). -/
def State.countWord (s : State) (a n : Nat) : State :=
  if s.poisoned a then s else s.putWord a (min (s.word a + n) (2 ^ 64 - 1))

/-- The counts of the parse and the lookups (R246, R248, R249, R255). -/
def State.countLook (s : State) (sl : Nat) (p : Parse) (k : Looked) : State :=
  let s1 := if p.deep then s.inc (PR_PARSE_DEEP_CNT.count sl) else s
  let s2 := if p.lenBad then s1.inc (PR_LEN_CONFLICT_CNT.count sl) else s1
  let s3 := if p.deep || p.lenBad then s2.set1 PR_EVENT.parse_flag else s2
  let s4 := if p.csumBad then s3.inc (PR_CSUM_CNT.count sl) else s3
  let s5 := if k.miss then s4.inc (PR_P0_MISS_CNT.count sl) else s4
  let s6 := match k.p2 with
    | some a => (s5.inc (PR_P2_HIT_CNT.count sl)).countWord (a + 48) 1
    | none => s5
  match k.p3 with
  | some a => s6.countWord (a + 136) 1
  | none => s6

/-- What a pass decides for a frame (R250 to R255). -/
inductive Verdict where
  /-- The frame is dropped and counted in the counter of the slice at this offset, or in none. -/
  | drop (cnt : Option Nat)
  /-- The frame goes unedited to a flow context for an exception code. -/
  | exc (flow code : Nat) (host : Bool)
  /-- The action at this index is carried out. -/
  | act (idx : Nat)
  deriving DecidableEq, Repr

/-- The exception codes once the action is known: TABLE_ERR for poison in P4 or P5, RECIRC for an action that cannot be carried
out (R251, R255, R258). -/
def State.lateCodes (s : State) (sl : Nat) (f : InFrame) (p : Parse) (k : Looked) (idx : Nat) : Nat :=
  let a := p4Addr sl idx
  let w := s.word a
  let typ := bitsOf w 57 4
  let dec := bitsOf w 54 2
  let bad := s.wayPoison a 2 || (typ == 2 && s.spreadPoison sl f.gen (bitsOf w 26 8) k.key)
  let rec_ := (dec == 1 && !p.tunnelOk) || (typ == 5 && (dec != 1 || f.second))
  (k.codes ||| (if bad then 1 else 0)) ||| (if rec_ && !s.wayPoison a 2 then 32 else 0)

/-- The lowest code set (R255). -/
def lowestCode (codes : Nat) : Option Nat := (bitList 6 codes).head?

/-- A flow context may take exception traffic: kind 2 or 3 with tenant 0 (R255). -/
def State.excFlowOk (s : State) (f kind : Nat) : Bool :=
  match s.flowPart f with
  | some p => p.kind == kind && p.tenant == 0
  | none => false

/-- The exception entry of a code decides (R255): index 11 to 13 of the verdict are the counters PR_EXC_DROP, _HOST and _POL. -/
def State.exception (s : State) (tenant codes code : Nat) (idx : Option Nat) : Verdict :=
  match s.get (PR_EXC.code tenant code) with
  | 1 => if s.excFlowOk (s.get PR_EXC_DEST.host_flow) 2 then .exc (s.get PR_EXC_DEST.host_flow) code true else .drop (some 0)
  | 2 => if s.excFlowOk (s.get PR_EXC_DEST.pol_flow) 3 then .exc (s.get PR_EXC_DEST.pol_flow) code false else .drop (some 0)
  | 3 =>
    if code = 0 ∨ bit1 codes 5 then .drop (some 0)
    else match idx with
      | some i => .act i
      | none => .drop (some 0)
  | _ => .drop (some 0)

/-- The action can be read and is of a kind that R250 lets through. -/
def State.actOk (s : State) (sl : Nat) (g : Bool) (idx : Nat) : Bool :=
  let w := s.word (p4Addr sl idx)
  s.wayPoison (p4Addr sl idx) 2 || (visible w g && decide (bitsOf w 57 4 ≤ 5) && decide (bitsOf w 54 2 ≤ 1))

/-- The verdict on a frame (R250, R255), with the exception codes at the end of the pass. -/
def State.verdict (s : State) (sl : Nat) (f : InFrame) (p : Parse) (k : Looked) : Verdict × Nat :=
  if k.deny then (.drop (some 1), k.codes)
  else if k.miss ∧ (bit1 k.codes 0 ∨ s.get (PR_EXC.code 0 1) ≠ 3) then
    (s.exception 0 k.codes ((lowestCode k.codes).getD 1) none, k.codes)
  else match k.idx with
    | none => (s.exception k.tenant k.codes ((lowestCode k.codes).getD 0) none, k.codes)
    | some i =>
      if !s.actOk sl f.gen i then (.drop (some 2), k.codes)
      else
        let c := s.lateCodes sl f p k i
        match lowestCode c with
        | none => (.act i, c)
        | some code => (s.exception k.tenant c code (some i), c)

/-- The frame with the edits of an action: decapsulation, then vlan_op (R251); with its FCS. -/
def State.editFrame (s : State) (sl : Nat) (p : Parse) (idx : Nat) (octets : List Byte) : List Byte :=
  let a := p4Addr sl idx
  let w1 := s.word (a + 8)
  let l := noFcs octets
  let l1 := if bitsOf (s.word a) 54 2 = 1 then decapFrame p l else l
  let l2 := if bitsOf w1 62 2 = 0 then l1
    else vlanEdit (s.get PR_PARSE_CFG.tpid3) (bitsOf w1 62 2) (bitsOf w1 59 3) (bitsOf w1 47 12) l1
  if l2 = l then octets else withFcs l2

/-- The drop counters of a verdict. -/
def dropCounter (sl : Nat) : Nat → Fld
  | 0 => PR_EXC_DROP_CNT.count sl
  | 1 => PR_DENY_CNT.count sl
  | _ => PR_ACT_DROP_CNT.count sl

/-! ## Flow checks and requests (R254, R259, R299) -/

/-- A refusal that the Prism also counts (R254, R259). -/
def State.flowRefused (s : State) (sl : Nat) : State :=
  (s.inc (PR_FLOW_REFUSE_CNT.count sl)).set1 PR_EVENT.tenant_refused

/-- The copies of a frame that pass the checks of R254 and R306, each refused copy counted. -/
def State.checkCopies (s : State) (sl tenant : Nat) : List (Nat × Nat) → State × List (Nat × Nat)
  | [] => (s, [])
  | (f, p) :: r =>
    match s.flowCause tenant f p with
    | 0 =>
      let x := State.checkCopies s sl tenant r
      (x.1, (f, p) :: x.2)
    | c =>
      let s1 := s.refuse c tenant f
      State.checkCopies (if c = 4 then s1.flowRefused sl else s1) sl tenant r

/-- The second pass of a frame has ended: its token returns (R259), its buffers keep the edited frame and its slot serves its
first copy (R35); further copies of a flood reserve slots of their own (R304). -/
def State.secondDone (s : State) (f : InFrame) (cs : List (Nat × Nat)) : State :=
  let s0 := { s with pr := { s.pr with
    tokensHeld := nset f.slice (mgetD f.slice 0 s.pr.tokensHeld - 1) s.pr.tokensHeld } }
  match cs with
  | [] => ((s0.release f.group).unreserve f.slot).dropFrame f.id
  | c :: r =>
    let x := s0.reserveCopies f.tenant r
    let first : InFrame := { f with flow := c.1, ptidx := c.2, slice := s.flowSlice c.1, stage := .commit }
    let others := x.2.zipIdx.map fun (e : (Nat × Nat × Nat) × Nat) =>
      { first with
        id := x.1.pr.nextId + e.2, flow := e.1.1, ptidx := e.1.2.1, slice := s.flowSlice e.1.1, slot := some e.1.2.2 }
    let upd (b : BufGroup) : BufGroup := { b with refs := x.2.length + 1, octets := f.octets, tenant := f.tenant }
    let s1 := x.1.setFrame first
    let s2 := { s1 with
      pr := { s1.pr with frames := s1.pr.frames ++ others, nextId := s1.pr.nextId + others.length }
      shm := { s1.shm with groups := s1.shm.groups.map fun e => if e.1 = f.group then (e.1, upd e.2) else e } }
    match mget f.group s2.shm.groups with
    | some b => s2.fillBufs b.shelf b.ids f.octets
    | none => s2

/-- A frame goes to flow contexts: it passes to the slice bound to its context (R18, R236), and the copies that pass their checks ask
for buffers, or on a second pass use those held. -/
def State.toFlows (s : State) (sl : Nat) (f : InFrame) (cs : List (Nat × Nat)) : State × Bool :=
  let x := s.checkCopies sl f.tenant cs
  if f.second then (x.1.secondDone f x.2, false)
  else match x.2 with
    | [] => (x.1.dropFrame f.id, false)
    | c :: _ =>
      let sh := shelfFor f.octets.length
      (x.1.setFrame { f with
        flow := c.1, ptidx := c.2, slice := s.flowSlice c.1, copies := x.2, shelf := sh, bufs := bufsFor sh f.octets.length }, true)

/-- A bridge action (R251, R272 to R274): the lookups of FWD under the tenant and the outer VID of the frame. -/
def State.bridge (s : State) (sl : Nat) (f : InFrame) : State × Bool :=
  if !s.on FWD_CTRL.en then ((s.inc FWD_DISABLED_CNT.count).freeFrame f, false)
  else if !s.up 17 then (s.refuseFrame f 0xB, false)
  else
    let l := noFcs f.octets
    let vid := match outerTag (s.get PR_PARSE_CFG.tpid3) l 42 12 with
      | some o => fieldAt l (o + 2) 2 % 4096
      | none => 0xFFF
    let src : FwdKey := ⟨f.tenant, vid, fieldAt l 6 6⟩
    let dst : FwdKey := ⟨f.tenant, vid, fieldAt l 0 6⟩
    let d := s.fwdDest dst f.lif
    let s1 := d.1.fwdSource src f.lif
    if d.2.1.isEmpty then (s1.freeFrame f, false) else s1.toFlows sl f d.2.1

/-- An action is carried out (R251, R252, R258). The Boolean says whether the frame asks for buffers. -/
def State.carryOut (s : State) (sl : Nat) (f : InFrame) (p : Parse) (k : Looked) (idx : Nat) : State × Bool :=
  let a := p4Addr sl idx
  let w := s.word a
  let s := (s.countWord (a + 16) 1).countWord (a + 24) f.octets.length
  let g := { f with octets := s.editFrame sl p idx f.octets, excCode := none }
  match bitsOf w 57 4 with
  | 1 => s.toFlows sl g [(bitsOf w 34 16, bitsOf (s.word (a + 8)) 34 12)]
  | 2 => match s.spread sl f.gen (bitsOf w 26 8) k.key with
    | some c => s.toFlows sl g [c]
    | none => ((s.inc (PR_ACT_DROP_CNT.count sl)).freeFrame f, false)
  | 3 => s.bridge sl g
  | 4 => ({ s.freeFrame f with ge := { s.ge with agrIn := s.ge.agrIn ++ [⟨f.tenant, noFcs g.octets, f.stamp⟩] } }, false)
  | 5 =>
    let sh := shelfFor g.octets.length
    (s.setFrame { g with
      recirc := true, lif1 := k.lif, tenant1 := k.tenant, tkind := p.tunnel == .gtpu, tag := BitVec.ofNat 32 p.tunId
      shelf := sh, bufs := bufsFor sh g.octets.length }, true)
  | _ => (s.freeFrame f, false)

/-- A frame's TABLE_ERR comes from a P1 entry that is not visible and from no poison (R247, R255). -/
def State.onlyInvisible (s : State) (sl : Nat) (f : InFrame) (p : Parse) (k : Looked) : Bool :=
  !k.fromP1 && !k.miss && !(s.p0 sl f.gen (f.p0Key p)).2 && !s.poisoned (p1Addr sl k.lif)

/-- The pass of one frame ends (R250, R259). The Boolean says whether the frame asks for buffers. -/
def State.passEnd (s : State) (f0 : InFrame) : State × Bool :=
  let sl := f0.slice
  let p := parseFrame s.parseCfg (noFcs f0.octets)
  let k := s.look sl f0 p
  let v := s.verdict sl f0 p k
  let f := { f0 with tenant := k.tenant, lif := k.lif }
  let s1 := (s.setFrame f).countLook sl p k
  if f.second ∧ k.fromP1 ∧ f.tenant1 ≠ 0 ∧ k.tenant ≠ f.tenant1 then
    ((s1.refuseFrame f 4).flowRefused sl, false)
  else
    let s2 := if bit1 v.2 0 then s1.inc (PR_TABLE_ERR_CNT.count sl) else s1
    let s2 := if bit1 v.2 0 && !s.onlyInvisible sl f0 p k then s2.inc REL_POISON_RD_CNT.count else s2
    match v.1 with
    | .drop c => ((match c with | some n => s2.inc (dropCounter sl n) | none => s2).freeFrame f, false)
    | .exc flow code host =>
      (s2.inc (if host then PR_EXC_HOST_CNT.count sl else PR_EXC_POL_CNT.count sl)).toFlows sl
        { f with excCode := some code } [(flow, 0)]
    | .act idx => s2.carryOut sl f p k idx

/-- The passes of several frames end, in order: the state and the frames that ask for buffers. -/
def State.passEnds (s : State) : List InFrame → State × List Nat
  | [] => (s, [])
  | f :: r =>
    let x := s.passEnd f
    let y := State.passEnds x.1 r
    (y.1, if x.2 then f.id :: y.2 else y.2)

/-- PRISM_PASS_END (R250): the passes of the frames named end in one cycle, in slice order (R278); those with a flow context or a
recirculate action ask for buffers together (R302). -/
def execPrismPassEnd (ids : List Nat) (s : State) : Host.Outcome State Fault Refusal :=
  let fs := (List.range 4).flatMap fun k =>
    s.pr.frames.filter fun f => ids.contains f.id && decide (f.stage = .pass) && f.slice == k
  let x := s.passEnds fs
  (x.1.fwdCycleEnd.requestBuffers (x.1.pr.frames.filter fun f => x.2.contains f.id)).genCheck.done

/-! ## Entry into a Prism (R236 to R238, R299) -/

/-- A frame enters staging; it is checked when FRAME_STAGED takes it (R299). -/
def State.arrive (s : State) (octets : List Byte) (o : Origin) (stamp : Option Stamp) (sl : Nat) : State :=
  let f : InFrame := { id := s.pr.nextId, octets := octets, origin := o, stamp := stamp, stage := .staging, slice := sl }
  { s with pr := { s.pr with frames := s.pr.frames ++ [f], nextId := s.pr.nextId + 1 } }

/-- The first frame in staging is checked and enters its first pass, or is refused (R238, R267, R299). -/
def State.stageFrame (s : State) (f : InFrame) : State :=
  if !fcsGood f.octets then s.refuseFrame f 9
  else if !s.on PR_CTRL.en then (s.refuseFrame f 0xA).inc (PR_DISABLED_CNT.count f.slice)
  else if !s.up (13 + f.slice) || s.pwr.ingressOff then s.refuseFrame f 0xA
  else (s.setFrame { f with stage := .pass, gen := s.on PR_GEN_STATUS.active }).inc (PR_RX_CNT.count f.slice)

/-- A frame in staging waits at the crossing into its arrival slice while that slice is between Fence and Rejoin (R38). -/
def State.stageWaits (s : State) (f : InFrame) : Bool := s.isl (13 + f.slice) == 2

/-- FRAME_STAGED (R38, R299): the last octet of the oldest frame in staging that does not wait at a crossing has arrived. -/
def execFrameStaged (s : State) : Host.Outcome State Fault Refusal :=
  match s.pr.frames.find? fun f => decide (f.stage = .staging) && !s.stageWaits f with
  | some f => (s.stageFrame f).done
  | none => s.done

/-- The tokens of a slice that are not held (R258). -/
def State.tokensFree (s : State) (sl : Nat) : Nat :=
  max 1 (min 1024 (s.get PR_RECIRC_CFG.tokens)) - mgetD sl 0 s.pr.tokensHeld

/-- A waiting frame takes a token and starts its second pass (R258). -/
def State.tokenGrant (s : State) (f : InFrame) : State :=
  let s1 := s.setFrame { f with stage := .pass, second := true, recirc := true }
  let s2 := { s1 with pr := { s1.pr with
    tokensHeld := nset f.slice (mgetD f.slice 0 s1.pr.tokensHeld + 1) s1.pr.tokensHeld } }
  s2.inc (PR_PASS2_CNT.count f.slice)

/-- RECIRC_TOKEN_GRANT (R258): the first frame that waits in a slice takes a token, if one is free. -/
def execRecircTokenGrant (sl : Slice) (s : State) : Host.Outcome State Fault Refusal :=
  match s.pr.frames.find? fun f => decide (f.stage = .token) && f.slice == sl.val with
  | some f => if 0 < s.tokensFree sl.val then (s.tokenGrant f).done else s.done
  | none => s.done

/-! ## Rule generations (R260 to R266) -/

/-- The other generation becomes active (R260, R261). -/
def State.swapGen (s : State) : State :=
  let ks := (List.range 8).map fun k => (k, s.get (PR_KPROF.mask k))
  let hs := (List.range 8).map fun k => (k, s.get (PR_HPROF.mask k))
  let seed := s.get PR_HASH_SEED.seed
  let s1 := s.copyGen
  let s2 := { s1 with pr := { s1.pr with
    kprofAct := ks.filter fun e => e.2 != 0, hprofAct := hs.filter fun e => e.2 != 0, seedAct := seed } }
  ((s2.put PR_GEN_STATUS.active (1 - s.get PR_GEN_STATUS.active)).put PR_GEN_STATUS.draining 1).genCheck

/-- A write of 1 to PR_CTRL.swap (R261, R262). -/
def State.genSwap (s : State) : State :=
  if s.on PR_GEN_STATUS.draining then s.set1 PR_EVENT.swap_refused else s.swapGen

/-- GEN_SWAP (R261). -/
def execGenSwap (s : State) : Host.Outcome State Fault Refusal :=
  if s.answers [13, 14, 15, 16] then (s.wakeForWrite [13, 14, 15, 16]).genSwap.done else s.done

/-- The frames of the draining generation that still wait for a token are refused (R263). -/
def State.drainRefuse (s : State) : List InFrame → State
  | [] => s
  | f :: r =>
    State.drainRefuse (((s.refuseFrame f 0xA).inc (PR_DRAIN_REFUSE_CNT.count f.slice)).set1
      PR_EVENT.drain_refused) r

/-- GEN_DRAIN_TIMEOUT (R263): draining has lasted drain_us. -/
def execGenDrainTimeout (s : State) : Host.Outcome State Fault Refusal :=
  if s.on PR_GEN_STATUS.draining then
    (s.drainRefuse (s.pr.frames.filter fun f => s.inflightFrame f && decide (f.stage = .token))).genCheck.done
  else s.done

/-! ## Writing entries (R244, R256, R262) -/

/-- The tables of a slice. -/
inductive PTable where
  | p0 | p1 | p2 | p3 | p4 | ind | grp
  deriving DecidableEq, Repr

/-- The table at an offset of a slice's window, with the offset of the entry and the word (R244). -/
def prismEntry (o : Nat) : Option (PTable × Nat × Nat) :=
  let e (t : PTable) (st : Nat) : Option (PTable × Nat × Nat) := some (t, o - o % st, o % st / 8)
  if o % 8 ≠ 0 then none
  else if o < 0x100000 then e .p0 16
  else if o < 0x120000 then e .p1 8
  else if o < 0x400000 then none
  else if o < 0xC00000 then e .p2 64
  else if o < 0xE00000 then e .p3 256
  else if o < 0xF00000 then e .p4 32
  else if 0x1000000 ≤ o ∧ o < 0x1040000 then e .ind 8
  else if 0x1080000 ≤ o ∧ o < 0x1080800 then e .grp 8
  else none

/-- An address of the Prism windows: the slice field 0 to 4 and the offset (R244). -/
def prismWindow (a : Nat) : Option (Nat × Nat) :=
  if 0x1010000000 ≤ a ∧ a < 0x101A000000 then some ((a - 0x1010000000) / 0x2000000, (a - 0x1010000000) % 0x2000000)
  else none

/-- The slices that a slice field writes; 4 needs every slice in Run or Idle (R244). -/
def State.prismSlices (s : State) (f : Nat) : List Nat :=
  if f = 4 then (if (List.range 4).all fun k => s.up (13 + k) then List.range 4 else [])
  else if s.up (13 + f) then [f] else []

/-- A word of a table that is read-only (R248, R249, R251). -/
def PTable.ro (t : PTable) (w : Nat) : Bool :=
  match t with
  | .p2 => w == 6
  | .p3 => w == 17
  | .p4 => w == 2 || w == 3
  | _ => false

/-- The staging buffer of a requester for a slice (R256). -/
def prismBuf (r : Requester) (sl : Nat) : Nat := 4 * r.val + sl

/-- A word is staged (R256). -/
def State.prismStage (s : State) (r : Requester) (sl e w : Nat) (d : Word64) : State :=
  let k := prismBuf r sl
  let s1 := if (stagedFor k e s.pr.staged).2 then s.set1 PR_EVENT.stage_discard else s
  { s1 with pr := { s1.pr with staged := stageWord k e w d s1.pr.staged } }

/-- PRISM_STAGE_WRITE (R256): a write of a word other than word 0 is staged; a read-only word is ignored. -/
def execPrismStageWrite (r : Requester) (a : BitVec 40) (d : BitVec 64) (s : State) :
    Host.Outcome State Fault Refusal :=
  match prismWindow a.toNat with
  | none => s.done
  | some (f, o) =>
    match prismEntry o with
    | some (t, e, w + 1) =>
      if t.ro (w + 1) then s.done
      else ((s.prismSlices f).foldl (fun s sl => (s.ungate (13 + sl)).prismStage r sl e (w + 1) d) s).done
    | _ => s.done

/-- The word that an entry would hold after a commit. -/
def State.newWord (s : State) (a w : Nat) (d : Word64) (ws : List (Nat × Word64)) : Nat :=
  if w = 0 then d.toNat else match mget w ws with
    | some x => x.toNat
    | none => s.word (a + 8 * w)

/-- A commit leaves the draining generation's view of an entry of P0 to P4 as it is (R262). -/
def State.viewKept (s : State) (a : Nat) (d : Word64) (ws : List (Nat × Word64)) : Bool :=
  let act := s.on PR_GEN_STATUS.active
  let v0 := visible (s.tword a) (!act)
  let v1 := visible d.toNat (!act)
  let drop (w : Nat) : Nat := withBits w (if act then 61 else 62) 1 0
  (v0 == v1) && (!v0 || (drop (s.word a) == drop d.toNat && ws.all fun x => s.word (a + 8 * x.1) == x.2.toNat))

/-- A write leaves the draining generation's view of a P5 group as it is (R262). -/
def State.groupKept (s : State) (a : Nat) (d : Word64) : Bool :=
  let g := !s.on PR_GEN_STATUS.active
  let w := s.tword a
  let v := d.toNat
  bit1 w 63 == bit1 v 63 && bitsOf w 0 3 == bitsOf v 0 3 && groupRange w g == groupRange v g

/-- An indirection entry lies in a group that is valid for the draining generation (R262). -/
def State.inDrainGroup (s : State) (sl i : Nat) : Bool :=
  let g := !s.on PR_GEN_STATUS.active
  (List.range 256).any fun n =>
    let w := s.tword (p5Addr sl n)
    groupOk w g && decide ((groupRange w g).2 ≤ i) && decide (i < (groupRange w g).2 + 2 ^ (groupRange w g).1)

/-- A write changes no indirection entry that the draining generation uses (R262). -/
def State.indKept (s : State) (sl a : Nat) (d : Word64) : Bool :=
  let i := 2 * ((a - indAddr sl 0) / 8)
  [i, i + 1].all fun j => halfOf (s.tword a) j == halfOf d.toNat j || !s.inDrainGroup sl j

/-- The generation rules let a commit take effect (R262). -/
def State.commitOk (s : State) (sl : Nat) (t : PTable) (a : Nat) (d : Word64) (ws : List (Nat × Word64)) : Bool :=
  !s.on PR_GEN_STATUS.draining || (match t with
    | .ind => s.indKept sl a d
    | .grp => s.groupKept a d
    | _ => s.viewKept a d ws)

/-- A write of word 0 commits an entry in one slice (R256, R262). -/
def State.prismCommit (s : State) (r : Requester) (sl : Nat) (t : PTable) (e : Nat) (d : Word64) : State :=
  let k := prismBuf r sl
  let st := stagedFor k e s.pr.staged
  let s1 := if st.2 then s.set1 PR_EVENT.stage_discard else s
  let s2 := { s1 with pr := { s1.pr with staged := mdel k s1.pr.staged } }
  let a := prismBase sl + e
  if s2.commitOk sl t a d st.1 then s2.commitWords a d st.1 else s2.set1 PR_EVENT.gen_write_refused

/-- PRISM_ENTRY_COMMIT (R256): a write of word 0 commits the entry with the words staged for it. -/
def execPrismEntryCommit (r : Requester) (a : BitVec 40) (d : BitVec 64) (s : State) :
    Host.Outcome State Fault Refusal :=
  match prismWindow a.toNat with
  | none => s.done
  | some (f, o) =>
    match prismEntry o with
    | some (t, e, 0) => ((s.prismSlices f).foldl (fun s sl => (s.ungate (13 + sl)).prismCommit r sl t e d) s).done
    | _ => s.done

/-- The key octets that a mask selects, octet 0 always among them (R248). -/
def maskCount (m : Nat) : Nat := (bitList 64 (m ||| 1)).length

/-- The LO half of a profile pair written last and not committed, or that of the copy (R248). -/
def State.pairLoOf (s : State) (key : Nat) (f : Fld) : Nat := (mget key s.pr.pairLo).getD (s.get f % 2 ^ 32)

/-- A write of the LO half of PR_KPROF_k (key k) or PR_HPROF_k (key 8 + k) is kept for the commit (R262). -/
def State.pairLoWrite (s : State) (key d : Nat) : State :=
  if s.on PR_GEN_STATUS.draining then s.set1 PR_EVENT.gen_write_refused
  else { s with pr := { s.pr with pairLo := mset key d s.pr.pairLo } }

/-- A write of PR_KPROF_k_HI commits the pair, or is refused (R248, R262). -/
def State.kprofWrite (s : State) (k hi : Nat) : State :=
  let m := hi * 2 ^ 32 + s.pairLoOf k (PR_KPROF.mask k)
  if s.on PR_GEN_STATUS.draining then s.set1 PR_EVENT.gen_write_refused
  else if 40 < maskCount m then s.set1 PR_EVENT.kprof_refused
  else { s.put (PR_KPROF.mask k) m with pr := { s.pr with pairLo := mdel k s.pr.pairLo } }

/-- A write of PR_HPROF_k_HI commits the pair (R260, R262). -/
def State.hprofWrite (s : State) (k hi : Nat) : State :=
  if s.on PR_GEN_STATUS.draining then s.set1 PR_EVENT.gen_write_refused
  else { s.put (PR_HPROF.mask k) (hi * 2 ^ 32 + s.pairLoOf (8 + k) (PR_HPROF.mask k)) with
    pr := { s.pr with pairLo := mdel (8 + k) s.pr.pairLo } }

/-- KPROF_WRITE (R248): a write of PR_KPROF_k_HI. -/
def execKprofWrite (k : Fin 8) (hi : BitVec 32) (s : State) : Host.Outcome State Fault Refusal :=
  if s.answers [13, 14, 15, 16] then ((s.wakeForWrite [13, 14, 15, 16]).kprofWrite k.val hi.toNat).done else s.done

end Sys2Proof.Machine
end

