-- ==== Sys2Proof/Machine/Framing.lean ====
section
/-! DEFINITION. The content of a downstream tree frame (R81 to R86) and tree-layer encryption (R105). -/

namespace Sys2Proof.Config

/-- The framing sublayer frame of a tree mode: the bandwidth map, the PLOAM partition and the XGEM payload of a tree frame in octets
(R81); the standards of R79 fix it. -/
opaque framing : Bool → Machine.TreeFrame → List Byte

end Sys2Proof.Config

namespace Sys2Proof.Machine

/-- The octets of a tree frame on the lane: the synchronisation block, and the framing sublayer frame FEC-encoded (R81). -/
def State.laneOctets (s : State) (t : Nat) (f : TreeFrame) : List Byte :=
  f.block ++ Config.fecEncode (s.isXgs t) (Config.framing (s.isXgs t) f)

/-- AES-128 in counter mode over an XGEM payload (R105), the same for encryption and decryption. The position is counted in octets of
XGEM frames from the start of the payload or of the burst (DEDUCED, log 132). -/
def ctrCrypt (key : BitVec 128) (sfc pos : Nat) (l : List Byte) : List Byte :=
  l.mapIdx fun i b => b ^^^ Config.treeKeystream key sfc pos i

/-- Payload octets of an XGEM frame for n octets. PRESUMED (log 9): padded to a multiple of 4. -/
def xgemOctets (n : Nat) : Nat := xgemHeader + roundUp n 4

/-- A tree-layer key may be used: it is valid and the SFC is past the value at its writing (R108). -/
def State.keyLive (s : State) (t : Nat) (k : KeySlot) : Bool := k.valid && decide (k.sfc < s.get (TE_SFC.sfc t))

/-- The key index of the header and the key of a port-table entry: the one in use of its terminal or of the tree (R83, R84, R105). -/
def State.entryKey (s : State) (t w : Nat) : Option (Nat × KeySlot) :=
  let onu := bitsOf w 40 8
  match bitsOf w 57 2 with
  | 1 => some (s.uUsed t onu, mgetD (ukey onu (s.uUsed t onu)) {} (s.tree t).ukeys)
  | 2 => some ((s.tree t).bInUse, mgetD (s.tree t).bInUse {} (s.tree t).bkeys)
  | _ => none

/-- The key of a port-table entry is valid, or the entry needs none (R105, R109). -/
def State.treeKeyOk (s : State) (t w : Nat) : Bool :=
  match s.entryKey t w with
  | some k => s.keyLive t k.2
  | none => true

/-- A payload under the key of a port-table entry. -/
def State.entryCrypt (s : State) (t w : Nat) (l : List Byte) : List Byte :=
  match s.entryKey t w with
  | some k => ctrCrypt k.2.key (s.get (TE_SFC.sfc t)) ((s.tree t).payTotal - (s.tree t).payLeft) l
  | none => l

/-- Octets of an accepted frame leave in an XGEM frame of the tree frame (R83, R85, R86). -/
def State.sendXgem (s : State) (t w : Nat) (last : Bool) (l : List Byte) : State :=
  let p : FramePart := .xgem (bitsOf w 0 16) ((s.entryKey t w).map (·.1) |>.getD 0) last (s.entryCrypt t w l)
  s.modTree t fun x => { x with
    frame := { x.frame with payload := x.frame.payload ++ [p] }, payLeft := x.payLeft - xgemOctets l.length }

/-- The next n octets of the payload are filled with idle XGEM frames (R83). -/
def TreeSt.idleFill (x : TreeSt) (n : Nat) : TreeSt :=
  if n = 0 then x
  else { x with frame := { x.frame with payload := x.frame.payload ++ [.idle n] }, payLeft := x.payLeft - n }

/-- The payload that has passed since the tick unused has been filled (R83, R85): the payload is taken to pass evenly, and the
sequencer's buffer gives the engine no lead (DEDUCED, log 133). -/
def State.passPayload (s : State) (t : Nat) : State :=
  s.modTree t fun x =>
    let passed := x.payTotal * min 125000 (s.localNs - s.ge.tickNs) / 125000
    x.idleFill (min x.payLeft (passed - (x.payTotal - x.payLeft)))

/-- A tree frame begins (R80, R81): the one before it has had its gaps filled, and the sequencer forms the synchronisation block. -/
def State.beginFrame (s : State) (t k : Nat) (fill : Bool) (total : Nat) : State :=
  let v := s.get (TE_SFC.sfc t)
  s.modTree t fun x => { x with
    lastFrame := (x.idleFill x.payLeft).frame, payTotal := total, payLeft := total
    frame := { k := k, sfc := v, block := Config.physSync (s.isXgs t) v, fill := fill } }

/-- The sequencer fills the rest of the tree frame with idle XGEM frames (R89). -/
def State.fillRest (s : State) (t : Nat) : State := s.modTree t fun x => x.idleFill x.payLeft

end Sys2Proof.Machine
end

