-- ==== Sys2Proof/Machine/PowerOps.lean ====
section
/-! DEFINITION. The load estimate and cap (R477), negotiations of the Supply Port (R480, R481), grants of tree power (R478) and
wake events (R485): what several chapters share of the power controller. -/

namespace Sys2Proof.Machine

/-- The amount of a tree in the estimate, in 0.1 W (R477). -/
def State.treeLoad (s : State) (t : Nat) : Nat :=
  if s.isXgs t then s.get PWR_BUDGET_CFG.txgs_dw else s.get PWR_BUDGET_CFG.t50_dw

/-- A tree counts in the estimate: Lit, Active, Doze, or going Lit with its Power step granted (R477, R478, R479). -/
def State.treeCounts (s : State) (t : Nat) : Bool :=
  match s.treeState t with
  | 2 => true | 3 => true | 4 => true
  | 5 => decide ((s.tree t).step ≠ .power)
  | _ => false

/-- The load estimate est (R477). -/
def State.est (s : State) : Nat :=
  (List.range 32).foldl (fun a t => if s.treeCounts t then a + s.treeLoad t else a) (s.get PWR_BUDGET_CFG.base_dw)

/-- The cap (R477). -/
def State.cap (s : State) : Nat := 1720 * min (s.get PWR_PHASE.in_service) 22 / 22

/-- The set point of a load raise to an estimate (R480); before any set point was written, v_low (DESIGN CHOICE, log 22). -/
def State.raisePoint (s : State) (est : Nat) : Nat :=
  if s.get PWR_SUP_CFG.thr_w * 10 < est then s.get PWR_SUP_CFG.v_high
  else if s.get PWR_SUP_STATUS.setpoint = 0 then s.get PWR_SUP_CFG.v_low
  else s.get PWR_SUP_STATUS.setpoint

/-- A negotiation ends at once: negotiation is off, or v_high is the set point in force (R480), the one acknowledged or requested last
(DEDUCED, log 153). -/
def State.negAtOnce (s : State) : Bool :=
  !s.on PWR_SUP_CFG.en || s.get PWR_SUP_CFG.v_high == s.pwr.inForce

/-- A transaction of the Supply Port with its PEC (R480); a data word goes low octet first (PRESUMED, log 153). -/
def supplyMsg (a cmd : Nat) (read : Bool) (data : List Byte) : SupplyMsg :=
  let o (n : Nat) : Byte := BitVec.ofNat 8 n
  ⟨a, cmd, read, data, crc8 ((if read then [o (2 * a), o cmd, o (2 * a + 1)] else [o (2 * a), o cmd]) ++ data)⟩

/-- A voltage in mV as a data word of the Supply Port, in the converter's format (R480). -/
def State.voutData (s : State) (mv : Nat) : List Byte :=
  let w := (Config.voutWord s.pwr.voutMode mv).toNat
  [BitVec.ofNat 8 w, BitVec.ofNat 8 (w / 256)]

/-- The set point is written: VOUT_MODE is read for the format, and VOUT_COMMAND is written (R480). -/
def State.supplyWrite (s : State) (sp : Nat) : State :=
  let a := s.get PWR_SUP_CFG.addr
  let s1 := s.put PWR_SUP_STATUS.setpoint sp
  { s1 with pwr := { s1.pwr with
      supply := [supplyMsg a 0x20 true [s.pwr.voutMode], supplyMsg a 0x21 false (s.voutData (100 * sp))] } }

/-- READ_VOUT is read (R480): a value in 10 mV units. -/
def State.supplyRead (s : State) (vout : Nat) : State :=
  let s1 := s.put PWR_SUP_STATUS.vout_mv vout
  { s1 with pwr := { s1.pwr with supply := [supplyMsg (s.get PWR_SUP_CFG.addr) 0x8B true (s.voutData (10 * vout))] } }

/-- A negotiation begins: the set point is written (R480). -/
def State.negBegin (s : State) (why : NegFor) (sp : Nat) : State :=
  let s1 := (s.supplyWrite sp).put PWR_SUP_STATUS.result 3
  { s1 with pwr := { s1.pwr with neg := why, negSet := sp, negRetried := false } }

/-- A load raise to an estimate needs a negotiation, which begins; false where the raise may go on at once (R480). -/
def State.raise (s : State) (why : NegFor) (est : Nat) : State × Bool :=
  if s.negAtOnce then (s, false) else (s.negBegin why (s.raisePoint est), true)

/-- A tree's load is granted (R478): the Power step may end. -/
def State.grantTree (s : State) (t : Nat) : State :=
  { s with pwr := { s.pwr with waiting := s.pwr.waiting.erase t, granted := s.pwr.granted.filter (· != t) ++ [t] } }

/-- The load of the trees granted and not yet past their Power step. -/
def State.grantedLoad (s : State) : Nat :=
  s.pwr.granted.foldl (fun a t => if s.treeCounts t then a else a + s.treeLoad t) 0

/-- A waiting tree is judged (R478, R480, R481): granted, or a negotiation begins, or it goes on waiting. -/
def State.judgeTree (s : State) (t : Nat) : State :=
  let e := s.est + s.grantedLoad + s.treeLoad t
  if s.cap < e ∨ s.pwr.neg ≠ .none then s
  else
    let r := s.raise .tree e
    if r.2 then r.1 else r.1.grantTree t

/-- Every waiting tree is judged in turn. -/
def State.judgeTrees (s : State) : State := s.pwr.waiting.foldl State.judgeTree s

/-- A tree asks for its load (R101, R478). -/
def State.askPower (s : State) (t : Nat) : State :=
  State.judgeTree { s with pwr := { s.pwr with
    waiting := s.pwr.waiting.filter (· != t) ++ [t], granted := s.pwr.granted.filter (· != t) } } t

/-- A tree no longer asks. -/
def State.dropPower (s : State) (t : Nat) : State :=
  { s with pwr := { s.pwr with waiting := s.pwr.waiting.erase t, granted := s.pwr.granted.erase t } }

/-- The estimate with every tree Dark. -/
def State.darkEst (s : State) : Nat := s.get PWR_BUDGET_CFG.base_dw

/-- The wake sequence starts with Supply (R485, R486). -/
def State.wakeStart (s : State) (sources : Nat) : State :=
  let s1 := (s.put PWR_WAKE_SRC.sources sources).put PWR_STATUS.state 4
  let r := State.raise { s1 with pwr := { s1.pwr with step := .wakeSupply, retried := false } } .wake s1.darkEst
  if r.2 then r.1 else { r.1 with pwr := { r.1.pwr with step := .wakeRails } }

/-- Events of wake sources in one cycle (R485, R450), a bit each: in Standby the enabled ones start the wake, and all of them are
recorded; during the Standby sequence they are held. -/
def State.wakeEvents (s : State) (m : Nat) : State :=
  let e := m &&& s.get PWR_WAKE_CFG.sources
  if e = 0 then s
  else if s.get PWR_STATUS.state = 3 ∨ s.get PWR_STATUS.state = 5 then s.wakeStart e
  else if s.get PWR_STATUS.state = 2 then { s with link := { s.link with wakeHeld := s.link.wakeHeld ||| e } }
  else s

/-- An event of wake source b alone (R485). -/
def State.wakeEvent (s : State) (b : Nat) : State := s.wakeEvents (1 <<< b)

end Sys2Proof.Machine
end

