-- ==== Sys2Proof/Machine/Time.lean ====
section
/-! DEFINITION. The commands of the Time Unit (R385 to R400). -/

namespace Sys2Proof.Machine

/-- Every gate list resumes where the new ToD puts it (R394, R352). -/
def State.gatesResume (s : State) : State := (List.range 36).foldl (fun s q => if s.gated q then s.gateRefresh q else s) s

/-- The ticks are aligned, or the write is refused (R385). -/
def State.tuAlign (s : State) : State :=
  if s.allDark ∧ s.on TU_STATUS.time_set then s.alignTicks else s.set1 TU_EVENT.step_refused

/-- TU_ALIGN (R385): a write of 1 to TU_CTRL.align. -/
def execTuAlign (s : State) : Host.Outcome State Fault Refusal :=
  if s.answers [21] then s.tuAlign.done else s.done

/-- The nanoseconds of a step (R392). -/
def State.stepNs (s : State) : Nat := bitsOf (s.get TU_STEP_NS.value) 0 30

/-- The amount of a relative step in ns (R392). -/
def State.relAmount (s : State) : Int :=
  signedOf (s.get TU_STEP_S.value) 48 * 1000000000 +
    (if bit1 (s.get TU_STEP_NS.value) 31 then -(s.stepNs : Int) else (s.stepNs : Int))

/-- A step uses the arm and clears the offset still to slew (R392). -/
def State.stepArmUsed (s : State) : State :=
  let s1 := (s.put TU_STATUS.step_armed 0).put TU_REMAIN.offset_ns 0
  { s1 with tu := { s1.tu with slewRem := 0 } }

/-- A step is commanded (R392): a relative one is made, an absolute one waits for its instant, or it is refused; while one waits the
action runs, and a further start is ignored (R9). The arm is used at the write (DEDUCED, log 23). -/
def State.tuStep (s : State) (abs : Bool) : State :=
  if s.tu.absPending.isSome then s
  else if !s.on TU_STATUS.step_armed ∨ (abs ∧ 1000000000 ≤ s.stepNs) then s.set1 TU_EVENT.step_refused
  else if abs then
    let s1 := s.stepArmUsed
    { s1 with tu := { s1.tu with absPending := some (s.get TU_STEP_S.value * 1000000000 + s.stepNs) } }
  else (s.stepArmUsed.stepBy (s.relAmount * 65536)).gatesResume

/-- TU_STEP (R392): a write of 1 to TU_CTRL.step; d gives step_abs. -/
def execTuStep (d : BitVec 32) (s : State) : Host.Outcome State Fault Refusal :=
  if s.answers [21] then
    ((s.put TU_CTRL.step_abs (TU_CTRL.step_abs.of d.toNat)).tuStep (bit1 d.toNat 2)).done
  else s.done

/-- TU_ABS_STEP_EFFECT (R392): the instant has come and the ToD takes the value of the absolute step. -/
def execTuAbsStepEffect (s : State) : Host.Outcome State Fault Refusal :=
  match s.tu.absPending with
  | none => s.done
  | some ns =>
    ((State.stepBy { s with tu := { s.tu with absPending := none } } ((ns * 65536 : Nat) - (s.tod : Int))).gatesResume).done

/-- A re-arm (R393): only from the host link, and only while no step is armed. -/
def State.tuRearm (s : State) (r : Nat) : State :=
  if r ≠ 0 ∨ s.on TU_STATUS.step_armed then s
  else ((s.set1 TU_STATUS.step_armed).set1 TU_EVENT.rearmed).inc TU_REARM_CNT.count

/-- TU_REARM (R393): a write of 1 to TU_CTRL.rearm. -/
def execTuRearm (r : Requester) (s : State) : Host.Outcome State Fault Refusal :=
  if s.answers [21] then (s.tuRearm r.val).done else s.done

/-- A write of TU_OFFSET (R390, R391). -/
def State.tuOffset (s : State) (d : Nat) : State :=
  let m := (signedOf d 32).natAbs
  let s1 := s.put TU_REMAIN.offset_ns d
  let s2 := { s1 with tu := { s1.tu with slewRem := 0 } }
  if max 1 (s.get TU_SLEW_CFG.alarm_ns) < m then
    ((s2.set1 TU_TIME_JUMP.jump).put TU_TIME_JUMP.last_ns (min m (2 ^ 31 - 1))).inc TU_JUMP_CNT.count
  else s2

/-- TU_OFFSET_WRITE (R390, R391). -/
def execTuOffsetWrite (d : BitVec 32) (s : State) : Host.Outcome State Fault Refusal :=
  if s.answers [21] then (s.tuOffset d.toNat).done else s.done

/-- The FIFO of transmit stamps of an uplink port (R388). -/
def State.txts (s : State) (p : Nat) : List TxStamp := mgetD p [] s.tu.txts

/-- A read of TU_TXTS_TAG_p (R388): the word read, and the FIFO after it. -/
def State.txtsRead (s : State) (p : Nat) : State × Nat :=
  match s.txts p with
  | [] => (s, 0)
  | x :: r =>
    let s1 := { s with tu := { s.tu with txts := mset p r s.tu.txts } }
    ((s1.put (TU_TXTS_NS.value p) (x.todNs % 1000000000)).put (TU_TXTS_S.value p) (x.todNs / 1000000000),
      1 <<< 31 ||| (x.msgType % 16) <<< 24 ||| (x.domain % 256) <<< 16 ||| x.seqId % 65536)

/-- TXTS_READ (R388): a requester reads the tag of the oldest transmit stamp of port p. -/
def execTxtsRead (r : Requester) (p : UpPort) (s : State) : Host.Outcome State Fault Refusal :=
  if s.answers [21] then
    let x := s.txtsRead p.val
    (x.1.answer r.val 0 [BitVec.ofNat 64 x.2]).done
  else (s.answer r.val 1 [0]).done

/-- The asymmetry in ps of the trunk in use of a tree (R63, R396). -/
def State.trunkAsym (s : State) (t : Nat) : Int :=
  let a : Asym := mgetD t {} s.struct.asym
  if s.on (TE_TRUNK.active t) then a.ps1 else a.ps0

/-- The deviation of a PSync's departure from its nominal instant, in ps: an open value within 20 ns at 0.5 ns (R387). -/
def State.psyncDev (s : State) : Int := ((s.freeVal % 81 : Nat) : Int) * 500 - 20000

/-- T of R396 in units of 2^-16 ns, for the tick at a local count in ns. -/
def State.todResult (s : State) (t tickNs : Nat) : Nat :=
  ((tickNs * 65536 : Nat) + s.tu.todOff +
    psUnits ((s.txLatencyPs t : Int) + s.psyncDev + signedOf (s.get (TU_TRIM.tx_trim_ps t)) 16 + s.trunkAsym t)).toNat

/-- A request for a ToD result (R396). -/
def State.todRequest (s : State) (d : Nat) : State :=
  let t := TU_TOD_REQ.tree.of d
  let ah := TU_TOD_REQ.ahead.of d
  let s1 := ((s.put TU_TOD_REQ.tree t).put TU_TOD_REQ.ahead ah).put TU_TOD_REQ.ready 0
  let s2 := { s1 with tu := { s1.tu with todReqTarget := none } }
  if s.treeState t = 2 ∨ s.treeState t = 3 then
    let a := max 8 ah
    let tick := s.lastTickNs + a * 125000
    let ns := s.todResult t tick / 65536
    let s3 := ((s2.drawn.put TU_TOD_SFC.value (s.get (TE_SFC.sfc t) + a)).put TU_TOD_RES_NS.value (ns % 1000000000)).put
      TU_TOD_RES_S.value (ns / 1000000000)
    { s3.set1 TU_TOD_REQ.ready with tu := { s3.tu with todReqTarget := some (t, tick) } }
  else s2

/-- TOD_REQUEST (R396): a write of TU_TOD_REQ with go. -/
def execTodRequest (d : BitVec 32) (s : State) : Host.Outcome State Fault Refusal :=
  if s.answers [21] then (s.todRequest d.toNat).done else s.done

/-- The second that a PPS_OUT edge now marks (R398). -/
def State.ppsSecond (s : State) : Nat :=
  (((s.todNs : Int) - signedOf (s.get TU_PPS_CFG.out_adj_ns) 16 + 500000000) / 1000000000).toNat

/-- PPS_OUT_EDGE (R398): PPS_OUT rises, and a TOD_TX message falls due (R399). -/
def execPpsOutEdge (s : State) : Host.Outcome State Fault Refusal :=
  if s.on TU_PPS_CFG.out_en ∧ s.on TU_STATUS.time_set ∧ s.tu.running then
    { s with tu := { s.tu with ppsHigh := true, ppsEdgeS := s.ppsSecond, ppsMsgDue := true } }.done
  else s.done

/-- PPS_OUT_PULSE_END (R398): width_ms has passed and PPS_OUT falls. -/
def execPpsOutPulseEnd (s : State) : Host.Outcome State Fault Refusal :=
  { s with tu := { s.tu with ppsHigh := false } }.done

/-- A PPS_IN edge is stamped (R398). -/
def State.ppsStamp (s : State) : State :=
  (((s.put TU_PPS_IN_NS.value (s.todNs % 1000000000)).put TU_PPS_IN_S.value (s.todNs / 1000000000)).inc
    TU_PPS_IN_CNT.count).set1 TU_EVENT.pps_in

/-- PPS_IN_EDGE (R398, R485): an edge of PPS_IN with the width of its pulse; a pulse below 100 ns is ignored. -/
def execPpsInEdge (falling : Bool) (widthNs : BitVec 32) (s : State) : Host.Outcome State Fault Refusal :=
  if widthNs.toNat < 100 ∨ falling ≠ s.on TU_PPS_CFG.in_edge then s.done
  else
    let s1 := if s.on TU_PPS_CFG.in_en ∧ s.stamping ∧ s.tu.running then s.ppsStamp else s
    (s1.wakeEvent 2).done

/-- The first 15 octets of a TOD_TX message (R399). -/
def State.todBody (s : State) : List Byte :=
  octetsBE 1 0x5A ++ octetsBE 1 1 ++ octetsBE 6 s.tu.ppsEdgeS ++ octetsBE 2 (s.get TU_TOD_CFG.utc_offset) ++
    octetsBE 1 (s.get TU_TOD_CFG.clock_class) ++
    octetsBE 1 ((if s.on TU_TOD_CFG.traceable then 0x80 else 0) + (if s.on TU_STATUS.time_set then 0x40 else 0) +
      (if s.on TU_STATUS.holdover then 0x20 else 0)) ++
    octetsBE 2 s.tu.todSeq ++ octetsBE 1 0

/-- Octets with the octet that makes their sum 0 modulo 256 (R399). -/
def withChecksum (l : List Byte) : List Byte := l ++ [0 - l.foldl (· + ·) 0]

/-- TOD_TX_MESSAGE (R399, R400): 10 ms after a PPS_OUT edge the message that describes it is sent. -/
def execTodTxMessage (s : State) : Host.Outcome State Fault Refusal :=
  if s.on TU_TOD_CFG.tx_en ∧ s.tu.ppsMsgDue ∧ s.stamping then
    { s with tu := { s.tu with
      todSent := withChecksum s.todBody, todSeq := (s.tu.todSeq + 1) % 65536, ppsMsgDue := false } }.done
  else { s with tu := { s.tu with ppsMsgDue := false } }.done

/-- TOD_RX_OCTET (R399): an octet enters the FIFO of 64, or is lost. -/
def execTodRxOctet (o : BitVec 8) (s : State) : Host.Outcome State Fault Refusal :=
  if !s.on TU_TOD_CFG.rx_en ∨ !s.stamping then s.done
  else if s.tu.todRx.length < 64 then { s with tu := { s.tu with todRx := s.tu.todRx ++ [o] } }.done
  else ((s.inc TU_TOD_RX_LOST_CNT.count).set1 TU_EVENT.tod_rx_overflow).done

/-- A read of TU_TOD_RX (R399): the word read, and the FIFO after it. -/
def State.todRxRead (s : State) : State × Nat :=
  match s.tu.todRx with
  | [] => (s, 0)
  | o :: r => ({ s with tu := { s.tu with todRx := r } },
      1 <<< 31 ||| (min 63 s.tu.todRx.length) <<< 24 ||| o.toNat)

/-- TOD_RX_READ (R399): a requester reads the oldest octet received. -/
def execTodRxRead (r : Requester) (s : State) : Host.Outcome State Fault Refusal :=
  if s.answers [21] then
    let x := s.todRxRead
    (x.1.answer r.val 0 [BitVec.ofNat 64 x.2]).done
  else (s.answer r.val 1 [0]).done

/-- TU_SLEW_END (R390): the offset has been slewed, and s is 0. -/
def execTuSlewEnd (s : State) : Host.Outcome State Fault Refusal :=
  { s.put TU_REMAIN.offset_ns 0 with tu := { s.tu with slewRem := 0 } }.done

/-- FREQ_RAMP_END (R390): f has reached the target. -/
def execFreqRampEnd (s : State) : Host.Outcome State Fault Refusal :=
  { s with tu := { s.tu with f := s.freqTarget, fRem := 0 } }.done

end Sys2Proof.Machine
end

