-- ==== Sys2Proof/Machine/Uplink.lean ====
section
/-! DEFINITION. The uplink ports, elimination of replicated frames, and the Benches (R202 to R205, R402 to R419, R549). -/

namespace Sys2Proof.Machine

/-! ## Elimination (R202, R205) -/

/-- The address of a word of a stream of the recovery table. -/
def frerAddr (i w : Nat) : Nat := 0x1000340000 + 32 * i + 8 * w

/-- What a stream keeps. -/
def State.frerSt (s : State) (i : Nat) : FrerStream := mgetD i {} s.frer

/-- The state with what a stream keeps replaced. -/
def State.setFrer (s : State) (i : Nat) (x : FrerStream) : State := { s with frer := mset i x s.frer }

/-- The streams of the recovery table that memory lists as valid. -/
def State.frerValid (s : State) : List Nat :=
  (s.mem.filter fun e => decide (0x1000340000 ≤ e.1) && decide (e.1 < 0x1000348000) && e.1 % 32 == 0 &&
    decide (128 ≤ e.2.toNat) && !s.poisoned e.1).map fun e => (e.1 - 0x1000340000) / 32

/-- The offset of the R-TAG of a frame, VLAN tags stepped over. -/
def rtagAt (tpid3 : Nat) (l : List Byte) : Nat → Nat → Option Nat
  | 0, _ => none
  | n + 1, o =>
    let e := fieldAt l o 2
    if l.length < o + 6 then none
    else if e = 0xF1C1 then some o
    else if e = 0x8100 ∨ e = 0x88A8 ∨ e = tpid3 then rtagAt tpid3 l n (o + 4)
    else none

/-- The lowest stream that a frame matches by destination address and outer VID (R205). -/
def State.frerMatch (s : State) (l : List Byte) : Option Nat :=
  let vid := match outerTag (s.get PR_PARSE_CFG.tpid3) l 42 12 with
    | some o => fieldAt l (o + 2) 2 % 4096
    | none => 0xFFF
  s.frerValid.find? fun i => bitsOf (s.word (frerAddr i 0)) 48 12 == vid && bitsOf (s.word (frerAddr i 0)) 0 48 == fieldAt l 0 6

/-- The history length of a stream (R205). -/
def State.histLen (s : State) (i : Nat) : Nat := max 2 (min 128 (bitsOf (s.tword (frerAddr i 1)) 56 8))

/-- What the vector recovery algorithm decides. -/
inductive Recovery where
  | pass | duplicate | rogue
  deriving DecidableEq, Repr

/-- The vector recovery algorithm of IEEE 802.1CB (PRESUMED, log 29): a stream with history length n takes a sequence number. -/
def FrerStream.recover (x : FrerStream) (n seq : Nat) : FrerStream × Recovery :=
  let up (c : Nat) : Nat := min (c + 1) (2 ^ 32 - 1)
  if x.take then
    ({ x with take := false, recovSeq := seq, history := true :: List.replicate (n - 1) false, passed := up x.passed }, .pass)
  else
    let d := signedOf (seq + 65536 - x.recovSeq) 16
    if (n : Int) ≤ d ∨ d ≤ -(n : Int) then ({ x with rogue := min (x.rogue + 1) 65535 }, .rogue)
    else if d ≤ 0 then
      let k := (-d).toNat
      if x.history[k]?.getD false then ({ x with discarded := up x.discarded }, .duplicate)
      else
        let h := (x.history ++ List.replicate (n - x.history.length) false).set k true
        ({ x with history := h, passed := up x.passed, outOfOrder := up x.outOfOrder }, .pass)
    else
      let k := d.toNat
      let h := (true :: List.replicate (k - 1) false ++ x.history).take n
      ({ x with
        history := h, recovSeq := seq, passed := up x.passed
        outOfOrder := if d = 1 then x.outOfOrder else up x.outOfOrder }, .pass)

/-- A received frame without its FCS goes through elimination: the state and the frame that passes, if any (R205). -/
def State.eliminate (s : State) (l : List Byte) : State × Option (List Byte) :=
  if !s.on UL_FRER_CFG.rcv_en then (s, some l)
  else match s.frerMatch l with
    | none => (s, some l)
    | some i => match rtagAt (s.get PR_PARSE_CFG.tpid3) l 42 12 with
      | none =>
        if bit1 (s.word (frerAddr i 0)) 62 then
          let x := s.frerSt i
          (s.setFrer i { x with passed := min (x.passed + 1) (2 ^ 32 - 1) }, some l)
        else ((s.inc UL_FRER_NOTAG_CNT.count).set1 UL_FRER_EVENT.no_tag, none)
      | some o =>
        let r := (s.frerSt i).recover (s.histLen i) (fieldAt l (o + 4) 2)
        let s1 := s.setFrer i r.1
        match r.2 with
        | .pass => (s1, some (l.take o ++ l.drop (o + 6)))
        | .duplicate => (s1.inc UL_FRER_DISC_CNT.count, none)
        | .rogue => ((s1.inc UL_FRER_ROGUE_CNT.count).set1 UL_FRER_EVENT.rogue, none)

/-- FRER_RESET_TIMER (R205): no frame has passed for reset_ms, and the stream takes any next sequence number. -/
def execFrerResetTimer (i : Fin 1024) (s : State) : Host.Outcome State Fault Refusal :=
  let x := s.frerSt i.val
  if s.frerValid.contains i.val && !x.take then
    ((s.setFrer i.val { x with take := true, history := [], resets := min (x.resets + 1) 65535 }).set1 UL_FRER_EVENT.reset).done
  else s.done

/-! ## Frames from the uplinks (R402, R412, R549) -/

/-- A frame that the MAC has received goes to staging (R205, R387, R402). -/
def State.uplinkIn (s : State) (p : Nat) (octets : List Byte) : State :=
  if octets.length < 64 ∨ 16384 < octets.length ∨ !fcsGood octets then s.refuse 9 0 0xFFFF
  else
    let stamp := s.rxStamp (32 + p)
    let s0 := if stamp.isSome then s.drawn else s
    let r := s0.eliminate (noFcs octets)
    match r.2 with
    | none => r.1
    | some l => r.1.arrive (if l = noFcs octets then octets else withFcs l) (.uplink p) stamp p

/-- UPLINK_FRAME_RX (R549): an uplink MAC receives a frame. -/
def execUplinkFrameRx (p : UpPort) (octets : List (BitVec 8)) (s : State) : Host.Outcome State Fault Refusal :=
  if s.on (UL_PORT_STATUS.link p.val) && s.on (UL_PORT_CFG.admin_en p.val) && s.up 22 then (s.uplinkIn p.val octets).done
  else (s.inc (UL_RX_RESET_DROP_CNT.count p.val)).done

/-! ## Link state (R404 to R406) -/

/-- UL_SIDE_STATUS follows the ports (R406), and queued copies for a side that is down are passed over (R204). -/
def State.sideStatus (s : State) : State :=
  ((s.put UL_SIDE_STATUS.a_down (if s.portDown 0 && s.portDown 1 then 1 else 0)).put UL_SIDE_STATUS.b_down
    (if s.portDown 2 && s.portDown 3 then 1 else 0)).passOver

/-- What a port keeps. -/
def State.portSt (s : State) (p : Nat) : PortSt := mgetD p {} s.ports

/-- The state with what a port keeps replaced. -/
def State.setPort (s : State) (p : Nat) (x : PortSt) : State := { s with ports := mset p x s.ports }

/-- A flow context's frames were accepted as replicated (R203). -/
def Held.replicated (h : Held) (r : JRec) : Bool := r.priv && h.repl

/-- The frames of a flow that is not replicated, queued for uplink port p (R406). -/
def State.portFrames (s : State) (p : Nat) : List Nat :=
  s.framesWhere fun h r => r.kind == 1 && r.target % 4 == p && !h.replicated r

/-- Replicated frames that have been sent on the partner side of a port that is down are delivered (R26, R204). -/
def State.sidesDone (s : State) (p : Nat) : State :=
  (s.framesWhere fun h r => h.replicated r && (r.target % 4 == p || r.target % 4 == p ^^^ 2)).foldl (fun s j =>
    match s.heldAt j, s.record j with
    | some h, some r =>
      let other := if p < 2 then 2#2 else 1#2
      if r.sides &&& other ≠ 0 ∧ h.departing.isEmpty then s.markDelivered h r else s
    | _, _ => s) s

/-- A port is declared down (R204, R406). -/
def State.declareDown (s : State) (p : Nat) : State :=
  let s1 := ((s.put (UL_PORT_STATUS.link p) 0).set1 (UL_PORT_EVENT.link_down p)).inc (UL_LINK_DOWN_CNT.count p)
  let s2 := (s1.setPort p { s1.portSt p with upRun := false, downRun := false }).sideStatus
  (s2.undeliverables 3 (s2.portFrames p)).sidesDone p

/-- A port is declared up (R405). -/
def State.declareUp (s : State) (p : Nat) : State :=
  ((s.set1 (UL_PORT_STATUS.link p)).setPort p { s.portSt p with upRun := false, downRun := false }).sideStatus

/-- The up_ms count starts; a count of 0 ends at once (R405). -/
def State.startUp (s : State) (p : Nat) : State :=
  if s.on (UL_PORT_CFG.admin_en p) && s.on (UL_PORT_STATUS.raw_up p) && !s.on (UL_PORT_STATUS.link p) then
    if s.get (UL_PORT_CFG.up_ms p) = 0 then s.declareUp p else s.setPort p { s.portSt p with upRun := true }
  else s

/-- The lanes of a port (R403). -/
def State.portLanes (s : State) (p : Nat) : List Nat :=
  (List.range (laneCount (s.get (UL_PORT_STATUS.mode p)))).map (s.get (UL_PORT_STATUS.lane_base p) + ·)

/-- What the lane status shows of the lanes of a port that is raw-up: lock and signal, and PCS lane and skew, which the command
leaves open (R403, R404). -/
def State.lanesUp (s : State) (skew : Nat) : List Nat → State
  | [] => s
  | k :: r =>
    let v := s.freeVal
    let s1 := ((s.drawn.set1 (UL_LANE_STATUS.am_lock k)).set1 (UL_LANE_STATUS.signal k)).put (UL_LANE_STATUS.pcs_lane k) (v % 256)
    State.lanesUp (s1.put (UL_LANE_STATUS.skew_ns k) (min 255 (v / 256 % (skew + 1)))) skew r

/-- The link status of a port becomes OK (R404, R405, R407). -/
def State.rawUp (s : State) (p skew : Nat) : State :=
  if 180 < skew then s.set1 (UL_PORT_EVENT.skew_fail p)
  else
    let s1 := ((s.set1 (UL_PORT_STATUS.raw_up p)).put (UL_PORT_STATUS.swap_hold p) 0).lanesUp skew (s.portLanes p)
    (s1.setPort p { s1.portSt p with downRun := false, swapRaw := false }).startUp p

/-- PORT_RAW_UP (R405): the PCS link_status becomes OK with a skew between the lanes. -/
def execPortRawUp (p : UpPort) (skewNs : BitVec 16) (s : State) : Host.Outcome State Fault Refusal :=
  if s.get (UL_PORT_STATUS.mode p.val) = 0 ∨ s.on (UL_PORT_STATUS.raw_up p.val) then s.done
  else (s.rawUp p.val skewNs.toNat).done

/-- Lanes of a port that is raw-down: which of lock and signal hold is open. -/
def State.lanesDown (s : State) : List Nat → State
  | [] => s
  | k :: r =>
    let v := s.freeVal
    State.lanesDown ((s.drawn.put (UL_LANE_STATUS.am_lock k) v).put (UL_LANE_STATUS.signal k) (v / 2)) r

/-- A port becomes raw-down: no departure goes on (R29, R405). -/
def State.rawDown (s : State) (p : Nat) : State :=
  let s1 := ((s.put (UL_PORT_STATUS.raw_up p) 0).lanesDown (s.portLanes p)).interrupt (32 + p)
  s1.setPort p { s1.portSt p with upRun := false }

/-- The link status of a port fails (R405, R407). -/
def State.linkFails (s : State) (p : Nat) : State :=
  let s1 := s.rawDown p
  if !s1.on (UL_PORT_STATUS.link p) || s1.on (UL_PORT_STATUS.swap_hold p) then s1
  else if s1.get (UL_PORT_CFG.down_ms p) = 0 then s1.declareDown p
  else s1.setPort p { s1.portSt p with downRun := true }

/-- PORT_RAW_DOWN (R405): the PCS link_status fails. -/
def execPortRawDown (p : UpPort) (s : State) : Host.Outcome State Fault Refusal :=
  if s.on (UL_PORT_STATUS.raw_up p.val) then (s.linkFails p.val).done else s.done

/-- PORT_UP_TIMER (R405): the port has been raw-up for up_ms with admin_en = 1. -/
def execPortUpTimer (p : UpPort) (s : State) : Host.Outcome State Fault Refusal :=
  if (s.portSt p.val).upRun && s.on (UL_PORT_STATUS.raw_up p.val) && s.on (UL_PORT_CFG.admin_en p.val) then
    (s.declareUp p.val).done
  else s.done

/-- PORT_DOWN_TIMER (R405): the port has been raw-down for down_ms. -/
def execPortDownTimer (p : UpPort) (s : State) : Host.Outcome State Fault Refusal :=
  if (s.portSt p.val).downRun && s.on (UL_PORT_STATUS.link p.val) then (s.declareDown p.val).done else s.done

/-- A lane of a port has its Bench enabled (R414). -/
def State.benched (s : State) (p : Nat) : Bool := (s.portLanes p).any fun k => s.on (BENCH_CFG.en k)

/-- admin_en becomes 0: departures end and the port is declared down at once (R405). -/
def State.adminOff (s : State) (p : Nat) : State :=
  let s1 := s.interrupt (32 + p)
  let s2 := s1.setPort p { s1.portSt p with upRun := false, downRun := false }
  if s2.on (UL_PORT_STATUS.link p) then s2.declareDown p else s2

/-- A write of UL_PORT_CFG_p (R405, R414). -/
def State.portAdmin (s : State) (p d : Nat) : State :=
  if (UL_PORT_CFG.admin_en p).of d = 1 ∧ s.benched p then s.set1 (UL_PORT_EVENT.bench_busy p)
  else
    let was := s.on (UL_PORT_CFG.admin_en p)
    let s1 := ((s.put (UL_PORT_CFG.admin_en p) ((UL_PORT_CFG.admin_en p).of d)).put (UL_PORT_CFG.down_ms p)
      ((UL_PORT_CFG.down_ms p).of d)).put (UL_PORT_CFG.up_ms p) ((UL_PORT_CFG.up_ms p).of d)
    if was ∧ !s1.on (UL_PORT_CFG.admin_en p) then s1.adminOff p
    else if !was then s1.startUp p
    else s1

/-- PORT_ADMIN_WRITE (R405, R414). -/
def execPortAdminWrite (p : UpPort) (d : BitVec 32) (s : State) : Host.Outcome State Fault Refusal :=
  (s.portAdmin p.val d.toNat).done

/-- SWAP_HOLD_TIMEOUT (R407): a slice swap has held the port raw-down for 50 ms. -/
def execSwapHoldTimeout (p : UpPort) (s : State) : Host.Outcome State Fault Refusal :=
  if !s.on (UL_PORT_STATUS.swap_hold p.val) then s.done
  else
    let s1 := (s.put (UL_PORT_STATUS.swap_hold p.val) 0).setPort p.val { s.portSt p.val with swapRaw := false }
    if s1.on (UL_PORT_STATUS.link p.val) && !s1.on (UL_PORT_STATUS.raw_up p.val) then (s1.declareDown p.val).done else s1.done

/-! ## Step-down (R408) -/

/-- The mode of a number of lanes. -/
def modeOf (n : Nat) : Nat := match n with | 8 => 4 | 4 => 3 | 2 => 2 | 1 => 1 | _ => 0

/-- The lowest group of n lanes within the lanes of a port, starting at a multiple of n, whose every lane has a slice (R408). -/
def laneGroup (hasSlice : Nat → Bool) (base cnt n : Nat) : Option Nat :=
  ((List.range cnt).map (base + ·)).find? fun g =>
    g % n == 0 && decide (g + n ≤ base + cnt) && (List.range n).all fun i => hasSlice (g + i)

/-- The mode and first lane after a step-down; mode 0 puts the port out of service (R408). -/
def stepDown (hasSlice : Nat → Bool) (base cnt : Nat) : Nat → Nat → Nat × Nat
  | 0, _ => (0, base)
  | fuel + 1, n =>
    let m := n / 2
    if m < 1 then (0, base)
    else match laneGroup hasSlice base cnt m with
      | some g => (modeOf m, g)
      | none => stepDown hasSlice base cnt fuel m

/-- A port takes a new lane set (R408). -/
def State.stepPort (s : State) (p : Nat) (hasSlice : Nat → Bool) : State :=
  let cnt := laneCount (s.get (UL_PORT_STATUS.mode p))
  let r := stepDown hasSlice (s.get (UL_PORT_STATUS.lane_base p)) cnt 5 cnt
  let s0 := if s.on (UL_PORT_STATUS.raw_up p) then s.rawDown p else s
  let s1 := if s0.on (UL_PORT_STATUS.link p) then s0.declareDown p else s0
  let s2 := ((s1.put (UL_PORT_STATUS.mode p) r.1).put (UL_PORT_STATUS.lane_base p) r.2).set1 (UL_PORT_EVENT.stepped_down p)
  let s3 := if r.1 = 0 then s2.set1 (UL_PORT_STATUS.out_of_service p) else s2
  let oct := match r.1 with | 4 => 100000 | 3 => 50000 | 2 => 25000 | 1 => 12500 | _ => 0
  ((s3.put (SCH_PORT_CFG.oct_per_us (32 + p)) oct).sideStatus).tlogEvent .ul 2 p

/-! ## Markers, signal and FEC codewords (R404, R418, R419) -/

/-- An alignment marker is valid, or missing, at its position (R404): four in a row give lock, four in a row missing lose it. -/
def State.laneMarker (s : State) (k : Nat) (good : Bool) (pcs : Nat) : State :=
  let x := mgetD k {} s.lanes
  let y : LaneMark := if good then { good := min 4 (x.good + 1) } else { bad := min 4 (x.bad + 1) }
  let s1 : State := { s with lanes := mset k y s.lanes }
  if y.good = 4 then (s1.set1 (UL_LANE_STATUS.am_lock k)).put (UL_LANE_STATUS.pcs_lane k) pcs
  else if y.bad = 4 then s1.put (UL_LANE_STATUS.am_lock k) 0
  else s1

/-- A received codeword is counted where its symbols in error were corrected, up to 15, or are too many (R418, R419). -/
def State.fecReceived (s : State) (p n : Nat) : State :=
  if s.get (UL_PORT_STATUS.mode p) = 0 ∨ n = 0 then s
  else s.inc (if n ≤ 15 then UL_FEC_CORR.count p else UL_FEC_UNCORR.count p)

/-- A codeword is sent: the injection corrupts symbols of every every-th one (R418). -/
def State.fecSent (s : State) (p : Nat) : State :=
  let x := s.portSt p
  if s.get (UL_PORT_STATUS.mode p) = 0 then s
  else if s.on (UL_PORT_INJ.en p) && decide (max 1 (s.get (UL_PORT_INJ.every p)) ≤ x.codewords + 1) then
    s.setPort p { x with codewords := 0, hurt := max 1 (s.get (UL_PORT_INJ.symbols p)) }
  else s.setPort p { x with codewords := x.codewords + 1, hurt := 0 }

/-! ## The Bench (R413 to R418) -/

/-- The port that a lane belongs to. -/
def State.lanePort (s : State) (k : Nat) : Option Nat := (List.range 4).find? fun p => (s.portLanes p).contains k

/-- A Linman lane carries the link: it holds a logical lane, or is joining (R428). -/
def State.linkLaneUsed (s : State) (i : Nat) : Bool :=
  ((List.range 4).any fun k => s.get (LM_TX_MAP.lane k) == i || s.get (LM_RX_MAP.lane k) == i) ||
    (decide (s.link.swap ≠ .none) && s.get LM_TX_MAP.spare == i)

/-- The condition under which a Bench may be enabled (R413). -/
def State.benchAllowed (s : State) (i : Nat) : Bool :=
  if i < 32 then
    match s.lanePort i with
    | none => true
    | some p => !s.on (UL_PORT_CFG.admin_en p) || s.get (UL_PORT_STATUS.mode p) == 0 || s.on (UL_PORT_STATUS.out_of_service p)
  else if i < 64 then decide (s.treeState (i - 32) ≤ 1)
  else !s.linkLaneUsed (i - 64)

/-- What a Bench keeps. -/
def State.benchSt (s : State) (i : Nat) : BenchSt := mgetD i {} s.bench

/-- The state with what a Bench keeps replaced. -/
def State.setBench (s : State) (i : Nat) (x : BenchSt) : State := { s with bench := mset i x s.bench }

/-- The fields of BENCH_CFG_i. -/
def benchFields (i : Nat) : List (Fld × Acc) :=
  [(BENCH_CFG.en i, .rw), (BENCH_CFG.loop i, .rw), (BENCH_CFG.pattern i, .rw), (BENCH_CFG.gen_en i, .rw),
    (BENCH_CFG.chk_en i, .rw), (BENCH_CFG.inj_exp i, .rw)]

/-- The pattern of a Bench: a code that the lane's line coding does not allow acts as Off (R415). -/
def State.benchCode (s : State) (i : Nat) : Nat :=
  let c := s.get (BENCH_CFG.pattern i)
  if c = 8 ∨ c = 9 then c
  else if i < 32 then (if 1 ≤ c ∧ c ≤ 3 then c else 0)
  else if 4 ≤ c ∧ c ≤ 7 then c else 0

/-- The loop of a Bench, 1 near-end and 2 far-end (R416): 0b11 acts as none, and so does far-end on a tree lane whose upstream rate is
not its downstream rate. -/
def State.benchLoop (s : State) (i : Nat) : Nat :=
  match s.get (BENCH_CFG.loop i) with
  | 1 => 1
  | 2 =>
    let tree := decide (32 ≤ i) && decide (i < 64)
    if tree && !(s.isXgs (i - 32) || (s.treeEntry (i - 32)).usRate == 0) then 0 else 2
  | _ => 0

/-- The Bench's checker compares: it is enabled with a pattern, and the Bench owns the lane (R413, R415, R417). -/
def State.benchChecks (s : State) (i : Nat) : Bool :=
  s.on (BENCH_CFG.en i) && s.on (BENCH_CFG.chk_en i) && s.benchCode i != 0

/-- The Bench's generator drives the transmitter (R415): it is enabled with a pattern, and no far-end loop holds the transmitter (R416). -/
def State.benchGens (s : State) (i : Nat) : Bool :=
  s.on (BENCH_CFG.en i) && s.on (BENCH_CFG.gen_en i) && s.benchCode i != 0 && s.benchLoop i != 2

/-- The checker is off or searches for lock, as the configuration says (R417). -/
def State.benchSearch (s : State) (i : Nat) : State :=
  if s.benchChecks i then
    if s.on (BENCH_STATUS.locked i) then s else s.setBench i { s.benchSt i with search := true }
  else
    let b : BenchSt := { s.benchSt i with search := false, ref := 0, run := 0, blk := 0, blkErr := 0 }
    (s.put (BENCH_STATUS.locked i) 0).setBench i (if s.on (BENCH_CFG.en i) then b else {})

/-- The taps and the inversion of the PRBS patterns (R415). The polynomials are those of their standards (PRESUMED, log 151). -/
def prbsTaps : Nat → Option (List Nat × Bool)
  | 1 => some ([1, 2, 12, 13], false)
  | 2 => some ([28, 31], true)
  | 4 => some ([6, 7], false)
  | 5 => some ([14, 15], true)
  | 6 => some ([18, 23], true)
  | 7 => some ([28, 31], true)
  | _ => none

/-- The square wave of R415: 8 UI high and 8 UI low, a UI holding two bits of Gray-coded PAM4 on an uplink lane and one elsewhere; its
length in bits and its bits. -/
def squareWave (pam : Bool) : Nat × Nat := if pam then (32, 0xAAAA0000) else (16, 0xFF00)

/-- The latest n bits sent are some rotation of a repeating word. -/
def isRotation (n w h : Nat) : Bool :=
  (List.range n).any fun r => (w >>> r ||| w <<< (n - r)) % 2 ^ n == h % 2 ^ n

/-- The bit that follows the latest 64 bits of a pattern, bit 0 the latest; none where those are no part of the pattern (R415). -/
def patternNext (code : Nat) (pam : Bool) (user h : Nat) : Option Bool :=
  match prbsTaps code with
  | some (ts, inv) =>
    let k := ts.getLastD 1
    if h % 2 ^ k = (if inv then 2 ^ k - 1 else 0) then none
    else some (ts.foldl (fun b t => b ^^ bit1 h (t - 1)) inv)
  | none => match code with
    | 3 => some (Config.ssprqNext h)
    | 8 => let q := squareWave pam; if isRotation q.1 q.2 h then some (bit1 h (q.1 - 1)) else none
    | 9 => if isRotation 64 user h then some (bit1 h 63) else none
    | _ => none

/-- The 64 bits from which a generator starts (R415): so that the user pattern and the square wave begin with their first bit, and a PRBS
is not the one that never changes. -/
def patternStart (code : Nat) (pam : Bool) (user : Nat) : Nat :=
  match code with
  | 8 => if pam then 0xAAAA0000AAAA0000 else 0xFF00FF00FF00FF00
  | 9 => user
  | _ => match prbsTaps code with
    | some (_, true) => Config.benchSeed code / 2 * 2 % 2 ^ 64
    | _ => Config.benchSeed code / 2 * 2 % 2 ^ 64 + 1

/-- The latest 64 bits after one more. -/
def pushBit (h : Nat) (b : Bool) : Nat := (2 * h + b.toNat) % 2 ^ 64

/-- One bit of the generator (R415, R418): the bit it drives, flipped where `flip` says so or where inj_exp does. -/
def BenchSt.generate (x : BenchSt) (code : Nat) (pam : Bool) (user exp : Nat) (flip : Bool) : BenchSt × Bool :=
  let h := if x.genCode = code then x.gen else patternStart code pam user
  let b := (patternNext code pam user h).getD false
  let due := decide (10 ≤ exp) && decide (exp ≤ 40) && decide (2 ^ exp ≤ x.since + 1)
  ({ x with genCode := code, gen := pushBit h b, since := if due then 0 else x.since + 1 }, b ^^ flip ^^ due)

/-- What the checker of a Bench has counted in a run: whether it is locked, the bits compared, the errors and the losses of lock. -/
structure BenchRun where
  locked : Bool
  bits : Nat := 0
  errs : Nat := 0
  loss : Nat := 0
  deriving DecidableEq, Repr

/-- One bit at the checker (R417): unlocked, it looks for 1,024 consecutive bits without error; locked, it counts, and a block of 1,024
bits with 64 errors or more ends the lock at the block's end (DEDUCED, log 151). -/
def BenchSt.compare (x : BenchSt) (c : BenchRun) (code : Nat) (pam : Bool) (user : Nat) (b : Bool) : BenchSt × BenchRun :=
  let e := patternNext code pam user x.ref
  let bad := e != some b
  if c.locked then
    let n := x.blkErr + bad.toNat
    let lost := x.blk + 1 == 1024 && decide (64 ≤ n)
    ({ x with
        ref := pushBit x.ref (e.getD b), blk := (x.blk + 1) % 1024, blkErr := if x.blk + 1 = 1024 then 0 else n
        run := 0, search := lost },
      ⟨!lost, c.bits + 1, c.errs + bad.toNat, c.loss + lost.toNat⟩)
  else
    let n := if bad then 0 else x.run + 1
    ({ x with ref := pushBit x.ref b, run := n, blk := 0, blkErr := 0, search := n != 1024 }, { c with locked := n == 1024 })

/-- The bit times of a run of a Bench: the bit driven at each, and the checker's comparison of the bit that its receiver takes (R415 to
R418). `flips` says at which bit time an injected flip falls. -/
def State.benchTimes (s : State) (i : Nat) (flips : Option Nat) : Nat → List Bool → BenchSt × BenchRun → BenchSt × BenchRun
  | _, [], y => y
  | n, r :: rs, (x, c) =>
    let code := s.benchCode i
    let pam := decide (i < 32)
    let user := s.get BENCH_USER.pattern
    let g := x.generate code pam user (s.get (BENCH_CFG.inj_exp i)) (flips == some n)
    let far := s.benchLoop i == 2
    let x1 := if far then { x with line := x.line ++ [r] } else if s.benchGens i then { g.1 with line := x.line ++ [g.2] } else x
    let got := if s.benchLoop i = 1 then (if s.benchGens i then some g.2 else none) else some r
    let y := match got with
      | some b => if s.benchChecks i then x1.compare c code pam user b else (x1, c)
      | none => (x1, c)
    State.benchTimes s i flips (n + 1) rs y

/-- A Bench's lane runs for some bit times (R415 to R418; an input, log 127). Which bit of the next word an injection flips is open. -/
def State.benchBits (s : State) (i : Nat) (rx : List Bool) : State :=
  if !s.on (BENCH_CFG.en i) ∨ rx.isEmpty then s
  else
    let x := s.benchSt i
    let at_ := if x.inject && s.benchGens i then some (s.freeVal % min 64 rx.length) else none
    let y := s.benchTimes i at_ 0 rx ({ x with line := [] }, ⟨s.on (BENCH_STATUS.locked i), 0, 0, 0⟩)
    let s1 := (s.drawn.incBy (BENCH_BITS.count i) y.2.bits).incBy (BENCH_ERR.count i) y.2.errs
    let s2 := (s1.put (BENCH_STATUS.locked i) y.2.locked.toNat).incBy (BENCH_STATUS.lock_loss i) y.2.loss
    s2.setBench i { y.1 with inject := y.1.inject && at_.isNone }

/-- A write of BENCH_CFG_i (R413). -/
def State.benchWrite (s : State) (i d : Nat) : State :=
  if (BENCH_CFG.en i).of d = 1 ∧ !s.on (BENCH_CFG.en i) ∧ !s.benchAllowed i then s.set1 (BENCH_STATUS.refused i)
  else (s.putRw d (benchFields i)).benchSearch i

/-- BENCH_ENABLE (R413). -/
def execBenchEnable (i : Fin 69) (d : BitVec 32) (s : State) : Host.Outcome State Fault Refusal :=
  (s.benchWrite i.val d.toNat).done

/-- A Bench's counts are zeroed and its lock search restarts (R417). -/
def State.benchClear (s : State) (i : Nat) : State :=
  let s1 := ((s.put (BENCH_BITS.count i) 0).put (BENCH_ERR.count i) 0).put (BENCH_STATUS.lock_loss i) 0
  (s1.put (BENCH_STATUS.locked i) 0).benchSearch i

/-- A bit of the next generated word is to be flipped (R418). -/
def State.benchInject (s : State) (i : Nat) : State :=
  if s.on (BENCH_CFG.en i) && s.on (BENCH_CFG.gen_en i) then s.setBench i { s.benchSt i with inject := true } else s

/-- BENCH_CLEAR (R417): both counts and lock_loss are zeroed and the lock search restarts. -/
def execBenchClear (i : Fin 69) (s : State) : Host.Outcome State Fault Refusal := (s.benchClear i.val).done

/-- BENCH_INJECT (R418): one bit of the next generated word is flipped. -/
def execBenchInject (i : Fin 69) (s : State) : Host.Outcome State Fault Refusal := (s.benchInject i.val).done

/-- BENCH_CHECKER_LOCK (R417): the checker has seen 1,024 consecutive error-free bits. -/
def execBenchCheckerLock (i : Fin 69) (s : State) : Host.Outcome State Fault Refusal :=
  if s.benchChecks i.val && !s.on (BENCH_STATUS.locked i.val) then
    ((s.set1 (BENCH_STATUS.locked i.val)).setBench i.val { s.benchSt i.val with search := false }).done
  else s.done

/-- BENCH_CHECKER_LOCK_LOSS (R417): a block of 1,024 bits held 64 or more errors. How many bits and errors the counts have taken by
then is open. -/
def execBenchCheckerLockLoss (i : Fin 69) (s : State) : Host.Outcome State Fault Refusal :=
  if s.benchChecks i.val && s.on (BENCH_STATUS.locked i.val) then
    let v := s.freeVal
    let s1 := (s.drawn.incBy (BENCH_BITS.count i.val) (1024 + v)).incBy (BENCH_ERR.count i.val) (64 + v % 961)
    let s2 := (s1.put (BENCH_STATUS.locked i.val) 0).inc (BENCH_STATUS.lock_loss i.val)
    (s2.setBench i.val { s2.benchSt i.val with search := true }).done
  else s.done

/-- A Bench is ended by a lane's move into service (R414). -/
def State.benchEnd (s : State) (i : Nat) : State :=
  if s.on (BENCH_CFG.en i) then ((s.put (BENCH_CFG.en i) 0).set1 (BENCH_STATUS.ended i)).benchSearch i else s

end Sys2Proof.Machine
end

