-- ==== Sys2Proof/Machine/Depart.lean ====
section
/-! DEFINITION. Acceptance of a frame (R301, R307, R328, R344, R367) and the choice and start of a departure (R85, R86, R203,
R329 to R332, R342, R345, R366 to R370, R388, R389). -/

namespace Sys2Proof.Machine

/-! ## Acceptance -/

/-- The departure length of a frame (R328). -/
def State.departLen (s : State) (f : Nat) (octets : List Byte) : Nat :=
  let n := octets.length + (if s.replFlow f then 6 else 0)
  match cipherOp (s.cipher f) with
  | 1 => n + 26
  | 2 => if s.hasTsh octets then n - 26 else n
  | _ => n

/-- The cause for which a frame that holds its slot is refused at enqueue, 0 for none (R306, R328, R340, R367). -/
def State.enqueueCause (s : State) (f : InFrame) : Nat :=
  let w := s.sched f.flow
  let c := s.flowCause f.tenant f.flow f.ptidx
  let q := (s.flowPort f.flow).getD 0
  if c ≠ 0 then c
  else if !s.on SCH_CTRL.en || !entryEn w || !entryEn (s.node (schedNode w)) then 4
  else if !s.enqueueLenOk q (schedTc w) f.octets.length f.ptidx then 7
  else if 16384 < s.departLen f.flow f.octets then 0xD
  else if cipherHold (s.cipher f.flow) ≤ (s.flowQueue f.flow).length ∧ s.keyHeld f.flow f.octets then 8
  else 0

/-- The counters of other chapters for a refusal at enqueue (R254, R328, R367). -/
def State.enqueueCount (s : State) (f : InFrame) (c : Nat) : State :=
  if c = 7 then s.inc SCH_GATE_REFUSE_CNT.count
  else if c = 8 then s.inc CIP_HOLD_REFUSE_CNT.count
  else if c = 4 ∧ !s.flowAllowed f.tenant f.flow then s.flowRefused f.slice
  else s

/-- The launch time of a frame, the time of day in ns, with the replacement of R345. -/
def State.launchOf (s : State) (f : InFrame) : Option Nat × Bool :=
  let w := s.sched f.flow
  let off := bitsOf (s.tword (schedAddr f.flow + 8)) 0 24
  let l : Option Nat := match schedLaunch w with
    | 1 => match f.stamp with
      | some st => some (st.tod / nsUnit + off)
      | none => some s.todNs
    | 2 => f.launch
    | _ => none
  match l with
  | some t => if s.todNs + 1000000000 < t then (some s.todNs, true) else (some t, false)
  | none => (none, false)

/-- The fixed egress latency of a port in ns, rounded up (R344). -/
def State.egressNs (s : State) (q : Nat) : Nat := if q < 36 then ceilDiv (s.txLatencyPs q) 1000 else 0

/-- The charge of a recirculated frame moves to its tenant, that of its last pass, when R300 would serve an equal request (R301). -/
def State.moveCharge (s : State) (g : Nat) : State :=
  match mget g s.shm.groups with
  | none => s
  | some b =>
    if b.quota ∧ s.canServe false b.tenant b.shelf b.ids.length then
      { s with shm := { s.shm with groups := mset g { b with quota := false } s.shm.groups } }
    else s

/-- The R-TAG sequence number of the next frame of a flow context (R203). -/
def State.takeRtag (s : State) (f : Nat) : State × Nat :=
  if s.replFlow f then
    let n := mgetD f 0 s.jnl.rtag
    ({ s with jnl := { s.jnl with rtag := mset f ((n + 1) % 65536) s.jnl.rtag } }, n)
  else (s, 0)

/-- The commit record of a frame (R308). -/
def State.commitRec (s : State) (f : InFrame) (rtag : Nat) : JRec :=
  let p := (s.flowPart f.flow).getD ⟨0, 0, 0, 0, 0, false, 0⟩
  let b := (mget f.group s.shm.groups).getD ⟨0, [], 0, false, 0, []⟩
  { seq := s.jnl.seq, flow := f.flow, state := 1, priv := p.privileged, kind := p.kind, tenant := f.tenant
    shelf := b.shelf, len := f.octets.length, head := b.ids.headD 0, rtagSeq := rtag
    target := if p.kind = 0 then f.ptidx else if p.kind = 1 then p.target % 4 else 0
    acceptNs := BitVec.ofNat 32 s.localNs }

/-- A frame is accepted in its slot (R301, R307, R328, R344). -/
def State.accept (s : State) (f : InFrame) (j : Nat) : State :=
  let s1 := s.moveCharge f.group
  let rt := s1.takeRtag f.flow
  let r := rt.1.commitRec f rt.2
  let s2 := (rt.1.writeRec j r).put JNL_ACCEPT_CNT.count (rt.1.get JNL_ACCEPT_CNT.count + 1)
  let s3 := { s2.dropFrame f.id with
    jnl := { s2.jnl with seq := s2.jnl.seq + 1, reserved := s2.jnl.reserved.erase j } }
  let l := s3.launchOf f
  let q : Nat := (s3.flowPort f.flow).getD 0
  let due : Bool := match l.1 with
    | some t => decide (t ≤ s3.todNs + s3.egressNs q)
    | none => true
  let h : Held := {
    slot := j, seq := r.seq, flow := f.flow, group := f.group, ptidx := f.ptidx, repl := s3.on UL_FRER_CFG.gen_en
    excCode := f.excCode, origin := f.origin, stamp := f.stamp, lif := f.lif, launchAt := l.1, launchDue := due
    acceptNs := s3.localNs }
  let s4 := (s3.setHeld (s3.passSides h)).setQueue f.flow (s3.flowQueue f.flow ++ [j])
  let s5 := if l.2 then (s4.inc SCH_LAUNCH_BAD_CNT.count).set1 SCH_EVENT.launch_bad else s4
  if q < 32 then s5.leaveDoze q else s5

/-- The commit record of a frame is acknowledged, or the frame is refused at enqueue (R307, R328). -/
def State.commitFrame (s : State) (f : InFrame) (j : Nat) : State :=
  match s.enqueueCause f with
  | 0 => s.accept f j
  | c => (s.refuseFrame f c).enqueueCount f c

/-- A returning copy is in Close: commits are held (R312). -/
def State.closing (s : State) : Bool := decide (s.jnl.phaseA = .close) || decide (s.jnl.phaseB = .close)

/-! ## Deficit round-robin (R330) -/

/-- The key of one deficit: level, group and member. -/
def drrKey (level grp m : Nat) : Nat := (grp * 65536 + m) * 4 + level

/-- Rounds until a member's deficit covers its charge, at least one. -/
def drrRounds (need quantum : Nat) (d : Int) : Nat := max 1 (ceilDiv ((need : Int) - d).toNat (max 1 quantum))

/-- One choice by deficit round-robin among members in ascending order (R330; PRESUMED, log 31): the member served keeps its turn
while its deficit covers its next charge; otherwise the turn passes on, each member visited gaining its quantum, until a deficit
covers the charge. A member without an eligible frame has deficit 0. -/
def State.drr (s : State) (level grp : Nat) (ms : List Nat) (quantum need : Nat → Nat) : State × Option Nat :=
  let cur := (mget (grp * 4 + level) s.sch.pointer)
  let d (m : Nat) : Int := mgetD (drrKey level grp m) 0 s.sch.deficit
  let clean := s.sch.deficit.filter fun e => !(e.1 % 4 == level && e.1 / 4 / 65536 == grp)
  let finish (m : Nat) (ds : List (Nat × Int)) : State × Option Nat :=
    let m1 := ds.foldl (fun a e => mset (drrKey level grp e.1) e.2 a) clean
    ({ s with sch := { s.sch with deficit := m1, pointer := mset (grp * 4 + level) m s.sch.pointer } }, some m)
  match cur.filter fun m => ms.contains m && decide ((need m : Int) ≤ d m) with
  | some m => finish m (ms.map fun x => (x, if x = m then d x - need x else d x))
  | none =>
    let c := cur.getD 0
    let ord := (ms.filter fun m => decide (c < m)) ++ (ms.filter fun m => decide (m ≤ c))
    let rs := ord.map fun m => drrRounds (need m) (quantum m) (d m)
    match rs.min? with
    | none => (s, none)
    | some r =>
      let i := rs.findIdx fun x => x == r
      match ord[i]? with
      | none => (s, none)
      | some w =>
        finish w (ord.zipIdx.map fun (e : Nat × Nat) =>
          let n := if e.2 ≤ i then r else r - 1
          (e.1, d e.1 + n * quantum e.1 - (if e.1 = w then (need w : Int) else 0)))

/-! ## Eligibility (R329, R342) -/

/-- A frame is offered to port q: the port of its flow, or the partner side of a replicated frame (R203, R331). -/
def State.offered (s : State) (q : Nat) (h : Held) : Bool :=
  match s.flowPort h.flow with
  | none => false
  | some p => p == q || (decide (32 ≤ q) && decide (q < 36) && p == 32 + ((q - 32) ^^^ 2) && s.privFlow h.flow && h.repl)

/-- The head of a flow queue for port q (R331): the first frame offered to it that has not left there and was not passed over
there while the side was down (R204). -/
def State.headFor (s : State) (q f : Nat) : Option Held :=
  ((s.flowQueue f).filterMap s.heldAt).find? fun h => s.offered q h && !h.departing.contains q && !h.sent.contains q &&
    !h.passed.contains q

/-- Whether the gate and, on an uplink port, the time left let a frame begin; the second is false for a frame that waits for the
next window (R342, R409). -/
def State.gateLets (s : State) (q c len : Nat) : Bool × Bool :=
  if !s.gateOpen q c then (false, true)
  else if q < 32 then (true, true)
  else match s.gateLeft q c with
    | none => (true, true)
    | some n =>
      let fits := s.fitsNs q len n
      let longest := longestWindow c (s.operGates q)
      let overrun := match longest with
        | some m => !s.fitsNs q len m && decide (m ≤ n)
        | none => false
      (fits || overrun, fits || overrun)

/-- The conditions of R329 apart from the gate. On a tree a frame waits for the departures of its flow context and for a part-sent
frame of its XGEM port, so that no later frame of its flow leaves first (R27, R30, R86). -/
def State.ready (s : State) (q : Nat) (h : Held) : Bool :=
  let w := s.sched h.flow
  (h.launchDue || h.interrupted.contains q) && h.causeHeld.isNone && h.decided.isNone &&
    s.up (13 + s.flowSlice h.flow) && !s.keyHeld h.flow (s.frameOctets h) && !s.cipherAway h.flow &&
    s.bucketOk (flowBucket h.flow) && s.bucketOk (nodeBucket (schedNode w)) && s.bucketOk (portBucket q) &&
    (if q < 32 then
      let e := s.portEntry q h.ptidx
      s.treeKeyOk q e && !((s.departures q).any fun d => (d.xgem == bitsOf e 0 16 && d.left != 0) ||
        (match s.heldAt d.slot with | some x => x.flow == h.flow | none => false))
    else if q = 37 then
      match s.ringCore h.flow with
      | some c => (s.get (POL_RX_PROD.index c) + 1) % max 1 (s.get POL_RING_CFG.rx_size) != s.get (POL_RX_CONS.index c)
      | none => false
    else true)

/-- The eligible heads of class c for port q, in flow order, and those that only wait for a longer window. -/
def State.eligibles (s : State) (q c : Nat) : List Held × List Held :=
  let hs := s.queuedFlows.filterMap fun f => if schedTc (s.sched f) = c then s.headFor q f else none
  let rs := hs.filter (s.ready q)
  (rs.filter fun h => (s.gateLets q c (s.heldLen h)).1, rs.filter fun h => !(s.gateLets q c (s.heldLen h)).2)

/-- Frames that wait at a window edge are counted once (R342). -/
def State.edgeHolds (s : State) (hs : List Held) : State :=
  hs.foldl (fun s h =>
    if s.sch.edgeHeld.contains (2 * h.slot) then s
    else ({ s with sch := { s.sch with edgeHeld := 2 * h.slot :: s.sch.edgeHeld } }).inc SCH_EDGE_HOLD_CNT.count) s

/-- The numbers of a list in ascending order, each once. -/
def risingSet (l : List Nat) : List Nat := (l.foldl (fun m x => mset x () m) []).map (·.1)

/-- Slice, node and flow of class c by deficit round-robin (R330). -/
def State.choose (s : State) (q c : Nat) (hs : List Held) : State × Option Held :=
  let slice (h : Held) : Nat := s.flowSlice h.flow
  let node (h : Held) : Nat := schedNode (s.sched h.flow)
  let len (h : Held) : Nat := s.chargeOct q (s.heldLen h)
  let least (l : List Held) : Nat := ((l.map len).min?).getD 0
  let g := q * 8 + c
  let r1 := s.drr 0 g (risingSet (hs.map slice)) (fun _ => 16384) fun x => least (hs.filter fun h => slice h == x)
  match r1.2 with
  | none => (s, none)
  | some sl =>
    let h1 := hs.filter fun h => slice h == sl
    let r2 := r1.1.drr 1 (g * 4 + sl) (risingSet (h1.map node)) (fun n => nodeQuantum (s.node n)) fun x =>
      least (h1.filter fun h => node h == x)
    match r2.2 with
    | none => (s, none)
    | some n =>
      let h2 := h1.filter fun h => node h == n
      let r3 := r2.1.drr 2 (g * 16384 + n) (h2.map (·.flow)) (fun f => schedQuantum (s.sched f)) fun x =>
        least (h2.filter fun h => h.flow == x)
      match r3.2 with
      | none => (s, none)
      | some f => (r3.1, h2.find? fun h => h.flow == f)

/-- The next frame of port q, class by class (R330). -/
def State.nextFrame (s : State) (q : Nat) : Nat → State × Option (Nat × Held)
  | 0 => (s, none)
  | c + 1 =>
    let e := s.eligibles q c
    let s1 := s.edgeHolds e.2
    if e.1.isEmpty then State.nextFrame s1 q c
    else
      let r := s1.choose q c e.1
      (r.1, r.2.map fun h => (c, h))

/-! ## The frame that leaves -/

/-- What the cipher makes of a frame: the octets to send, or a failure of a flow with cut-through or not (R366 to R370), with the octets
that had been handed to the egress when the tag failed under cut-through. -/
inductive Ciphered where
  | frame (octets : List Byte)
  | failed (ct : Bool) (handed : Option (List Byte))
  deriving DecidableEq, Repr

/-- A frame of a flow that decrypts (R368 to R370). A frame that the device sends again, or on its second side, has already had its
packet number verified (DEDUCED, log 30). -/
def State.decipher (s : State) (h : Held) (octets : List Byte) (n w : Nat) : State × Ciphered :=
  let ct := cipherCt w
  if !s.hasTsh octets then ((s.inc CIP_NO_TSH_CNT.count).tagFailed none false, .failed ct none)
  else
    let hd := s.frameTsh octets
    match s.sa (cipherTree w) n (tshIdx hd) with
    | none => (s, .failed ct none)
    | some (k, x) =>
      let c := s.tshCheck x hd
      if c = .header then ((s.inc CIP_NO_TSH_CNT.count).tagFailed (some (k, x)) false, .failed ct none)
      else if c = .pn ∧ h.pn ≠ some (tshPn hd) then
        ((s.inc CIP_REPLAY_CNT.count).tagFailed (some (k, x)) true, .failed ct none)
      else match s.openFrame x octets with
        | none => (s.tagFailed (some (k, x)) false, .failed ct (if ct then some (s.openUnverified x octets) else none))
        | some o => ((s.tagPassed k x (tshPn hd)).setHeld { h with pn := some (tshPn hd) }, .frame o)

/-- The cipher on the way out (R366 to R370). -/
def State.encipher (s : State) (h : Held) (octets : List Byte) : State × Ciphered :=
  let w := s.cipher h.flow
  let n := match s.flowPart h.flow with | some p => p.tenant | none => 0
  match cipherOp w with
  | 1 => match s.sa (cipherTree w) n (cipherIdx w) with
    | none => (s, .frame octets)
    | some (k, x) => (s.takePn k x, .frame (s.sealFrame x x.pn octets))
  | 2 => s.decipher h octets n w
  | _ => (s, .frame octets)

/-- The offset after the last VLAN tag (R203). -/
def vlanEnd (tpid3 : Nat) (l : List Byte) : Nat → Nat → Nat
  | 0, o => o
  | n + 1, o =>
    let e := fieldAt l o 2
    if e = 0x8100 ∨ e = 0x88A8 ∨ e = tpid3 then vlanEnd tpid3 l n (o + 4) else o

/-- A frame with an R-TAG after its last VLAN tag (R203). -/
def State.withRtag (s : State) (seq : Nat) (octets : List Byte) : List Byte :=
  let l := noFcs octets
  let o := vlanEnd (s.get PR_PARSE_CFG.tpid3) l (l.length / 4) 12
  withFcs (l.take o ++ octetsBE 2 0xF1C1 ++ octetsBE 2 0 ++ octetsBE 2 seq ++ l.drop o)

/-- Correction is enabled for an egress port (R389). -/
def State.tcEnabled (s : State) (q : Nat) : Bool :=
  if q < 32 then bit1 (s.get TU_TC_TREES.en) q else bit1 (s.get TU_TC_CFG.en) (q - 32)

/-- A frame came from an uplink or a tree. -/
def Origin.passing : Origin → Bool
  | .uplink _ => true
  | .tree _ _ _ => true
  | _ => false

/-- The residence time of a passing event message is added to its correctionField (R389). -/
def State.correctTc (s : State) (q : Nat) (h : Held) (p : Ptp) (l : List Byte) : State × List Byte :=
  match h.stamp, s.txStamp q with
  | some a, some b => (s.drawn.inc TU_TC_CNT.count, p.correct l ((b.loc : Int) - a.loc))
  | _, _ => ((s.inc TU_TC_MISS_CNT.count).set1 TU_EVENT.tc_miss, l)

/-- A transmit stamp enters the FIFO of an uplink port, or is lost (R388). -/
def State.pushTxts (s : State) (p : Nat) (x : TxStamp) : State :=
  if 64 ≤ (s.txts p).length then (s.inc TU_TXTS_LOST_CNT.count).set1 TU_EVENT.txts_overflow
  else { s with tu := { s.tu with txts := mset p (s.txts p ++ [x]) s.tu.txts } }

/-- An event message of the host or of a policy core leaves an uplink port: one-step Sync takes its origin time, the others return a
stamp (R386, R388). -/
def State.sendEvent (s : State) (q : Nat) (p : Ptp) (l : List Byte) : State × List Byte :=
  match s.txStamp q with
  | none => (s, l)
  | some st =>
    let ns := st.tod / nsUnit
    if p.typ = 0 ∧ !p.twoStep l then
      let l1 := p.write l 34 (octetsBE 6 (ns / 1000000000) ++ octetsBE 4 (ns % 1000000000))
      (s.drawn, p.write l1 8 (octetsBE 8 (st.tod % nsUnit)))
    else
      (s.drawn.pushTxts (q - 32) ⟨p.typ, fieldAt l (p.off + 4) 1, fieldAt l (p.off + 30) 2, ns⟩, l)

/-- Event messages on the way out of port q (R386, R388, R389); a frame of a flow with a cipher operation is not touched. -/
def State.eventOut (s : State) (q : Nat) (h : Held) (octets : List Byte) : State × List Byte :=
  if 36 ≤ q ∨ cipherOp (s.cipher h.flow) ≠ 0 then (s, octets)
  else match ptpEvent (noFcs octets) with
    | none => (s, octets)
    | some p =>
      let l := noFcs octets
      let r :=
        if h.origin.passing then (if s.tcEnabled q then s.correctTc q h p l else (s, l))
        else if 32 ≤ q then s.sendEvent q p l
        else (s, l)
      (r.1, if r.2 = l then octets else withFcs r.2)

/-! ## The start of a departure -/

/-- The buckets on the path are charged (R331, R332). -/
def State.chargePath (s : State) (q : Nat) (h : Held) : State :=
  let n := s.chargeOct q (s.heldLen h)
  let s1 := s.charge (portBucket q) n
  if (h.departing.isEmpty && h.sent.isEmpty) || h.interrupted.contains q then
    (s1.charge (flowBucket h.flow) n).charge (nodeBucket (schedNode (s.sched h.flow))) n
  else s1

/-- A frame that leaves late (R345). -/
def State.lateCheck (s : State) (q : Nat) (h : Held) : State :=
  match h.launchAt with
  | none => s
  | some t =>
    if t + s.get SCH_CFG.late_tol_ns < s.todNs + s.egressNs q then (s.inc SCH_LATE_CNT.count).set1 SCH_EVENT.late else s

/-- A frame that was ended under R29 leaves again (R30, R308). -/
def State.countResend (s : State) (q : Nat) (h : Held) : State :=
  if !h.interrupted.contains q then s
  else
    let s1 := ((s.inc JNL_RESEND_CNT.count).recRead h.slot).checkRec h.slot
    match s1.record h.slot with
    | some r => s1.writeRec h.slot { r with resends := min 15 (r.resends + 1) }
    | none => s1

/-- A frame runs past its gate's close after a step-down (R409). -/
def State.countOverrun (s : State) (q c : Nat) (h : Held) : State :=
  if q < 32 ∨ 36 ≤ q then s
  else match s.gateLeft q c with
    | some n => if s.fitsNs q (s.heldLen h) n then s else s.inc (UL_GATE_OVERRUN_CNT.count (q - 32))
    | none => s

/-- What every departure does as it begins: charges, lateness, the Lens and the resend count. -/
def State.leaveBegin (s : State) (q c : Nat) (h : Held) : State :=
  ((((s.chargePath q h).lateCheck q h).lensDepart h.flow q (s.localNs - h.acceptNs)).countOverrun q c h).countResend q h

/-- A departure is entered on port q. -/
def State.enter (s : State) (q : Nat) (d : Departure) : State :=
  let s1 := s.setDepartures q (s.departures q ++ [d])
  match s1.heldAt d.slot with
  | none => s1
  | some h => s1.setHeld { h with
      departing := q :: h.departing, interrupted := h.interrupted.filter (· != q), launchDue := true }

/-- The octets handed to the egress under cut-through end with the complement of their FCS, on a tree in the last XGEM fragment (R370);
into a ring nothing is published. -/
def State.ctClose (s : State) (q c : Nat) (h : Held) (xgem : Nat) (l : List Byte) : State :=
  let s1 := s.leaveBegin q c h
  if 36 ≤ q then s1
  else { s1 with sch := { s1.sch with closings := mset q ⟨h.slot, l.length, closingOctets l, xgem, decide (q < 32)⟩ s1.sch.closings } }

/-- A tag failure: the frame is reported with cause 4 and is not sent again (R369, R370). No departure begins but that of a frame whose
octets had been handed to the egress. -/
def State.failTag (s : State) (q c : Nat) (h : Held) (xgem : Nat) (ct : Bool) (handed : Option (List Byte)) : State :=
  let s1 := match handed with
    | some l => s.ctClose q c h xgem l
    | none => s
  (if ct then s1.inc CIP_CT_FAIL_CNT.count else s1).undeliverable h.slot 4

/-- The octets with which a frame leaves, and the departure (R203, R366, R389). -/
def State.leave (s : State) (q c : Nat) (h : Held) (xgem : Nat) (part : Nat → Nat) : State :=
  let r := (s.degradedRead h).encipher h (s.frameOctets h)
  match r.2 with
  | .failed ct handed => r.1.failTag q c h xgem ct handed
  | .frame o =>
    let e := r.1.eventOut q h o
    let rt := match e.1.record h.slot with
      | some x => if 32 ≤ q ∧ q < 36 ∧ h.replicated x then some x.rtagSeq else none
      | none => none
    let o1 := match rt with
      | some n => e.1.withRtag n e.2
      | none => e.2
    (e.1.leaveBegin q c h).enter q ⟨h.slot, h.seq, o1, xgem, part o1.length⟩

/-! ## Trees: fitting and fragments (R85, R86) -/

/-- The octets that the rest of the tree frame and of the gate's window still take for class c on tree t (R85). -/
def State.treeRoom (s : State) (t c : Nat) : Nat :=
  match s.gateLeft t c with
  | none => (s.tree t).payLeft
  | some n => min (s.tree t).payLeft (n * s.octPerUs t / 1000)

/-- A frame waits at a window edge or a tree-frame end (R86). One wait is counted once: the next begins when a gate entry of the tree
changes or a tree frame begins (DEDUCED, log 134). -/
def State.edgeWait (s : State) (t slot : Nat) : State :=
  if s.sch.edgeHeld.contains (2 * slot + 1) then s
  else ({ s with sch := { s.sch with edgeHeld := (2 * slot + 1) :: s.sch.edgeHeld } }).inc (TE_EDGE_WAIT_CNT.count t)

/-- The payload octets that a fragment can carry in some room, 0 when fewer than 16 fit (R85). -/
def fragFit (room left : Nat) : Nat :=
  let n := (room - xgemHeader) / 4 * 4
  if n < 16 then 0 else min n left

/-- The payload with which n octets of a departure, from those already sent on, leave. -/
def Departure.part (d : Departure) (n : Nat) : List Byte := (d.octets.drop (d.octets.length - d.left)).take n

/-- The departure of a frame on a tree goes on with n of its octets in an XGEM frame; a fragment that the engine cuts is counted
(R85, R86). -/
def State.sendPart (s : State) (t w : Nat) (d : Departure) (n : Nat) : State :=
  let s1 := s.setDepartures t ((s.departures t).map fun x => if x = d then { d with left := d.left - n } else x)
  let s2 := s1.sendXgem t w (d.left == n) (d.part n)
  if d.left = n then s2 else s2.inc (TE_FRAG_CNT.count t)

/-- The rest of a part-sent frame goes on (R85, R86). -/
def State.continueFrag (s : State) (t c w : Nat) (d : Departure) : State :=
  let room := s.treeRoom t c
  if xgemOctets d.left ≤ room then s.sendPart t w d d.left
  else
    let n := fragFit room d.left
    if n = 0 then s.edgeWait t d.slot else s.sendPart t w d n

/-- A chosen frame leaves on a tree whole, in a first fragment, or waits (R85, R86). -/
def State.leaveTree (s0 s : State) (t c : Nat) (h : Held) : State :=
  let e := s.portEntry t h.ptidx
  let len := s.departLen h.flow (s.frameOctets h)
  let room := s.treeRoom t c
  let n := if xgemOctets len ≤ room then len else if fragOk e then fragFit room len else 0
  if n = 0 then s0.edgeWait t h.slot
  else
    let s1 := s.leave t c h (bitsOf e 0 16) fun m => m
    match (s1.departures t).find? fun d => d.slot == h.slot with
    | some d => s1.sendPart t e d (min n d.left)
    | none => s1

/-- A part-sent frame whose gate is open and whose key is valid, the oldest, with its class and port-table entry. While it waits for
room, the tree takes no other frame, which R86 would allow (DESIGN CHOICE, log 135). -/
def State.partSent (s : State) (t : Nat) : Option (Departure × Nat × Nat) :=
  ((s.departures t).filterMap fun d => match s.heldAt d.slot with
    | some h =>
      let c := schedTc (s.sched h.flow)
      let w := s.portEntry t h.ptidx
      if d.left ≠ 0 ∧ s.gateOpen t c ∧ s.treeKeyOk t w then some (d, c, w) else none
    | none => none).head?

/-- A tree can take a frame (R30, R80, R309). -/
def State.treeTakes (s : State) (t : Nat) : Bool :=
  (s.treeState t == 2 || s.treeState t == 3 || (s.treeState t == 6 && decide ((s.tree t).step = .stop))) &&
    !s.protBlocked t && !s.protQuiet t && s.up (treeIsl t) && !(s.tree t).fillNext

/-- The completion log of a departure point has room for every departure under way and one more (R309). -/
def State.logRoom (s : State) (q : Nat) : Bool :=
  decide (36 ≤ q) || decide ((mgetD q [] s.jnl.logs).length + (s.departures q).length < 4096)

/-- A port can take a frame or the next fragment of one (R309, R314, R405, R443). -/
def State.portTakes (s : State) (q : Nat) : Bool :=
  s.jnlUp && s.up 17 &&
    (if q < 32 then s.treeTakes q
    else if q < 36 then
      (s.departures q).isEmpty && s.up 22 && s.on (UL_PORT_STATUS.link (q - 32)) && s.on (UL_PORT_STATUS.raw_up (q - 32)) &&
        s.on (UL_PORT_CFG.admin_en (q - 32))
    else if q = 36 then
      (s.departures q).isEmpty && (s.get LM_HRX_PROD.value + 1) % max 1 (s.get LM_HRX_SIZE.value) != s.get LM_HRX_CONS.value
    else (s.departures q).isEmpty)

/-- Port q takes its next frame (R330); with its completion log full it begins no departure, and only a part-sent frame goes on
(R309). -/
def State.select (s : State) (q : Nat) : State :=
  match if q < 32 then s.partSent q else none with
  | some (d, c, w) => s.continueFrag q c w d
  | none =>
    if !s.logRoom q then s
    else
      let r := s.nextFrame q 8
      match r.2 with
      | none => r.1
      | some (c, h) => if q < 32 then State.leaveTree s r.1 q c h else r.1.leave q c h 0 fun _ => 0

/-- PORT_SELECT (R330): port q can take a frame and chooses the next eligible one. On a tree the payload that has passed is gone. -/
def execPortSelect (q : Port) (s : State) : Host.Outcome State Fault Refusal :=
  if s.portTakes q.val then ((if q.val < 32 then s.passPayload q.val else s).select q.val).done else s.done

end Sys2Proof.Machine
end

