-- ==== Sys2Proof/Machine/Grant.lean ====
section
/-! DEFINITION. The commands of the Grant Engine (R145 to R177), and the comparison of mirrored maps (R178 to R182). -/

namespace Sys2Proof.Machine

/-! ## Commits and reserves (R146, R147, R152, R154) -/

/-- ALLOC_SHADOW_WRITE (R146): word 1, or word 2, of a descriptor goes to its shadow. -/
def execAllocShadowWrite (t : Tree) (i : Fin 512) (second : Bool) (d : BitVec 64) (s : State) :
    Host.Outcome State Fault Refusal :=
  if s.answers [10] then
    ((s.ungate 10).modAlloc t.val i.val fun a => if second then { a with s2 := d } else { a with s1 := d }).done
  else s.done

/-- A refusal is recorded (R146, R147). -/
def State.allocRefuse (s : State) (t index reason : Nat) : State :=
  (((s.set1 GE_EVENT.alloc_refused).put GE_ALLOC_REFUSE.tree t).put GE_ALLOC_REFUSE.index index).put GE_ALLOC_REFUSE.reason reason

/-- Word 1 with max_grant_oct cut to the ceiling (R146). -/
def State.cutMax (s : State) (t : Nat) (w : BitVec 64) : BitVec 64 :=
  BitVec.ofNat 64 (withBits w.toNat 24 20 (min (aMax w) (s.ceiling t)))

/-- The entry that a commit would make. -/
def State.candidate (s : State) (t i : Nat) (d : BitVec 64) : Alloc :=
  let a := s.alloc t i
  { a with w0 := d, w1 := s.cutMax t a.s1, w2 := a.s2, lastRx := if aEn a.w0 then a.lastRx else none }

/-- Fields agree with the class (R145, R146 reason 0x3). -/
def Alloc.fieldsOk (a : Alloc) : Bool :=
  let c := aClass a.w0
  (aAgr a.w0 || aAgrMax a.w1 == 0) && !(c == 0 && aAgr a.w0) && decide (aGuar a.w1 ≤ aMax a.w1) &&
    (if c = 2 then aGuar a.w1 == 0 && decide (0 < aNa a.w2) && aWeight a.w2 == 0
    else if c = 3 then aGuar a.w1 == 0 && aNa a.w2 == 0 && decide (1 ≤ aWeight a.w2)
    else aNa a.w2 == 0 && aWeight a.w2 == 0)

/-- The reason for which a commit with en = 1 is refused, 0 for none; the lowest where several fail (R146; DEDUCED, log 41). -/
def State.commitReason (s : State) (t i : Nat) (a : Alloc) : Nat :=
  let l := mset i a (s.allocsOf t)
  let others := mdel i (s.allocsOf t)
  let st := (s.term t (aOnu a.w0)).state
  let sum := committedOf l (s.ovhMax t) (s.get (GE_TREE_RES.be_res_oct t)) (s.get (GE_TREE_CALRES.cal_res_oct t))
  if 440 < (l.filter fun e => e.2.guaranteed).length then 1
  else if s.frameOctets125 t < sum then 2
  else if !a.fieldsOk then 3
  else if st ≠ .ranged ∧ st ≠ .operation then 4
  else if others.any fun e => aEn e.2.w0 && aId e.2.w0 == aId a.w0 then 5
  else if s.treeState t = 0 then 6
  else 0

/-- A commit of word 0 (R146, R167, R171, R188). -/
def State.commit (s : State) (t i : Nat) (d : BitVec 64) : State :=
  let old := s.alloc t i
  let a := s.candidate t i d
  let r := if aEn d then s.commitReason t i a else 0
  if r ≠ 0 then s.allocRefuse t i r
  else
    let s1 := s.both t fun s =>
      let a := s.candidate t i d
      s.modAlloc t i fun _ => if aEn d then a else { a with age := 0 }
    let s2 := if aEn d then s1 else s1.rebuildOpen t
    if old.fixedOn || a.fixedOn then s2.rebuildFallback t else s2

/-- ALLOC_COMMIT (R146). -/
def execAllocCommit (t : Tree) (i : Fin 512) (d : BitVec 64) (s : State) : Host.Outcome State Fault Refusal :=
  if s.answers [10] then ((s.ungate 10).commit t.val i.val d).done else s.done

/-- A change of a reserve or of the guard stands unless it raises the sum above the frame octets (R147). -/
def State.reserveOk (old new : State) (t : Nat) : Bool :=
  decide (new.committed t ≤ new.frameOctets125 t) || decide (new.committed t ≤ old.committed t)

/-- be_res_oct is raised to its floor, subject to R147 (R166); a floor that its 20 bits cannot hold is above every tree's frame octets. -/
def State.raiseBeRes (s : State) (t : Nat) : State :=
  let v := s.get (GE_TREE_RES.be_res_oct t)
  if v = 0 ∨ s.beResFloor t ≤ v ∨ 2 ^ 20 ≤ s.beResFloor t then s
  else
    let s1 := s.put (GE_TREE_RES.be_res_oct t) (s.beResFloor t)
    if s1.committed t ≤ s1.frameOctets125 t then s1 else s

/-- A rise of ovh_max from one state to another raises be_res_oct again (R166). -/
def State.ovhRise (old new : State) (t : Nat) : State := if old.ovhMax t < new.ovhMax t then new.raiseBeRes t else new

/-- A write of GE_TREE_RES_n (R147, R166). -/
def State.resWrite (s : State) (t d : Nat) : State :=
  let v := (GE_TREE_RES.be_res_oct t).of d
  let v := if v = 0 then 0 else max v (s.beResFloor t)
  let s1 := s.put (GE_TREE_RES.be_res_oct t) v
  if v < 2 ^ 20 ∧ s.reserveOk s1 t then s1 else s.allocRefuse t 0x1FF 2

/-- A write of GE_TREE_CALRES_n (R147). -/
def State.calResWrite (s : State) (t d : Nat) : State :=
  let s1 := s.put (GE_TREE_CALRES.cal_res_oct t) ((GE_TREE_CALRES.cal_res_oct t).of d)
  if s.reserveOk s1 t then s1 else s.allocRefuse t 0x1FF 2

/-- A write of GE_TREE_CFG_n (R147, R166, R188). -/
def State.geCfgWrite (s : State) (t d : Nat) : State :=
  let s0 := (s.put (GE_TREE_CFG.cal_max t) ((GE_TREE_CFG.cal_max t).of d)).put (GE_TREE_CFG.be_min_oct t)
    ((GE_TREE_CFG.be_min_oct t).of d)
  let s1 := s0.put (GE_TREE_CFG.guard_extra t) ((GE_TREE_CFG.guard_extra t).of d)
  if s0.reserveOk s1 t then
    let s2 := s0.ovhRise s1 t
    if s0.guardOct t ≠ s1.guardOct t then s2.rebuildFallback t else s2
  else s0.allocRefuse t 0x1FF 2

/-- TREE_RES_WRITE (R147). -/
def execTreeResWrite (t : Tree) (reg : TreeResReg) (d : BitVec 32) (s : State) : Host.Outcome State Fault Refusal :=
  if s.answers [10] then
    match reg with
    | .res => ((s.ungate 10).resWrite t.val d.toNat).done
    | .calres => ((s.ungate 10).calResWrite t.val d.toNat).done
    | .cfg => ((s.ungate 10).geCfgWrite t.val d.toNat).done
  else s.done

/-- A write of BC_PROF_n_p (R211); a change of ovh_max follows R166 and R188. -/
def State.profWrite (s : State) (t p d : Nat) : State :=
  if s.profRefused t p d then s.set1 BC_EVENT.prof_refused
  else
    let s1 := s.putRw d (bcProfFields t p)
    let s2 := (s.ovhRise s1 t).p3Check t
    if s1.ovhMax t ≠ s.ovhMax t then s2.rebuildFallback t else s2

/-- BURST_PROFILE_WRITE (R211). -/
def execBurstProfileWrite (t : Tree) (p : Fin 4) (d : BitVec 32) (s : State) : Host.Outcome State Fault Refusal :=
  if s.answers [12] then ((s.ungate 12).profWrite t.val p.val d.toNat).done else s.done

/-- A write of GE_MAP_CTRL (R154, R173). -/
def State.runAheadWrite (s : State) (d : Nat) : State :=
  let v := GE_MAP_CTRL.run_ahead.of d
  if s.allDark ∧ 1 ≤ v ∧ v ≤ 4 then s.put GE_MAP_CTRL.run_ahead v else s.set1 GE_EVENT.ra_refused

/-- RUN_AHEAD_WRITE (R154). -/
def execRunAheadWrite (d : BitVec 32) (s : State) : Host.Outcome State Fault Refusal :=
  if s.answers [10] then ((s.ungate 10).runAheadWrite d.toNat).done else s.done

/-! ## The life of a map (R155, R164) -/

/-- The privileged map of a tree whose build begins while no Mirror core is in service (R182, R184). -/
def State.gapMap (k : Nat) (s : State) (t : Nat) : State :=
  if !s.privTree t || !s.mapTree t then s
  else if s.unmirrored then s.inc MIR_UNMIRRORED_CNT.count
  else if s.mirRuns then s
  else
    let s1 := s.inc MIR_GAP_CNT.count
    if s.on MIR_CTRL.gap_mode then s1
    else match s1.gmap t k with
      | some m => s1.setMap { m with replace := true }
      | none => s1

/-- Map k of one tree is built by the Grant Engine, and by the Mirror where it mirrors the tree (R155, R178). -/
def State.buildBoth (k : Nat) (s : State) (t : Nat) : State := s.both t fun s => s.buildMap k t

/-- The maps of a tree frame are built (R155, R162, R163, R178, R182) after the Mirror has taken the state that is due to it and ranging
placements that wait have been tried; calibration requests that this build has not placed in time are counted late (R222). -/
def State.buildBegin (s : State) : State :=
  let k := s.ge.k + s.runAhead
  let s0 := s.takeDue
  let trees := (List.range 32).filter s0.mapTree
  let s1 := trees.foldl State.placeWaiting s0
  let s2 := { s1 with ge := { s1.ge with begun := k } }
  let s3 := trees.foldl (State.buildBoth k) s2
  ((List.range 32).foldl (State.gapMap k) s3).lateReqs 8

/-- MAP_BUILD_BEGIN (R155): N tree frames ahead of its tick, once per map. -/
def execMapBuildBegin (s : State) : Host.Outcome State Fault Refusal :=
  if s.up 10 && decide (s.ge.begun < s.ge.k + s.runAhead) then s.buildBegin.done else s.done

/-- The comparison of map k of a tree at Build ends (R179): a difference in transit that the command names, a late Mirror map, or what the
comparator finds in the two maps. -/
def State.compareEnd (k : Nat) (diffs : List MirrorDiff) (s : State) (t : Nat) : State :=
  match diffs.find? fun d => d.tree.val == t with
  | some d =>
    if d.late then s.mismatchAt t k 3 0x1FF
    else if d.index = 0x1FF then s.mismatchAt t k 1 0x1FF
    else s.mismatchAt t k 2 d.index.toNat
  | none => if s.mirrors t then s.comparePair t k else s

/-- The maps k whose build runs have been built. -/
def State.mapsBuilt (s : State) (k : Nat) : State :=
  let f (m : GMap) : GMap := if m.k = k ∧ m.stage = MapStage.building then { m with stage := .built } else m
  { s with ge := { s.ge with maps := s.ge.maps.map f }, mir := { s.mir with maps := s.mir.maps.map f } }

/-- The builds end and the comparison completes; a check that is due or forced begins (R155, R179 to R181). -/
def State.buildEnd (s : State) (us : Nat) (diffs : List MirrorDiff) : State :=
  let k := s.ge.begun
  let s1 := (s.mapsBuilt k).put GE_STATUS.build_us us
  ((List.range 32).foldl (State.compareEnd k diffs) s1).checkBegins true

/-- MAP_BUILD_END (R155, R179). -/
def execMapBuildEnd (us : BitVec 8) (diffs : List MirrorDiff) (s : State) : Host.Outcome State Fault Refusal :=
  if s.up 10 then (s.buildEnd us.toNat diffs).done else s.done

/-- MAP_CUTOFF (R155, R167): the built maps of the next tick become honoured. -/
def execMapCutoff (s : State) : Host.Outcome State Fault Refusal :=
  if s.up 10 then
    State.done { s with ge := { s.ge with maps := s.ge.maps.map fun (m : GMap) =>
      if m.k = s.ge.k + 1 ∧ m.stage = MapStage.built then { m with stage := .honoured } else m } }
  else s.done

/-- A map is replaced by the Fallback Map of its tree, and what it had placed is asked for again (R155, R164, R180). -/
def State.replaceOne (s : State) (m : GMap) : State :=
  (((s.unbuild m).askAgain m (m.cals.map (·.1))).setMap { m with stage := .replaced, slots := [], agr := [], cals := [] })

/-- Map k of a tree is replaced by the Fallback Map that is in use at its seal (R155, R164, R180, R191). -/
def State.replaceMap (s : State) (t k : Nat) : State :=
  ((s.onMap State.replaceOne t k).inc (GE_BE_IMPAIR_CNT.count t)).callFallback t k

/-- What a sealed map changes in one allocation of its snapshot (R145, R165, R171). -/
def sealAlloc (m : GMap) (i : Nat) (a : Alloc) : Alloc :=
  let n := m.granted i
  { a with
    lastGrant := n, granted := a.granted + n
    age := if !aEn a.w0 then 0 else if !m.servedOk then a.age else if 0 < n then 0 else min 15 (a.age + 1) }

/-- The allocations of a tree take note of a sealed map (R145, R165), and the map is sealed. -/
def State.sealAllocs (s : State) (m : GMap) : State :=
  let t := m.tree
  ((s.allocsOf t).foldl (fun s e =>
    if m.snap.any fun x => x.idx == e.1 then s.modAlloc t e.1 (sealAlloc m e.1)
    else s.modAlloc t e.1 fun a => { a with lastGrant := 0 }) s).setMap { m with stage := .sealed }

/-- A map is sealed: grants and ages are noted, and the load window takes its grants (R145, R165, R218). -/
def State.sealOne (s : State) (m : GMap) : State :=
  let t := m.tree
  let s1 := (s.onMap State.sealAllocs t m.k).noteGrants t (m.grants.foldl (fun a e => a + e.2) 0)
  if m.servedOk then s1 else s1.inc (GE_BE_IMPAIR_CNT.count t)

/-- A map was not built when its seal fell due (R155). -/
def State.buildLate (s : State) : State := (s.inc GE_BUILD_LATE_CNT.count).set1 GE_EVENT.build_late

/-- The seal of one tree's map (R155, R164, R174, R175, R180). -/
def State.sealTree (k : Nat) (unacked : List Nat) (s : State) (t : Nat) : State :=
  match s.gmap t k with
  | none => if s.mapTree t then (s.buildLate.inc (GE_BE_IMPAIR_CNT.count t)).callFallback t k else s
  | some m =>
    if m.stage = .building then s.buildLate.replaceMap t k
    else if !s.limitsOk m then
      ((((s.inc (GE_LIMIT_FAIL_CNT.count t)).inc (GE_FALLBACK_CNT.count t)).set1 GE_EVENT.limit_fail).tlogEvent .ge 2 t).replaceMap t k
    else if m.replace || unacked.contains t then s.replaceMap t k
    else s.sealOne m

/-- MAP_SEAL (R164). -/
def execMapSeal (unacked : List Tree) (s : State) : Host.Outcome State Fault Refusal :=
  if s.up 10 then ((List.range 32).foldl (State.sealTree (s.ge.k + 1) (unacked.map (·.val))) s).done else s.done

/-! ## Advance Grant Requests (R157 to R161) -/

/-- A discarded record or frame (R159). -/
def State.agrBad (s : State) (reason tree seq : Nat) : State :=
  ((((s.inc GE_AGR_BAD_CNT.count).set1 GE_EVENT.agr_bad).put GE_AGR_LAST_BAD.reason reason).put GE_AGR_LAST_BAD.tree tree).put
    GE_AGR_LAST_BAD.seq seq

/-- The window start of a record in ns of the time of day: the time nearest now whose seconds agree in 16 bits (R158). -/
def State.agrStart (s : State) (winS winNs : Nat) : Nat :=
  let now := s.todNs
  let base := now / 1000000000 / 65536 * 65536 + winS
  let at_ (sec : Nat) : Nat := sec * 1000000000 + winNs
  let dist (x : Nat) : Nat := (x - now) + (now - x)
  let c := [base, base + 65536] ++ (if 65536 ≤ base then [base - 65536] else [])
  c.foldl (fun b x => if dist (at_ x) < dist b then at_ x else b) (at_ base)

/-- The first upstream frame of a tree that a window of the time of day meets. -/
def State.firstFrame (s : State) (t start : Nat) : Nat :=
  s.ge.k + (start - s.todOfNs (s.upNs t s.ge.k)) / 125000

/-- Why a record is discarded, 0 for no reason (R158, R159); of several, the lowest code (DESIGN CHOICE, log 146). -/
def State.agrWhy (s : State) (tenant arrival : Nat) (r : List Byte) : Nat :=
  let t := fieldAt r 0 1
  let onu := fieldAt r 1 1
  let id := fieldAt r 2 2
  let ns := fieldAt r 6 4
  let len := fieldAt r 10 2
  let oct := fieldAt r 12 4
  let cancel := bit1 (fieldAt r 16 1) 7
  let st := s.agrStart (fieldAt r 4 2) ns
  if 16384 ≤ id ∨ fieldAt r 16 1 % 128 ≠ 0 ∨ fieldAt r 17 1 ≠ 0 ∨ 31 < t ∨ 1000000000 ≤ ns ∨ len = 0 ∨ 1000 < len ∨
      (if cancel then oct ≠ 0 else oct = 0 ∨ 4000000 < oct) then 3
  else if s.treeState t ≠ 3 then 4
  else match s.allocById t id with
    | none => 5
    | some (_, a) =>
      if aOnu a.w0 ≠ onu then 5
      else if aTenant a.w0 ≠ tenant then 6
      else if !aAgr a.w0 then 7
      else if st + len * 1000 < arrival ∨ arrival + 1000000000 < st then 8
      else if !s.operating t onu then 9
      else if cancel ∧ !(s.ge.agr.any fun x => x.tree == t && x.reqId == fieldAt r 18 2) then 0xA
      else 0

/-- Records leave the store for good, cancelled or past their window: octets of them that a map gives back are not stored again (R161,
R167). -/
def State.agrGone (s : State) (p : AgrRec → Bool) : State :=
  { s with ge := { s.ge with
    agr := s.ge.agr.filter fun x => !p x
    maps := s.ge.maps.map fun m => { m with agr := m.agr.filter fun e => !p e.1 } } }

/-- A record that passes its checks: a cancel, a timely record or a late one; one without a stamp is late (R160, R161, R400). -/
def State.agrTake (s : State) (arrival : Nat) (stamped : Bool) (r : List Byte) : State :=
  let t := fieldAt r 0 1
  let id := fieldAt r 18 2
  let len := fieldAt r 10 2 * 1000
  let st := s.agrStart (fieldAt r 4 2) (fieldAt r 6 4)
  let i := ((s.allocById t (fieldAt r 2 2)).map (·.1)).getD 0
  let k := s.firstFrame t st
  let deadline := s.todOfNs (s.tickAt k)
  if bit1 (fieldAt r 16 1) 7 then
    (s.inc GE_AGR_CANCEL_CNT.count).both t fun s => s.agrGone fun x => x.tree == t && x.reqId == id
  else if !stamped ∨ deadline < arrival + s.runAhead * 125000 + 50000 ∨ k ≤ s.ge.begun then
    { s.inc GE_AGR_LATE_CNT.count with ge := { s.ge with late := s.ge.late ++ [⟨t, i, fieldAt r 12 4, st, st + len⟩] } }
  else if 4096 ≤ s.ge.agr.length then (s.inc GE_AGR_FULL_CNT.count).set1 GE_EVENT.agr_full
  else s.both t fun s => { s with ge := { s.ge with
    agr := s.ge.agr ++ [⟨t, fieldAt r 1 1, i, st, len, fieldAt r 12 4, id, s.ge.agrSeq, false⟩], agrSeq := s.ge.agrSeq + 1 } }

/-- One record of a frame (R158 to R161). -/
def State.agrRecord (tenant arrival seq : Nat) (stamped : Bool) (s : State) (r : List Byte) : State :=
  let s1 := s.inc GE_AGR_RX_CNT.count
  match s1.agrWhy tenant arrival r with
  | 0 => s1.agrTake arrival stamped r
  | w => s1.agrBad w (fieldAt r 0 1) seq

/-- An AGR frame (R157 to R159). A frame that the Prisms deliver with another EtherType than GE_AGR_CFG.ethertype is no AGR: it is discarded
like one with a bad header (DESIGN CHOICE, log 147). -/
def State.agrFrame (s : State) (f : AgrFrame) : State :=
  let e := vlanEnd (s.get PR_PARSE_CFG.tpid3) f.frame (f.frame.length / 4) 12
  let o := e + 2
  let n := fieldAt f.frame (o + 1) 1
  let seq := fieldAt f.frame (o + 2) 2
  let arrival := match f.stamp with | some x => x.tod / nsUnit | none => s.todNs
  if !s.on GE_AGR_CFG.en then s.agrBad 1 0xFF seq
  else if fieldAt f.frame e 2 ≠ s.get GE_AGR_CFG.ethertype ∨ fieldAt f.frame o 1 ≠ 1 ∨ n = 0 ∨ 32 < n ∨ f.frame.length < o + 8 + 20 * n then s.agrBad 2 0xFF seq
  else if fieldAt f.frame (o + 6) 2 ≠ 0 then s.agrBad 3 0xFF seq
  else (List.range n).foldl (fun s j => s.agrRecord f.tenant arrival seq f.stamp.isSome (slice f.frame (o + 8 + 20 * j) 20)) s

/-- AGR_FRAME (R157, R502): the first frame that the Prisms have delivered; with GRANT Failed it is discarded with reason 0x01. -/
def execAgrFrame (s : State) : Host.Outcome State Fault Refusal :=
  match s.ge.agrIn with
  | [] => s.done
  | f :: r =>
    let s1 : State := { s with ge := { s.ge with agrIn := r } }
    if s.up 10 then (s1.agrFrame f).done
    else if s.isl 10 = 3 then (s1.agrBad 1 0xFF 0).done
    else s.done

/-- AGR_WINDOW_END (R161): a record whose window ends leaves the store; octets left are cut, counted once. -/
def execAgrWindowEnd (t : Tree) (reqId : BitVec 16) (s : State) : Host.Outcome State Fault Refusal :=
  match s.ge.agr.find? fun r => r.tree == t.val && r.reqId == reqId.toNat with
  | none => (s.both t.val fun s => s.agrGone fun x => x.tree == t.val && x.reqId == reqId.toNat).done
  | some r =>
    let s1 := s.both t.val fun s => s.agrGone fun x => x.seq == r.seq
    if r.cut then s1.done else (s1.inc GE_AGR_CUT_CNT.count).done

/-! ## Grant policy updates (R176) -/

/-- One entry of a grant policy update. -/
def digestEntry (i : Nat) (a : Alloc) : List Byte :=
  octetsBE 8 (i <<< 55 ||| aClass a.w0 <<< 53 ||| min (a.granted / 64) 0xFFFFF <<< 20 ||| min (a.idle / 64) 0xFFFFF)

/-- The grant policy update of a tree. -/
def State.digest (s : State) (t : Nat) : State :=
  let l := (s.allocsOf t).filter fun e => aEn e.2.w0
  s.workItem 1 t 0 (octetsBE 1 t ++ octetsBE 3 0 ++ octetsBE 4 (s.get (TE_SFC.sfc t) % 2 ^ 32) ++
    l.flatMap fun e => digestEntry e.1 e.2)

/-- A new period of the grant policy updates begins for every allocation. -/
def State.newPeriod (s : State) : State := { s with allocs := s.allocs.map fun e => (e.1, { e.2 with granted := 0, idle := 0 }) }

/-- GRANT_POLICY_DIGEST (R176): one item per Active tree; a digest_frames of 0 stops them. -/
def execGrantPolicyDigest (s : State) : Host.Outcome State Fault Refusal :=
  if s.up 10 && s.on GE_FW_CFG.digest_frames then
    (((List.range 32).filter fun t => s.treeState t == 3).foldl State.digest s).newPeriod.done
  else s.done

end Sys2Proof.Machine
end

