-- ==== Sys2Proof/Machine/SpareOps.lean ====
section
/-! DEFINITION. What the spare classes share (R505, R507): modes, the retirement record, a spare brought in, a class without a
spare, and the binding of lanes to DSP slices (R508). -/

namespace Sys2Proof.Machine

/-- The swap mode of a class in the SPARE Drawer (R65, R505). -/
def State.swapMode (s : State) (c : Nat) : Nat := (mgetD c {} s.struct.spare).swapMode

/-- Spares left in a class. -/
def State.spareLeft (s : State) (c : Nat) : Nat := s.get (REL_SPARE.remaining (c - 1))

/-- A part stands in the retirement record. -/
def State.isRetired (s : State) (c part : Nat) : Bool := (mget (c * 4096 + part) s.rel.retired).isSome

/-- A part enters the retirement record. -/
def State.retire (s : State) (c part : Nat) : State :=
  { s with rel := { s.rel with retired := mset (c * 4096 + part) 1 s.rel.retired } }

/-- A spare leaves the reserve of a class; the last one sets REL_EVENT.exhausted (R505). -/
def State.takeSpare (s : State) (c : Nat) : State :=
  let n := s.spareLeft c - 1
  let s1 := s.put (REL_SPARE.remaining (c - 1)) n
  if n = 0 then s1.set1 REL_EVENT.exhausted else s1

/-- A swap is counted and logged (R505). -/
def State.swapDone (s : State) (c part spare : Nat) : State :=
  ((s.inc REL_SWAP_CNT.count).set1 REL_EVENT.swap_done).tlog 0x05 .rel (c + part % 4096 * 16 + spare % 4096 * 65536)

/-- A loss that R507 imposes is logged (R505). -/
def State.spareLoss (s : State) (c part : Nat) : State := s.tlog 0x06 .rel (c + part % 4096 * 16)

/-- A swap awaits approval (R505). A class holds one pending part; a later one waits for it (DESIGN CHOICE, log 49). -/
def State.askSwap (s : State) (c part : Nat) : State :=
  let s1 := s.set1 REL_EVENT.swap_req
  if s1.on (REL_SPARE.pending (c - 1)) && s1.get (REL_SPARE.pending_part (c - 1)) == part then s1
  else if s1.on (REL_SPARE.pending (c - 1)) then
    { s1 with rel := { s1.rel with asking := s1.rel.asking.filter (· != (c, part)) ++ [(c, part)] } }
  else (s1.put (REL_SPARE.pending (c - 1)) 1).put (REL_SPARE.pending_part (c - 1)) part

/-- The pending swap of a class awaits approval no more; the part of the class that has waited longest behind it does (log 49). -/
def State.clearPending (s : State) (c : Nat) : State :=
  match s.rel.asking.find? fun e => e.1 == c with
  | none => (s.put (REL_SPARE.pending (c - 1)) 0).put (REL_SPARE.pending_part (c - 1)) 0
  | some e => State.put { s with rel := { s.rel with asking := s.rel.asking.filter (· != e) } } (REL_SPARE.pending_part (c - 1)) e.2

/-! ## DSP slices (R407, R508) -/

/-- The part index that a slice has in the retirement record and in REL_WEAR_k (R518). -/
def slicePart (c sl : Nat) : Nat := 36 * c + sl

/-- The slices of a chiplet that serve a lane or are being trained for one. -/
def State.slicesBusy (s : State) (c : Nat) : List Nat :=
  ((List.range 32).filterMap fun j =>
    if s.on (REL_SLICE_MAP.bound c j) then some (s.get (REL_SLICE_MAP.slice c j)) else none) ++
  (s.rel.swaps.filterMap fun w => if w.lane / 32 = c then some w.spare else none)

/-- The lowest slice of a chiplet that is free and not retired. -/
def State.freeSlice (s : State) (c : Nat) : Option Nat :=
  (List.range 36).find? fun sl => !(s.slicesBusy c).contains sl && (mget (0x1800 + slicePart c sl) s.rel.retired).isNone

/-- A slice is retired. The record of slices is kept apart from that of lanes, from part 0x800 of class 0x1. -/
def State.retireSlice (s : State) (c sl : Nat) : State :=
  (s.retire 1 (0x800 + slicePart c sl)).put (REL_WEAR.state (24 + slicePart c sl)) 2

/-- The uplink port of a lane index, if it is an uplink lane of a port (R57, R508). -/
def State.lanePortOf (s : State) (lane : Nat) : Option Nat :=
  if lane % 32 < 16 then none
  else
    let k := lane / 32 * 16 + lane % 32 - 16
    (List.range 4).find? fun p => (s.portLanes p).contains k

/-- The swap of an uplink lane holds its port raw-down until it retrains (R407), and a down_ms count that runs stops (R410). -/
def State.holdPort (s : State) (lane : Nat) : State :=
  match s.lanePortOf lane with
  | none => s
  | some p =>
    let s1 := if s.on (UL_PORT_STATUS.raw_up p) then s.rawDown p else s
    let s2 := (s1.put (UL_PORT_STATUS.swap_hold p) 1).inc (UL_SWAP_CNT.count p)
    s2.setPort p { s2.portSt p with swapRaw := true, downRun := false }

/-- A slice swap begins its Prepare step (R508). -/
def State.beginSlice (s : State) (lane sl : Nat) (failed : Bool) : State :=
  let s1 := s.takeSpare 1
  State.holdPort { s1 with rel := { s1.rel with
      swaps := s1.rel.swaps ++ [⟨lane, sl, .prepare, failed⟩]
      goSwap := if s1.rel.goSwap = some (1, lane) then none else s1.rel.goSwap } } lane

/-- The lane of a swap is bound to its spare, and the slice it leaves is retired (R508). -/
def State.bindSlice (s : State) (w : SliceSwap) : State :=
  let c := w.lane / 32
  let j := w.lane % 32
  let old := s.get (REL_SLICE_MAP.slice c j)
  let s1 := (s.retireSlice c old).put (REL_SLICE_MAP.slice c j) w.spare
  let s2 := (s1.put (REL_SLICE_MAP.bound c j) 1).put (REL_WEAR.state (24 + slicePart c w.spare)) 0
  let s3 : State := { s2 with rel := { s2.rel with failed := s2.rel.failed.filter (· != (1, w.lane)) } }
  s3.swapDone 1 w.lane (slicePart c w.spare)

/-- A lane of an uplink has a slice (R408). -/
def State.hasSlice (s : State) (k : Nat) : Bool :=
  s.on (REL_SLICE_MAP.bound (k / 16) (16 + k % 16)) && !s.rel.failed.contains (1, k / 16 * 32 + 16 + k % 16)

end Sys2Proof.Machine
end

