-- ==== Sys2Proof/Machine/TreeOps.lean ====
section
/-! DEFINITION. Retention banks (R483) and the operations of the Tree Engines and their Continuity Sequencers (R80 to R109). -/

namespace Sys2Proof.Config

/-- The message integrity check of a downstream PLOAM message of a tree (R116); the standards of R79 define it and its key. -/
opaque ploamMic : Nat → Machine.Ploam → BitVec 64

end Sys2Proof.Config

namespace Sys2Proof.Machine

/-! ## The pin TXDIS and tree states (R99, R100) -/

/-- The device is in Standby, or on its way into or out of it with the lasers off. -/
def State.inStandby (s : State) : Bool := let x := s.get PWR_STATUS.state; x == 3 || x == 4

/-- TXDIS of a tree is asserted (R99). -/
def State.txdis (s : State) (t : Nat) : Bool :=
  decide (s.treeState t ≤ 1) || (s.treeState t == 5 && decide ((s.tree t).step = .power)) || s.inStandby || s.protBlocked t

/-- A tree sends tree frames: its sequencer is not held by the interlock or the Laser step of a switch-over (R80, R196, R198). -/
def State.sends (s : State) (t : Nat) : Bool :=
  let x := s.treeState t
  (x == 2 || x == 3 || x == 4 || x == 6 || (x == 5 && decide ((s.tree t).step = .sync))) && !s.protBlocked t &&
    !s.protQuiet t && !s.inStandby

/-- A tree sends its engine's content, not the fill frames of Doze. -/
def State.engineSends (s : State) (t : Nat) : Bool := s.sends t && s.treeState t != 4

/-- The lane of a tree has failed with no spare slice left: its state requests are ignored (R507). -/
def State.laneLost (s : State) (t : Nat) : Bool := s.rel.failed.contains (1, t / 16 * 32 + t % 16)

/-! ## Frames and maps of a tree that stops -/

/-- The slots of accepted frames for a tree. -/
def State.treeFrames (s : State) (t : Nat) : List Nat :=
  s.framesWhere fun h _ => match s.flowPart h.flow with
    | some p => p.kind == 0 && p.target % 32 == t
    | none => false

/-- The grants of bursts that will not come leave outstanding (R152). -/
def State.dropExpected (s : State) (t : Nat) : State :=
  let l := (s.tree t).expected.flatMap (·.allocs)
  (s.grantsGone t l).modTree t fun x => { x with expected := [] }

/-- A Dark request takes effect: Stop begins (R102); the load leaves the estimate (R479). -/
def State.darkBegin (s : State) (t : Nat) : State :=
  let s1 := ((s.put (TE_CTRL.state_req t) 0).put (TE_STATUS.state t) 6).modTree t fun x => { x with
    step := .stop, darkDeferred := false, dozeDisc := false }
  (s1.dropPower t).judgeTrees

/-- A Dark request (R93, R102): carried out after Rejoin where the tree's island is in reset. -/
def State.darkRequest (s : State) (t : Nat) : State :=
  if s.treeState t = 2 ∨ s.treeState t = 3 ∨ s.treeState t = 4 then
    if s.isl (treeIsl t) = 2 then s.modTree t fun x => { x with darkDeferred := true } else s.darkBegin t
  else s

/-- The Dark step ends (R102, R134): contexts are deregistered with cause 0x7, and the tree is Dark. -/
def State.goDark (s : State) (t : Nat) : State :=
  let s1 := (s.interrupt t).undeliverables 2 ((s.interrupt t).treeFrames t)
  let s2 := (s1.dropExpected t).withdrawWhere fun m => m.tree == t
  let live (x : TermState) : Bool := decide (x ≠ .free) && decide (x ≠ .quarantine)
  let s3 := (s2.inState t live).foldl (fun s o => s.dereg t o 7) s2
  let s4 := (s3.setWindows t []).modTree t fun x => { x with
    step := .none, bufferDry := false, fillNext := false, reasm := [], hwPloam := [], fwPloam := [], quietDue := false }
  (s4.put (TE_STATUS.state t) 1).put (TE_STATUS.cs_filling t) 0

/-! ## Retention banks (R483) -/

/-- Every tree-layer key of a tree is invalid. -/
def State.keysInvalid (s : State) (t : Nat) : State :=
  s.modTree t fun x => { x with
    ukeys := x.ukeys.map fun e => (e.1, { e.2 with valid := false })
    bkeys := x.bkeys.map fun e => (e.1, { e.2 with valid := false }) }

/-- The address range of a bank whose words lie in a table window. -/
def bankRange (s : State) (b : Nat) : List (Nat × Nat) :=
  if b < 32 then [(0x1000100000 + 0x1000 * b, 0x1000101000 + 0x1000 * b)]
  else if 96 ≤ b ∧ b < 128 then [(0x1000000000 + 0x8000 * (b - 96), 0x1000008000 + 0x8000 * (b - 96))]
  else if 136 ≤ b ∧ b < 140 then [(0x1010000000 + 0x2000000 * (b - 136), 0x1012000000 + 0x2000000 * (b - 136))]
  else if 140 ≤ b ∧ b < 149 then
    ((List.range 8).filter fun k => s.get (FWD_BANK_MAP.phys k) == b - 140).map fun k =>
      (0x1020000000 + 0x100000 * k, 0x1020100000 + 0x100000 * k)
  else if b = 149 then [(0x1021000000, 0x1021100000), (0x1022000000, 0x1022080000)]
  else if b = 150 then [(0x1000200000, 0x1000280000)]
  else if b = 151 then [(0x1030000000, 0x1030280000), (0x1030300000, 0x1030313000)]
  else if b = 152 then [(0x1030400000, 0x1030420000), (0x1030500000, 0x1030504000)]
  else if b = 153 then [(0x1040000000, 0x1040080000)]
  else if b = 154 then [(0x1000340000, 0x1000348000)]
  else []

/-- The allocation table has become Unwritten: its entries act as en = 0 (R483). -/
def State.allocsLost (s : State) : State :=
  (List.range 32).foldl (fun s t => (s.rebuildOpen t).rebuildFallback t) { s with allocs := [] }

/-- The terminal bank of a tree has failed: no context is known, and the tree goes Dark (R115). -/
def State.termBankLost (s : State) (t : Nat) : State :=
  let s1 := (s.inState t fun _ => true).foldl (fun s o => s.toFree t o) s
  ((s1.rebuildOpen t).litOrActive t).darkRequest t

/-- What the owner of a failed bank does (R483). -/
def State.bankOwner (s : State) (b : Nat) : State :=
  if b < 32 then s.termBankLost b
  else if b < 64 then s.rangingBankLost (b - 32)
  else if b < 96 then (s.keysInvalid (b - 64)).set1 (TE_EVENT.key_lost (b - 64))
  else if b < 128 then s
  else if b < 136 then s.calBankLost (b - 128)
  else if b = 150 then s.allocsLost
  else s

/-- A retention bank fails its check: it becomes Unwritten (R483). -/
def State.bankFail (s : State) (b : Nat) : State :=
  let s1 := (s.setBit (MGT_RET_FAIL.banks (b / 32)) (b % 32)).tlog 0x08 .mgt b
  ((bankRange s1 b).foldl (fun s r => s.markPoison r.1 r.2) s1).bankOwner b

/-- The retention banks of a tree (R483): terminal, ranging, keys and port table. -/
def treeBank (t b : Nat) : Bool := decide (b < 128) && b % 32 == t

/-- A tree has left Doze: its Fallback Map is built again, and of its retention banks those that fail their check are lost (R103, R482,
R483). -/
def State.dozeCheck (bad : List Nat) (s : State) (t : Nat) : State :=
  if (s.tree t).bankCheck then
    (bad.filter (treeBank t)).foldl State.bankFail ((s.modTree t fun x => { x with bankCheck := false }).rebuildFallback t)
  else s

/-- Every tree that has just left Doze has its banks checked (R103, R115). -/
def State.dozeChecks (s : State) (bad : List Nat) : State := (List.range 32).foldl (State.dozeCheck bad) s

/-! ## The superframe counter and keys (R82, R107, R108) -/

/-- The SFC of a tree advances, or takes the value loaded; a wrap or a load invalidates the keys (R82, R108). -/
def State.sfcAdvance (s : State) (t : Nat) : State :=
  let v := s.get (TE_SFC.sfc t)
  if (s.tree t).sfcLoadPending then
    (((s.put (TE_SFC.sfc t) (s.get (TE_SFC_SET.sfc t))).modTree t fun x => { x with sfcLoadPending := false }).keysInvalid t).set1
      (TE_EVENT.key_wrap t)
  else if v + 1 = 2 ^ 51 then ((s.put (TE_SFC.sfc t) 0).keysInvalid t).set1 (TE_EVENT.key_wrap t)
  else s.put (TE_SFC.sfc t) (v + 1)

/-- Key switches whose target the SFC has reached take effect (R107). -/
def State.keySwitches (s : State) (t : Nat) : State :=
  let v := s.get (TE_SFC.sfc t)
  let s1 := s.modTree t fun x =>
    let due := x.switches.filter fun k => k.target == v
    due.foldl (fun (x : TreeSt) k => if k.bcast then { x with bInUse := k.index } else
      { x with uInUse := mset k.onu k.index x.uInUse }) { x with switches := x.switches.filter fun k => k.target != v }
  s1.put (TE_KEY_SWITCH.pending t) (if (s1.tree t).switches.isEmpty then 0 else 1)

/-! ## The tree frame (R80, R81, R89, R90, R117) -/

/-- The PLOAM partition: at most 8 messages, hardware messages first, each with its integrity check (R116, R117). -/
def State.ploamPart (s : State) (t : Nat) : State × List Ploam :=
  let x := s.tree t
  let h := min 8 x.hwPloam.length
  let f := 8 - h
  (s.modTree t fun x => { x with hwPloam := x.hwPloam.drop h, fwPloam := x.fwPloam.drop f },
    (x.hwPloam.take h ++ x.fwPloam.take f).map fun m => { m with mic := Config.ploamMic t m })

/-- The four burst profiles are broadcast once per 8 tree frames (R116). -/
def State.broadcastProfiles (s : State) (t : Nat) : State :=
  if s.ge.k % 8 = 0 then (List.range 4).foldl (fun s p => s.pushMsg t (s.profileMsg t 0x3FF p)) s else s

/-- A slot as the burst expected from it (R91). -/
def burstOf (k : Nat) (x : Slot) : Burst := ⟨k, x.onu, x.kind, x.allocs, x.profile, x.fec, x.start, x.len, x.calibration, x.lane, x.req⟩

/-- The silences whose grants went out with a map are on the fibre. -/
def State.windowsOut (s : State) (m : GMap) : State :=
  let out (w : Window) : Bool := w.mapK == m.k && m.reserved.any fun x =>
    (x.kind == .serial && w.onu.isNone) || (x.kind == .ranging && w.onu == some x.onu)
  s.setWindows m.tree ((s.windowsOf m.tree).map fun w => if out w then { w with serialised := true } else w)

/-- Grants of silences that map k would have carried and did not: the silence stays, a terminal waits for a new ranging window, and a quiet
window that a reset of the tree island has cost is placed again after Rejoin (R142). -/
def State.windowsMissed (s : State) (t k : Nat) : State :=
  let due := (s.windowsOf t).filter fun w => decide (w.mapK ≤ k) && !w.serialised && !w.silent
  let s1 := s.setWindows t ((s.windowsOf t).map fun w =>
    if w.mapK ≤ k ∧ !w.serialised ∧ !w.silent then { w with onu := none, silent := true } else w)
  due.foldl (fun s w => match w.onu with
    | some o => s.placeAgain t o
    | none => if s.up (treeIsl t) then s else s.modTree t fun x => { x with quietDue := true }) s1

/-- Silences long past are forgotten; a ranging window stays until it is resolved. -/
def State.windowsPast (s : State) (t : Nat) : State :=
  s.setWindows t ((s.windowsOf t).filter fun w =>
    decide (s.ge.tickNs ≤ w.startNs + w.lenNs + 250000) || (w.onu.isSome && w.serialised))

/-- The Fallback Map is serialised in place of map k: the bursts expected from it, and its allocation structures (R190). -/
def State.fallbackOut (s : State) (t k : Nat) : State × List Burst × Nat :=
  let r := s.serialiseFallback t k
  let l := r.2.map (burstOf k)
  ((r.1.grantsOut t (r.2.flatMap (·.allocs))).modTree t fun x => { x with expected := x.expected ++ l }, l,
    (r.2.flatMap (·.allocs)).length)

/-- The map of a tick is serialised: the sealed map, or the Fallback Map where there is none (R155, R167, R190); its bursts, which the
sequencer is told to expect (R91), and its allocation structures. -/
def State.serialise (s : State) (t k : Nat) : State × List Burst × Nat :=
  match s.gmap t k with
  | some m =>
    if m.stage = MapStage.sealed then
      let l := m.slots.map (burstOf k)
      ((s.windowsOut m).modTree t fun x => { x with expected := x.expected ++ l }, l, m.reserved.length + m.grants.length)
    else s.fallbackOut t k
  | none => s.fallbackOut t k

/-- The sequencer supplies content in a tree frame (R90). -/
def State.fillFrame (s : State) (t : Nat) : State :=
  ((s.inc (TE_CS_FILL_CNT.count t)).set1 (TE_EVENT.cs_took_over t)).put (TE_STATUS.cs_filling t) 1

/-- The maps of a tree up to k that were not serialised are withdrawn, and the others forgotten (R167). -/
def State.mapsPast (s : State) (t k : Nat) (out : Bool) : State :=
  let s1 := if out then s else s.withdrawWhere fun m => m.tree == t && decide (m.k ≤ k) && decide (m.stage ≠ .replaced)
  let on (m : GMap) : Bool := !(m.tree == t && decide (m.k ≤ k))
  { s1 with ge := { s1.ge with maps := s1.ge.maps.filter on }, mir := { s1.mir with maps := s1.mir.maps.filter on } }

/-- The first tree frame after the Laser step has been sent: the tree is Lit (R101). -/
def State.syncEnd (s : State) (t : Nat) : State :=
  if s.treeState t = 5 then
    (((s.put (TE_STATUS.state t) 2).modTree t fun x => { x with step := .none }).litOrActive t).rebuildFallback t
  else s

/-- The sequencer's buffer has run dry: at most 16 µs of content are in it when the stream of an engine stops with the Fence of its
island (R89). -/
def State.dry (s : State) (t : Nat) : Bool :=
  (s.tree t).bufferDry || (!s.up (treeIsl t) && decide ((s.islSt (treeIsl t)).stoppedNs + 16000 < s.localNs))

/-- The engine has handed over the start of the tree frame of this tick (R89). -/
def State.handedOver (s : State) (t : Nat) : Bool := !(s.tree t).fillNext && (s.up (treeIsl t) || !s.dry t)

/-- The payload octets of a tree frame with some allocation structures and PLOAM messages. -/
def State.framePayload (s : State) (t structs msgs : Nat) : Nat := Config.treeFramePayload (if s.isXgs t then 1 else 0) structs msgs

/-- A fill frame of the sequencer (R89): no allocation structures, an empty PLOAM partition, idle payload. -/
def State.fillWhole (s : State) (t k : Nat) : State := (s.beginFrame t k true (s.framePayload t 0 0)).fillRest t

/-- Tree frame k with the engine's content (R81, R90). -/
def State.engineFrame (s : State) (t k : Nat) : State :=
  let s0 := (s.put (TE_STATUS.cs_filling t) 0).modTree t fun x => { x with bufferDry := false, fillCounted := false }
  let r := s0.serialise t k
  let p := (r.1.broadcastProfiles t).ploamPart t
  let s1 := (p.1.beginFrame t k false (p.1.framePayload t r.2.2 p.2.length)).modTree t fun x => { x with
    frame := { x.frame with map := r.2.1, ploam := p.2 } }
  ((s1.mapsPast t k true).windowsMissed t k).windowsPast t

/-- The start of tree frame k on one tree: the engine's content where its start was handed over in time, otherwise a fill frame of the
sequencer, which is counted except in Doze (R80, R89, R90). -/
def State.frameStart (k : Nat) (s : State) (t : Nat) : State :=
  let s := (s.sfcAdvance t).keySwitches t
  if !s.sends t then (s.mapsPast t k false).windowsMissed t k
  else
    let s := s.syncEnd t
    if s.treeState t = 4 then ((s.fillWhole t k).mapsPast t k false).windowsMissed t k
    else if s.handedOver t then s.engineFrame t k
    else
      let s1 := ((s.fillFrame t).fillWhole t k).modTree t fun x => { x with fillNext := false, bufferDry := true, fillCounted := true }
      (s1.mapsPast t k false).windowsMissed t k

/-- Offsets are used again two tree frames after the Acknowledgement of a correction (R128). -/
def holdStep (x : Term) : Term :=
  if x.holdFrames = 0 then x
  else if x.holdFrames = 1 then { x with holdFrames := 0, correcting := decide (0 < x.acks) }
  else { x with holdFrames := x.holdFrames - 1 }

/-- A tree that left Doze for discovery and got no answer returns to Doze: the cycle is over, and no terminal of it is being ranged
(R103). Contexts that are Held or in quarantine have not answered. -/
def State.dozeBack (s : State) (t : Nat) : State :=
  let answered (x : TermState) : Bool := !(x == .free || x == .held || x == .quarantine)
  if (s.tree t).dozeDisc ∧ s.treeState t = 2 ∧ (s.inState t answered).isEmpty ∧ ((s.windowsOf t).all fun w => w.silent) then
    (s.put (TE_STATUS.state t) 4).modTree t fun x => { x with dozeDisc := false }
  else s

/-- TXDIS of the protected trees asserts on a release: their accepted frames are reported with cause 0x2 and their maps are
withdrawn (R195, R167). -/
def State.protDark (s : State) : State :=
  ((List.range 32).filter s.isProt).foldl (fun s t =>
    let s1 := s.interrupt t
    (s1.undeliverables 2 (s1.treeFrames t)).withdrawWhere fun m => m.tree == t) (s.set1 MGT_PROT_EVENT.released)

/-- At a tick, trees released by the interlock go dark to the fibre (R195). -/
def State.protRelease (s : State) : State :=
  if !s.prot.releaseAtTick then s
  else
    State.protDark { s with prot := { s.prot with releaseAtTick := false, offDelay := true, laser := [], sync := [] } }

/-- A ToD refresh item for a tree, with the trunk now in use (R397, R513). -/
def State.todRefresh (s : State) (t : Nat) : State :=
  s.workItem 6 t 0 (octetsBE 1 t ++ octetsBE 1 (s.get (TE_TRUNK.active t)) ++ octetsBE 6 0)

/-- At the first tick after the Laser step of a switch-over, protected trees send again and trunk corrections are made (R133,
R198). -/
def State.protSync (s : State) : State :=
  let l := s.prot.sync
  let s1 := { s with prot := { s.prot with sync := [] } }
  (l.filter fun t => s1.isProt t && s1.isLit t).foldl (fun s t => (s.todRefresh t).trunkCorrect t) s1

/-- A slice swap past its Prepare step switches at a tick: the lane is bound to the spare, a tree is given its silence, and on
an uplink lane the swap ends (R407, R508). -/
def State.sliceSwitch (s : State) (w : SliceSwap) : State :=
  let s1 := s.bindSlice w
  if w.lane % 32 < 16 then
    let s2 : State := { s1 with rel := { s1.rel with
      swaps := s1.rel.swaps.map fun x => if x.lane = w.lane then { x with step := .upstream } else x } }
    s2.placeWindow (w.lane / 32 * 16 + w.lane % 32) 250000 0 none true
  else { s1 with rel := { s1.rel with swaps := s1.rel.swaps.filter fun x => x.lane != w.lane } }

/-- Every slice swap that waits for a tick switches (R508). -/
def State.sliceSwitches (s : State) : State :=
  (s.rel.swaps.filter fun w => decide (w.step = .switch)).foldl State.sliceSwitch s

/-- Frames held at a tree's window edge may wait and be counted again in the new tree frame (R86). -/
def State.edgesClear (s : State) : State :=
  { s with sch := { s.sch with edgeHeld := s.sch.edgeHeld.filter fun k => k % 2 == 0 } }

/-- A tree-frame tick (R80). -/
def State.frameTick (s : State) : State :=
  let k := s.ge.k + 1
  let s1 := { s with ge := { s.ge with k := k, tickNs := s.lastTickNs }, terms := s.terms.map fun (e : Nat × Term) => (e.1, holdStep e.2) }
  let s2 := (s1.protRelease.protSync).edgesClear
  let s3 := (List.range 32).foldl (State.frameStart k) s2
  let s4 := (List.range 32).foldl State.dozeBack s3.sliceSwitches
  (s4.bandSteps.evalStale.lateReqs 9).tickReqs

end Sys2Proof.Machine
end

