-- ==== Sys2Proof/Machine/Tree.lean ====
section
/-! DEFINITION. The commands of the Tree Engines, the Continuity Sequencers and the optics buses (R79 to R113). -/

namespace Sys2Proof.Machine

/-- TREE_FRAME_TICK (R80). -/
def execTreeFrameTick (s : State) : Host.Outcome State Fault Refusal := if s.tu.running then s.frameTick.done else s.done

/-- TE_CS_CTRL.sfc_load (R82): only while TXDIS of the tree is asserted. -/
def State.sfcLoad (s : State) (t : Nat) : State :=
  if s.txdis t then s.modTree t fun x => { x with sfcLoadPending := true } else s.set1 (TE_EVENT.sfc_load_refused t)

/-- SFC_LOAD_CMD (R82). The sequencer answers on the chiplet. -/
def execSfcLoadCmd (t : Tree) (s : State) : Host.Outcome State Fault Refusal := (s.sfcLoad t.val).done

/-- The sequencer's buffer has run dry: the part-sent frame is closed, and the frame is filled and counted once (R89, R90). -/
def State.bufferDry (s : State) (t : Nat) : State :=
  let s1 := (((s.passPayload t).interrupt t).fillRest t).modTree t fun x => { x with bufferDry := true }
  if (s.tree t).fillCounted then s1.put (TE_STATUS.cs_filling t) 1
  else (s1.fillFrame t).modTree t fun x => { x with fillCounted := true }

/-- CS_BUFFER_DRY (R89). -/
def execCsBufferDry (t : Tree) (s : State) : Host.Outcome State Fault Refusal :=
  if s.engineSends t.val then (s.bufferDry t.val).done else s.done

/-- CS_FILL_DEADLINE (R89): the sequencer sends a fill frame at the next tick. -/
def execCsFillDeadline (t : Tree) (s : State) : Host.Outcome State Fault Refusal :=
  if s.engineSends t.val then (s.modTree t.val fun x => { x with fillNext := true }).done else s.done

/-! ## Upstream bursts (R88, R91, R94 to R96) -/

/-- A candidate lies in the search window and differs in few enough bits (R94, R132). A half_bits outside 4 to 64 or a max_err above 8
acts with the value written, where the spec says nothing (DESIGN CHOICE, log 136). -/
def State.candOk (s : State) (t : Nat) (b : Burst) (c : Candidate) : Bool :=
  let half := if b.kind = .inService then s.nsBits t 1500 else s.get (TE_BURST_WIN.half_bits t)
  decide (c.diffs.toNat ≤ s.get (TE_BURST_WIN.max_err t)) && decide (c.offset.natAbs ≤ half)

/-- The candidates up to the first confirmed one: how many failed their HEC check, and the confirmed one (R95). -/
def confirm : List Candidate → Nat → Nat × Option Candidate
  | [], n => (n, none)
  | c :: r, n => if c.hecOk then (n, some c) else confirm r (n + 1)

/-- The first expected burst of a tree is done with: its grants leave outstanding (R152), and its preamble has had the PRX lane loaded with
its settings (R214). -/
def State.burstDone (s : State) (t : Nat) (b : Burst) : State :=
  (s.grantsGone t b.allocs).modTree t fun x => { x with expected := x.expected.tail, lane := b.lane }

/-- A burst whose terminal has left Operation, or of whose allocations some are disabled: the orphan structures (R167). -/
def State.orphans (s : State) (t : Nat) (b : Burst) : Nat :=
  if !s.operating t b.onu then max 1 b.allocs.length
  else (b.allocs.filter fun e => !aEn (s.alloc t e.1).w0).length

/-- The reassembly context of a terminal and port. -/
def State.reasmAt (s : State) (t onu port : Nat) : Option Reasm :=
  (s.tree t).reasm.find? fun x => x.onu == onu && x.port == port

/-- A reassembly context is dropped. -/
def State.reasmDrop (s : State) (t onu port : Nat) : State :=
  s.modTree t fun x => { x with reasm := x.reasm.filter fun y => !(y.onu == onu && y.port == port) }

/-- The last fragment of a frame has arrived: the frame goes on to the Prism, or is too long (R88, R236). -/
def State.reasmEnd (s : State) (t onu port : Nat) (octets : List Byte) (stamp : Option Stamp) : State :=
  let s1 := s.reasmDrop t onu port
  if s.get (TE_FRAME_CFG.max_len t) < octets.length then s1.inc (TE_OVERSIZE_CNT.count t)
  else s1.arrive octets (.tree t onu port) stamp (t % 4)

/-- One XGEM frame of a burst at a position in the tree frame: it is decrypted with the slot its header names (R88, R105, R107). With a
fragment that is discarded for its key, the frame it belongs to goes too, which counts nothing in TE_REASM_TO_CNT (DESIGN CHOICE, log
137). -/
def State.xgemIn (s : State) (t onu pos : Nat) (stamp : Option Stamp) (f : XgemFrame) : State :=
  let port := f.port.toNat
  let key := mgetD (ukey onu f.keyIdx.toNat) {} (s.tree t).ukeys
  let plain := if f.keyIdx = 0 then f.payload else ctrCrypt key.key (s.get (TE_SFC.sfc t)) pos f.payload
  if f.keyIdx = 3 ∨ (f.keyIdx ≠ 0 ∧ !s.keyLive t key) then (s.reasmDrop t onu port).inc (TE_KEY_INVALID_CNT.count t)
  else match s.reasmAt t onu port with
    | some x =>
      if f.last then s.reasmEnd t onu port (x.octets ++ plain) stamp
      else (s.reasmDrop t onu port).modTree t fun y => { y with reasm := y.reasm ++ [⟨onu, port, x.octets ++ plain⟩] }
    | none =>
      if f.last then s.reasmEnd t onu port plain stamp
      else if 1024 ≤ (s.tree t).reasm.length then s.inc (TE_REASM_TO_CNT.count t)
      else s.modTree t fun y => { y with reasm := y.reasm ++ [⟨onu, port, plain⟩] }

/-- The XGEM frames of a burst from a position, those of the structures that are accepted; a header whose HEC cannot be corrected ends delineation (R88). -/
def State.xgems (t onu : Nat) (stamp : Option Stamp) (takes : XgemFrame → Bool) : List XgemFrame → Nat → State → State
  | [], _, s => s
  | f :: r, pos, s =>
    if f.hecOk then
      State.xgems t onu stamp takes r (pos + xgemOctets f.payload.length) (if takes f then s.xgemIn t onu pos stamp f else s)
    else s.inc (TE_XGEM_HEC_CNT.count t)

/-- The buffer report and the idle octets of a received structure (R152, R153, R167). -/
def State.structIn (s : State) (t : Nat) (b : Burst) (c : Candidate) (e : Nat × Nat) : State :=
  let idle := (c.idle.find? fun x => x.1 == e.1).map (·.2)
  let i := min e.2 (idle.getD 0)
  let rep := (c.reports.find? fun x => x.1 == e.1).map (·.2)
  let s1 := s.modAlloc t e.1 fun a => { a with
    lastRx := some (e.2, i), idle := a.idle + i
    report := match rep with | some r => min r 0xFFFFF | none => a.report
    reportMap := if rep.isSome then b.mapK else a.reportMap }
  if i = e.2 then s1.inc (GE_EMPTY_CNT.count t) else s1

/-- A confirmed burst of the granted terminal (R96, R128, R134, R167, R215). The frames of an orphan structure are not accepted. Where the
burst makes the device send a Ranging_Time, its measurement is discarded (R231). -/
def State.burstIn (s : State) (t : Nat) (b : Burst) (c : Candidate) : State :=
  let n := s.orphans t b
  if n ≠ 0 ∧ !s.operating t b.onu then s.incBy (GE_ORPHAN_CNT.count t) n
  else
    let s0 := s.incBy (GE_ORPHAN_CNT.count t) n
    let on := b.allocs.filter fun e => aEn (s0.alloc t e.1).w0
    let s1 := on.foldl (fun s e => s.structIn t b c e) (s0.modTerm t b.onu fun x => { x with misses := 0 })
    let stamp := s1.rxStamp t
    let s2 := if stamp.isSome then s1.drawn else s1
    let s3 := State.xgems t b.onu stamp (fun f => match f.alloc with
      | none => true
      | some a => on.any fun e => e.1 == a.toNat) c.frames b.start s2
    let s4 := if b.kind = .inService then s3.inServiceOk t b.onu c.offset else s3.noteOffset t b.onu c.offset
    let s5 := s4.learnBurst t b.onu b.profile b.calibration c.meas
    if c.dyingGasp ∧ s5.operating t b.onu then s5.dereg t b.onu 6 else s5

/-- A burst that the sequencer covers for is lost (R91): it counts neither as accepted nor as missed. -/
def State.burstLost (s : State) (t : Nat) (b : Burst) : State := (s.burstDone t b).inc (TE_CS_LOST_ALLOC_CNT.count t)

/-- The burst falls after the engine's buffer ran dry and before the engine returns (R91). -/
def State.covered (s : State) (t : Nat) : Bool := s.dry t

/-- The engine of a tree is held in reset, or not yet back, with its buffer not yet dry. Its bursts cannot be received and are no missed
ones; R91 does not count them (DEDUCED, log 138). -/
def State.deaf (s : State) (t : Nat) : Bool :=
  !s.up (treeIsl t) && !decide ((s.islSt (treeIsl t)).step = .fence)

/-- A calibration burst that did not come from its terminal returns its request (R224). -/
def State.calMissed (s : State) (b : Burst) : State := match b.req with | some r => s.returnReq r | none => s

/-- The search window of the first expected burst opens (R94 to R96). -/
def State.burstDue (s : State) (t : Nat) (b : Burst) (cands : List Candidate) : State :=
  if s.covered t then s.burstLost t b
  else if s.deaf t then s.burstDone t b
  else
    let r := confirm (cands.filter (s.candOk t b)) 0
    let s1 := s.incBy (TE_DELIM_FALSE_CNT.count t) r.1
    match r.2 with
    | none => s1
    | some c =>
      let s2 := s1.burstDone t b
      if c.onu.toNat ≠ b.onu then (s2.inc (TE_WRONG_ID_CNT.count t)).calMissed b else s2.burstIn t b c

/-- A tree receives bursts: Lit, Active, or going Dark (R100, R102). -/
def State.receives (s : State) (t : Nat) : Bool := let x := s.treeState t; x == 2 || x == 3 || x == 6

/-- UPSTREAM_BURST_DUE (R94). -/
def execUpstreamBurstDue (t : Tree) (cands : List Candidate) (s : State) : Host.Outcome State Fault Refusal :=
  match (s.tree t.val).expected with
  | [] => s.done
  | b :: _ => if s.receives t.val then (s.burstDue t.val b cands).done else s.done

/-- The search window closed with no confirmed candidate (R95, R129, R132, R140, R224). -/
def State.burstMissed (s : State) (t : Nat) (b : Burst) : State :=
  if s.covered t then s.burstLost t b
  else if s.deaf t then s.burstDone t b
  else
    let s1 := ((s.burstDone t b).inc (TE_DELIM_MISS_CNT.count t)).noteMiss t b.onu
    let s2 := if b.kind = .inService ∧ s1.operating t b.onu then s1.inServiceMiss t b.onu else s1
    s2.calMissed b

/-- BURST_WINDOW_CLOSE (R95). -/
def execBurstWindowClose (t : Tree) (s : State) : Host.Outcome State Fault Refusal :=
  match (s.tree t.val).expected with
  | [] => s.done
  | b :: _ => if s.receives t.val then (s.burstMissed t.val b).done else s.done

/-- REASSEMBLY_TIMEOUT (R88). -/
def execReassemblyTimeout (t : Tree) (onu : BitVec 8) (port : BitVec 16) (s : State) : Host.Outcome State Fault Refusal :=
  match s.reasmAt t.val onu.toNat port.toNat with
  | some _ => ((s.reasmDrop t.val onu.toNat port.toNat).inc (TE_REASM_TO_CNT.count t.val)).done
  | none => s.done

/-- A write of TE_BRST_CFG (R98): in reset mode the width is cut so that delay and width fit in 20 cycles. -/
def State.brstWrite (s : State) (t d : Nat) : State :=
  let dl := (TE_BRST_CFG.delay t).of d
  let w := (TE_BRST_CFG.width t).of d
  let m := (TE_BRST_CFG.mode t).of d
  let s1 := ((s.put (TE_BRST_CFG.mode t) m).put (TE_BRST_CFG.pol t) ((TE_BRST_CFG.pol t).of d)).put (TE_BRST_CFG.delay t) dl
  if m = 0 ∧ 20 < dl + w then (s1.put (TE_BRST_CFG.width t) (20 - dl)).set1 (TE_EVENT.brst_clamped t)
  else s1.put (TE_BRST_CFG.width t) w

/-- BRST_CFG_WRITE (R98). -/
def execBrstCfgWrite (t : Tree) (d : BitVec 32) (s : State) : Host.Outcome State Fault Refusal :=
  if s.answers [treeIsl t.val] then ((s.onTree t.val).brstWrite t.val d.toNat).done else s.done

/-! ## Lit, Dark and Doze (R100 to R104) -/

/-- A write of Lit (R101): on a Dark tree the Power step begins. -/
def State.lightRequest (s : State) (t : Nat) : State :=
  if s.laneLost t then s
  else
    let s1 := s.put (TE_CTRL.state_req t) 1
    if s1.treeState t = 1 then
      (((s1.benchEnd (32 + t)).put (TE_STATUS.state t) 5).modTree t fun x => { x with step := .power, powerRetried := false }).askPower t
    else s1

/-- A partial load that names a tree holds its requests to leave Dark, from Check to Release (R73). -/
def State.loadHolds (s : State) (t : Nat) : Bool :=
  decide (s.sil.step = .check ∨ s.sil.step = .apply) && s.on SIL_STATUS.partial && bit1 s.imgTreeMask t

/-- A write of Lit to a tree: carried out, or held by a partial load (R73). -/
def State.lightWrite (s : State) (t : Nat) : State :=
  if s.loadHolds t && s.treeState t == 1 && !s.laneLost t then
    let s1 := (s.put (TE_CTRL.state_req t) 1).set1 SIL_EVENT.tree_hold
    { s1 with sil := { s1.sil with treeHeld := s1.sil.treeHeld ||| BitVec.ofNat 32 (1 <<< t) } }
  else s.lightRequest t

/-- TREE_LIGHT_REQUEST (R73, R101). -/
def execTreeLightRequest (t : Tree) (s : State) : Host.Outcome State Fault Refusal :=
  if s.answers [treeIsl t.val] then ((s.onTree t.val).lightWrite t.val).done else s.done

/-- A request to leave Dark that is held is withdrawn by one for Dark. -/
def State.unhold (s : State) (t : Nat) : State :=
  { s with sil := { s.sil with treeHeld := s.sil.treeHeld &&& ~~~(BitVec.ofNat 32 (1 <<< t)) } }

/-- A write of Dark to a tree (R93, R102). -/
def State.darkWrite (s : State) (t : Nat) : State :=
  if s.laneLost t then s
  else if s.answers [treeIsl t] then (((s.onTree t).put (TE_CTRL.state_req t) 0).unhold t).darkRequest t
  else s.darkRequest t

/-- A tree going Lit is in a step. -/
def State.lightStep (s : State) (t : Nat) (p : TreeStep) : Bool := s.treeState t == 5 && decide ((s.tree t).step = p)

/-- TREE_POWER_GRANT (R101, R478): the load is granted, and the Laser step begins. -/
def execTreePowerGrant (t : Tree) (s : State) : Host.Outcome State Fault Refusal :=
  if s.lightStep t.val .power && s.pwr.granted.contains t.val then
    State.done ({ s with pwr := { s.pwr with granted := s.pwr.granted.erase t.val } }.modTree t.val fun x => { x with step := .laser })
  else s.done

/-- A Dark-to-Lit sequence fails (R101). -/
def State.lightFail (s : State) (t : Nat) : State :=
  (((s.put (TE_STATUS.state t) 1).modTree t fun x => { x with step := .none, powerRetried := false }).dropPower t).set1
    (TE_EVENT.light_fail t)

/-- TREE_POWER_TIMEOUT (R101). -/
def execTreePowerTimeout (t : Tree) (s : State) : Host.Outcome State Fault Refusal :=
  if s.lightStep t.val .power then
    if (s.tree t.val).powerRetried then (s.lightFail t.val).judgeTrees.done
    else ((s.modTree t.val fun x => { x with powerRetried := true }).askPower t.val).done
  else s.done

/-- The Laser step ends: Sync waits for a tick, or is skipped where the interlock keeps the tree dark (R101, R196). -/
def State.laserEnd (s : State) (t : Nat) : State :=
  if s.protBlocked t then
    (((s.put (TE_STATUS.state t) 2).modTree t fun x => { x with step := .none }).litOrActive t).rebuildFallback t
  else s.modTree t fun x => { x with step := .sync }

/-- TREE_LASER_END (R101). -/
def execTreeLaserEnd (t : Tree) (s : State) : Host.Outcome State Fault Refusal :=
  if s.lightStep t.val .laser then (s.laserEnd t.val).done else s.done

/-- TREE_DARK_REQUEST (R93, R102). -/
def execTreeDarkRequest (t : Tree) (s : State) : Host.Outcome State Fault Refusal :=
  (s.darkWrite t.val).done

/-- A tree going Dark is in a step. -/
def State.darkStep (s : State) (t : Nat) (p : TreeStep) : Bool := s.treeState t == 6 && decide ((s.tree t).step = p)

/-- TREE_STOP_END (R102): open maps lose their allocations, Drain begins, and queued frames are reported with cause 0x2. -/
def execTreeStopEnd (t : Tree) (s : State) : Host.Outcome State Fault Refusal :=
  if s.darkStep t.val .stop then
    let s1 := (s.modTree t.val fun x => { x with step := .drain }).rebuildOpen t.val
    (s1.undeliverables 2 (s1.treeFrames t.val)).done
  else s.done

/-- TREE_DRAIN_END (R102): the Dark step, which the model takes with it. -/
def execTreeDrainEnd (t : Tree) (s : State) : Host.Outcome State Fault Refusal :=
  if s.darkStep t.val .drain then (s.goDark t.val).done else s.done

/-- A Lit tree enters Doze (R100, R103). -/
def State.enterDoze (s : State) (t : Nat) : State :=
  let s1 := ((s.interrupt t).dropExpected t).withdrawWhere fun m => m.tree == t
  s1.put (TE_STATUS.state t) 4

/-- DOZE_IDLE_EXPIRY (R100, R103). A Dark request in the same cycle has gone first (R104). -/
def execDozeIdleExpiry (t : Tree) (s : State) : Host.Outcome State Fault Refusal :=
  if s.treeState t.val == 2 && (s.treeEntry t.val).dozeEn && s.activeCount t.val == 0 then (s.enterDoze t.val).done else s.done

/-- A tree leaves Doze and its retention banks are checked (R103, R482, R483). -/
def State.wakeTree (s : State) (t : Nat) (bad : List Nat) : State := (s.leaveDoze t).dozeChecks bad

/-- TREE_WAKE (R103): a write of TE_CTRL.wake, with the banks that fail their check. -/
def execTreeWake (t : Tree) (badBanks : List (Fin 156)) (s : State) : Host.Outcome State Fault Refusal :=
  if s.answers [treeIsl t.val] then ((s.onTree t.val).wakeTree t.val (badBanks.map (·.val))).done else s.done

/-- DOZE_DISC_EXPIRY (R103, R118): the tree leaves Doze, its banks are checked, and it runs one acquisition cycle. -/
def execDozeDiscExpiry (x : DozeExit) (s : State) : Host.Outcome State Fault Refusal :=
  let t := x.tree.val
  if s.treeState t == 4 && s.on (TE_DOZE_CFG.disc_period t) then
    let s1 := (s.wakeTree t (x.badBanks.map (·.val))).modTree t fun y => { y with dozeDisc := true }
    if s1.on (TE_RNG_STATUS.no_discovery t) || !s1.isLit t then s1.done else (s1.placeQuiet t).done
  else s.done

/-- JOURNAL_COMMIT_ACK (R307): the commit record of a frame that holds its slot. A tree that its acceptance takes out of Doze has its
retention banks checked, and those named fail (R103). -/
def execJournalCommitAck (x : CommitAck) (s : State) : Host.Outcome State Fault Refusal :=
  match s.frame x.id with
  | none => s.done
  | some f => match f.slot with
    | none => s.done
    | some j =>
      if decide (f.stage = .commit) && !s.closing then ((s.commitFrame f j).dozeChecks (x.badBanks.map (·.val))).done else s.done

/-! ## Key switches (R107) -/

/-- A key switch is refused (R107). -/
def State.switchRefused (s : State) (t onu idx ahead : Nat) (bcast : Bool) : Bool :=
  let x := s.tree t
  let k : KeySlot := if bcast then mgetD idx {} x.bkeys else mgetD (ukey onu idx) {} x.ukeys
  !k.valid || idx == (if bcast then x.bInUse else s.uUsed t onu) ||
    (x.switches.any fun w => w.bcast == bcast && (bcast || w.onu == onu)) || decide (ahead < 8) || decide (4095 < ahead)

/-- TE_KEY_SWITCH.go (R107). -/
def State.keySwitch (s : State) (t onu idx ahead : Nat) (bcast : Bool) : State :=
  if s.switchRefused t onu idx ahead bcast then s.set1 (TE_EVENT.key_refused t)
  else
    let v := (s.get (TE_SFC.sfc t) + ahead) % 2 ^ 51
    ((s.modTree t fun x => { x with switches := x.switches ++ [⟨bcast, onu, idx, v⟩] }).put (TE_KEY_SWITCH.pending t) 1).put
      (TE_KEY_SW_SFC.sfc t) v

/-- A write of TE_KEY_SWITCH (R107). -/
def State.keySwitchWrite (s : State) (t d : Nat) : State :=
  let a := (TE_KEY_SWITCH.ahead t).of d
  let o := (TE_KEY_SWITCH.terminal t).of d
  let i := (TE_KEY_SWITCH.index t).of d
  let b := (TE_KEY_SWITCH.bcast t).of d
  let s1 := (((s.put (TE_KEY_SWITCH.ahead t) a).put (TE_KEY_SWITCH.terminal t) o).put (TE_KEY_SWITCH.index t) i).put
    (TE_KEY_SWITCH.bcast t) b
  if (TE_KEY_SWITCH.go t).of d = 1 then s1.keySwitch t o i a (b == 1) else s1

/-- KEY_SWITCH_CMD (R107). -/
def execKeySwitchCmd (t : Tree) (d : BitVec 32) (s : State) : Host.Outcome State Fault Refusal :=
  if s.answers [treeIsl t.val] then ((s.onTree t.val).keySwitchWrite t.val d.toNat).done else s.done

/-! ## Optics buses (R110 to R112) -/

/-- What an optics bus keeps. -/
def State.optBus (s : State) (b : Nat) : OptBus := mgetD b {} s.opt

/-- What the master drives in a transaction in full, up to its STOP (R111). -/
def OptBus.steps (x : OptBus) : List OptWire :=
  (if x.wr = [] then [] else .start :: .octet (BitVec.ofNat 8 (2 * x.addr)) :: x.wr.map .octet) ++
    (if x.rd = 0 then [] else
      .start :: .octet (BitVec.ofNat 8 (2 * x.addr + 1)) :: (List.range x.rd).map fun i => .ack (i + 1 == x.rd))

/-- What the master drives up to the octet that the module refuses: position 0 is the address, with W or with R, and position j write
octet j - 1 (R111). -/
def OptBus.upTo (x : OptBus) (j : Nat) (readAddr : Bool) : List OptWire :=
  let n := if x.wr = [] then 2 else if readAddr then x.wr.length + 4 else j + 2
  x.steps.take n

/-- What the master has driven on bus b. -/
def State.optDrive (s : State) (b : Nat) (l : List OptWire) : State :=
  { s with opt := mset b { s.optBus b with wire := l } s.opt }

/-- A transaction ends with a result other than OK (R111). -/
def State.optFail (s : State) (b result : Nat) : State :=
  ((s.put (MGT_OPT_STATUS.busy b) 0).put (MGT_OPT_STATUS.result b) result).inc (MGT_OPT_STATUS.errors b)

/-- The first n octets of the transfer buffer. -/
def State.optData (s : State) (b n : Nat) : List Byte :=
  ((List.range 4).flatMap fun k => octetsBE 4 (s.get (MGT_OPT_DATA.data b k))).take n

/-- A write of MGT_OPT_CMD_b (R111). A transaction runs with the address, the lengths and the octets to write as they stood when go was
written, whatever is written while it runs (DESIGN CHOICE, log 139). -/
def State.optWrite (s : State) (b d : Nat) : State :=
  let w := (MGT_OPT_CMD.wr_len b).of d
  let r := (MGT_OPT_CMD.rd_len b).of d
  let a := (MGT_OPT_CMD.addr b).of d
  let s1 := ((s.put (MGT_OPT_CMD.wr_len b) w).put (MGT_OPT_CMD.rd_len b) r).put (MGT_OPT_CMD.addr b) a
  if s.on (MGT_OPT_STATUS.busy b) ∨ (MGT_OPT_CMD.go b).of d = 0 then s1
  else if 16 < w ∨ 16 < r ∨ (w = 0 ∧ r = 0) ∨ !s.on (MGT_OPT_CFG.en b) then s1.optFail b 4
  else State.put { s1 with opt := mset b ⟨a, s1.optData b w, r, []⟩ s1.opt } (MGT_OPT_STATUS.busy b) 1

/-- OPT_TRANSACTION (R111). -/
def execOptTransaction (b : Fin 8) (d : BitVec 32) (s : State) : Host.Outcome State Fault Refusal := (s.optWrite b.val d.toNat).done

/-- Octets read by the master stand in the transfer buffer, from octet 0 (R111). -/
def State.optRead (s : State) (b : Nat) (l : List Byte) : State :=
  (List.range 4).foldl (fun s k =>
    let old := octetsBE 4 (s.get (MGT_OPT_DATA.data b k))
    let new := (l.drop (4 * k)).take 4
    s.put (MGT_OPT_DATA.data b k) (ofOctets (new ++ old.drop new.length))) s

/-- A transaction ends with OK and the octets read (R111). -/
def State.optOk (s : State) (b : Nat) (read : List Byte) : State :=
  let x := s.optBus b
  (((s.optDrive b (x.steps ++ [.stop])).put (MGT_OPT_STATUS.busy b) 0).put (MGT_OPT_STATUS.result b) 1).optRead b (read.take x.rd)

/-- A transaction ends with NACK at a position (R111). -/
def State.optNack (s : State) (b j : Nat) (readAddr : Bool) : State :=
  ((s.optDrive b ((s.optBus b).upTo j readAddr ++ [.stop])).optFail b 2).put (MGT_OPT_STATUS.nack_at b) j

/-- OPT_TRANSACTION_END (R111): OK with the octets read, or NACK at a position, which of the two addresses position 0 means being named
beside it. -/
def execOptTransactionEnd (b : Fin 8) (nackAt : Option (BitVec 5)) (read : OptEnd) (s : State) : Host.Outcome State Fault Refusal :=
  if s.on (MGT_OPT_STATUS.busy b.val) then
    match nackAt with
    | none => (s.optOk b.val read.octets).done
    | some j => (s.optNack b.val j.toNat read.readAddr).done
  else s.done

/-- A transaction ends with TIMEOUT: the master frees the bus with nine clock pulses and a STOP (R111). Octets read before it are not
written to the transfer buffer (DESIGN CHOICE, log 139). -/
def State.optStretch (s : State) (b n : Nat) : State :=
  (s.optDrive b ((s.optBus b).steps.take n ++ [.clocks 9, .stop])).optFail b 3

/-- OPT_STRETCH_TIMEOUT (R111), after the master has driven some steps of the transaction. -/
def execOptStretchTimeout (x : OptStretch) (s : State) : Host.Outcome State Fault Refusal :=
  if s.on (MGT_OPT_STATUS.busy x.bus.val) then (s.optStretch x.bus.val x.steps).done else s.done

end Sys2Proof.Machine
end

