-- ==== Sys2Proof/Machine/Prot.lean ====
section
/-! DEFINITION. The commands of the Type B interlock (R192 to R201). -/

namespace Sys2Proof.Machine

/-- The states of MGT_PROT_STATUS: 0 idle, 1 taking, 2 holding, 3 releasing. -/
def State.protIs (s : State) (x : Nat) : Bool := s.get MGT_PROT_STATUS.state == x

/-- The step of a take is set. -/
def State.protStep (s : State) (p : ProtStep) : State := { s with prot := { s.prot with step := p } }

/-- A take begins with Check (R193): PROT_HOLD_IN is sampled, and PROT_HOLD_OUT asserted where it is low. -/
def State.protTake (s : State) : State :=
  if !s.on MGT_PROT_CFG.en || !s.protIs 0 then s
  else if s.on MGT_PROT_STATUS.hold_in then s.set1 MGT_PROT_EVENT.take_refused
  else ((s.put MGT_PROT_STATUS.state 1).put MGT_PROT_STATUS.hold_out 1).protStep .assert

/-- PROT_TAKE_CMD (R193, R200): a write of 1 to MGT_PROT_CTRL.take. -/
def execProtTakeCmd (s : State) : Host.Outcome State Fault Refusal := s.protTake.done

/-- PROT_AUTO_TAKE (R193): PROT_HOLD_IN has been deasserted for 10 µs on a Structured device with auto_take. -/
def execProtAutoTake (s : State) : Host.Outcome State Fault Refusal :=
  if s.on MGT_PROT_CFG.auto_take ∧ s.structured ∧ !s.on MGT_PROT_STATUS.hold_in then s.protTake.done else s.done

/-- PROT_ASSERT_END (R193): PROT_HOLD_OUT has been asserted for 2 µs. -/
def execProtAssertEnd (s : State) : Host.Outcome State Fault Refusal :=
  if s.protIs 1 ∧ s.prot.step = .assert then (s.protStep .confirm).done else s.done

/-- The trees that the interlock gates. -/
def State.protTrees (s : State) : List Nat := (List.range 32).filter s.isProt

/-- The maps of one tree for the ticks ahead that have none are built and sealed at once (R198). -/
def State.switchBuildTree (s : State) (t : Nat) : State :=
  ((List.range s.runAhead).map fun i => s.ge.k + 1 + i).foldl (fun s k =>
    if (s.gmap t k).isSome || !s.mapTree t then s
    else
      let s1 := (State.gapMap k (State.buildBoth k s t) t).onMap (fun s m => s.setMap { m with stage := .built }) t k
      let s2 := if s1.mirrors t then (s1.comparePair t k).checkBegins false else s1
      s2.sealTree k [] t) s.takeDue

/-- SWITCHOVER_BUILD (R198, R167): maps for the first N ticks are built for the protected trees. -/
def State.switchBuild (s : State) : State :=
  if s.up 10 then s.protTrees.foldl State.switchBuildTree s else s

/-- The device holds (R193, R198): profiles of the protected trees are stale, contexts on their way into Operation are released
(R139), and the Build and Laser steps run. -/
def State.protHold (s : State) : State :=
  let s1 := (((s.put MGT_PROT_STATUS.state 2).set1 MGT_PROT_EVENT.taken).inc MGT_PROT_SWITCH_CNT.count).protStep .none
  let s2 := s1.protTrees.foldl (fun s t => s.staleTree t 5) s1
  let s3 := s2.protTrees.foldl (fun s t => (s.inState t TermState.early).foldl (fun s o => s.toFree t o) s) s2
  State.switchBuild { s3 with prot := { s3.prot with laser := s3.protTrees, sync := [] } }

/-- A take withdraws (R193). -/
def State.protWithdraw (s : State) (ev : Fld) : State :=
  (((s.put MGT_PROT_STATUS.hold_out 0).put MGT_PROT_STATUS.state 0).set1 ev).protStep .none

/-- PROT_CONFIRM_END (R193): PROT_HOLD_IN is sampled; where it is high the PROT_PRIO 0 device withdraws with take_contest and the
PROT_PRIO 1 device with conflict. -/
def execProtConfirmEnd (s : State) : Host.Outcome State Fault Refusal :=
  if !s.protIs 1 || decide (s.prot.step ≠ .confirm) then s.done
  else if !s.on MGT_PROT_STATUS.hold_in then s.protHold.done
  else if s.on MGT_PROT_STATUS.prio then (s.protWithdraw MGT_PROT_EVENT.conflict).done
  else (s.protWithdraw MGT_PROT_EVENT.take_contest).done

/-- The Laser step of a tree ends: the maps of its first ticks are built, and the next tick is its Sync step (R198). -/
def State.switchLaserEnd (s : State) (t : Nat) : State :=
  let s1 := { s with prot := { s.prot with laser := s.prot.laser.erase t, sync := s.prot.sync ++ [t] } }
  if s1.up 10 then s1.switchBuildTree t else s1

/-- The trees in their Laser step with the least on_delay_us. TXDIS of them all was released at once, so theirs ends next (R198). -/
def State.laserNext (s : State) : List Nat :=
  s.prot.laser.filter fun t => s.prot.laser.all fun u => decide (s.get (TE_TX_CFG.on_delay_us t) ≤ s.get (TE_TX_CFG.on_delay_us u))

/-- SWITCHOVER_LASER_END (R198): TXDIS has been released for the least on_delay_us of the trees that are still in their Laser step, which
ends for the trees that have it. -/
def execSwitchoverLaserEnd (s : State) : Host.Outcome State Fault Refusal := (s.laserNext.foldl State.switchLaserEnd s).done

/-- The interlock is released at once (R194, R195): TXDIS asserts, then PROT_HOLD_OUT falls. -/
def State.protOff (s : State) : State :=
  if !s.on MGT_PROT_STATUS.hold_out then s
  else
    let held := s.holdsLock
    let s1 : State := { (s.put MGT_PROT_STATUS.state 0).put MGT_PROT_STATUS.hold_out 0 with prot := {} }
    if held then s1.protDark else s1

/-- PROT_CONFLICT (R194): a device that holds has seen PROT_HOLD_IN asserted for 5 µs. -/
def execProtConflict (s : State) : Host.Outcome State Fault Refusal :=
  if s.protIs 2 ∧ s.on MGT_PROT_STATUS.hold_in then (s.protOff.set1 MGT_PROT_EVENT.conflict).done else s.done

/-- A holding device begins a release (R195): TXDIS asserts at the next tree-frame tick. -/
def State.protRelease1 (s : State) : State :=
  if s.protIs 2 then { s.put MGT_PROT_STATUS.state 3 with prot := { s.prot with releaseAtTick := true } } else s

/-- PROT_RELEASE_CMD (R195, R199): a write of 1 to MGT_PROT_CTRL.release. -/
def execProtReleaseCmd (s : State) : Host.Outcome State Fault Refusal := s.protRelease1.done

/-- PROT_UPLINK_RELEASE (R195): both uplink sides have been down for rel_uplink_ms. -/
def execProtUplinkRelease (s : State) : Host.Outcome State Fault Refusal :=
  if s.get MGT_PROT_CFG.rel_uplink_ms ≠ 0 ∧ [0, 1, 2, 3].all s.portDown then s.protRelease1.done else s.done

/-- PROT_OFF_DELAY_END (R195): off_delay_us after TXDIS asserted, PROT_HOLD_OUT is released. -/
def execProtOffDelayEnd (s : State) : Host.Outcome State Fault Refusal :=
  if s.prot.offDelay then
    State.done { (s.put MGT_PROT_STATUS.hold_out 0).put MGT_PROT_STATUS.state 0 with prot := {} }
  else s.done

/-- PROT_HOLD_IN_CHANGE (R192): the filtered level of PROT_HOLD_IN; its fall shows a lost peer and is a wake event (R485). -/
def execProtHoldInChange (level : Bool) (s : State) : Host.Outcome State Fault Refusal :=
  let was := s.on MGT_PROT_STATUS.hold_in
  let s1 := s.put MGT_PROT_STATUS.hold_in (if level then 1 else 0)
  if was ∧ !level then
    ((if !s.holdsLock then s1.set1 MGT_PROT_EVENT.peer_lost else s1).wakeEvent 1).done
  else s1.done

/-- A write of MGT_PROT_CFG (R201). -/
def State.protCfg (s : State) (x : Nat) : State :=
  let s1 := (s.put MGT_PROT_CFG.auto_take (MGT_PROT_CFG.auto_take.of x)).put MGT_PROT_CFG.rel_uplink_ms
    (MGT_PROT_CFG.rel_uplink_ms.of x)
  let s2 := s1.put MGT_PROT_CFG.off_delay_us (MGT_PROT_CFG.off_delay_us.of x)
  if s.protIs 0 then s2.put MGT_PROT_CFG.en (MGT_PROT_CFG.en.of x) else s2

/-- PROT_CFG_WRITE (R201): a change of en while the interlock is not idle is ignored. -/
def execProtCfgWrite (d : BitVec 32) (s : State) : Host.Outcome State Fault Refusal := (s.protCfg d.toNat).done

end Sys2Proof.Machine
end

