-- ==== Sys2Proof/Machine/LinkOps.lean ====
section
/-! DEFINITION. The Linman link below its requests (R426 to R435, R443 to R445), its spare lane and width (R428, R429), the Beacon
and the Wake Port (R446 to R450). -/

namespace Sys2Proof.Machine

/-- The link layer runs: island LINK is in Run (R420). -/
def State.linkRuns (s : State) : Bool := s.up 23

/-! ## Bring-up and link-down (R426, R427) -/

/-- The lanes of a width code (R423); 0 for the code that is not used. -/
def widthLanes (c : Nat) : Nat := match c with | 0 => 4 | 1 => 2 | 2 => 1 | _ => 0

/-- The five physical lanes. -/
def linkLanes : List Nat := List.range 5

/-- The receive status of every lane as it stands with no lane in marker lock. -/
def State.lanesUnlocked (s : State) : State :=
  linkLanes.foldl (fun s i =>
    (((s.put (LM_LANE_STATUS.lock i) 0).put (LM_LANE_STATUS.rx_use i) 0).rst (LM_LANE_STATUS.rx_logical i)).rst
      (LM_LANE_STATUS.skew_ns i)) s

/-- The lanes that carry the link in transmit, as LM_LANE_STATUS shows them (R428). -/
def State.txUse (s : State) : State :=
  linkLanes.foldl (fun s i => s.put (LM_LANE_STATUS.tx_use i)
    (if ((List.range 4).any fun k => s.get (LM_TX_MAP.lane k) == i) ||
        (decide (s.link.swap = .switch) && s.get LM_TX_MAP.spare == i) then 1 else 0)) s

/-- The link goes down (R427): the event is counted, what is not acknowledged is discarded, and R426 runs again. A message counts
as acknowledged from its acceptance (DEDUCED, log 42), so requests that wait run to completion. -/
def State.linkDown (s : State) : State :=
  let s1 := (((s.inc LM_DOWN_CNT.count).set1 LM_EVENT.link_down).put LM_STATUS.state 0).lanesUnlocked
  { s1 with link := { s1.link with
      unacked := [], txq := [], txAvail := [], credOut := [], inits := [], sendInit := false, naked := false, replays := 0
      line := { s1.link.line with queue := [], blocks := [], sofLast := none, sofGood := 0, msg := none, join := none } } }

/-- LINK resets or enters Off: a link that had begun to align goes down (R427). -/
def State.linkDrop (s : State) : State := if 2 ≤ s.get LM_STATUS.state then s.linkDown else s

/-- LINK_SIGNAL_DETECT (R426): signal stands on a set of lanes, whose markers carry a width code; Signal ends when it stands on at
least w of them. -/
def execLinkSignalDetect (lanes : BitVec 5) (width : BitVec 2) (s : State) : Host.Outcome State Fault Refusal :=
  if !s.linkRuns then s.done
  else
    let s1 := linkLanes.foldl (fun s i => s.put (LM_LANE_STATUS.signal i) (if bit1 lanes.toNat i then 1 else 0)) s
    let w := widthLanes width.toNat
    if s.get LM_STATUS.state = 0 ∧ w ≠ 0 ∧ w ≤ (bitList 5 lanes.toNat).length then (s1.put LM_STATUS.state 1).done else s1.done

/-- The physical lane of logical lane k in a lane map. -/
def mapLane (m : BitVec 12) (k : Nat) : Nat := bitsOf m.toNat (3 * k) 3

/-- A receive map names w different lanes (R426). -/
def mapOk (w : Nat) (m : BitVec 12) : Bool :=
  let l := (List.range w).map (mapLane m)
  decide (0 < w) && l.all (fun i => decide (i < 5)) && decide (l.eraseDups.length = w)

/-- The spare receive lane: the lowest lane with signal that carries no logical lane and is not retired (DEDUCED, log 43). -/
def State.rxSpare (s : State) : Nat :=
  match linkLanes.find? fun i => s.on (LM_LANE_STATUS.signal i) && !bit1 (s.get LM_RX_MAP.retired) i &&
      !((List.range 4).any fun k => s.get (LM_RX_MAP.lane k) == i) with
  | some i => i
  | none => 7

/-- LINK_LANE_LOCK (R426): w lanes with logical lanes 0 to w - 1 are in marker lock. -/
def execLinkLaneLock (width : BitVec 2) (map : BitVec 12) (s : State) : Host.Outcome State Fault Refusal :=
  let w := widthLanes width.toNat
  if !s.linkRuns || s.get LM_STATUS.state != 1 || !mapOk w map then s.done
  else
    let s1 := (s.put LM_STATUS.state 2).put LM_STATUS.rx_width width.toNat
    let s2 := (List.range 4).foldl (fun s k => s.put (LM_RX_MAP.lane k) (if k < w then mapLane map k else 7)) s1
    let s3 := (List.range w).foldl (fun s k =>
      let i := mapLane map k
      ((s.set1 (LM_LANE_STATUS.lock i)).set1 (LM_LANE_STATUS.rx_use i)).put (LM_LANE_STATUS.rx_logical i) k) s2
    ((s3.put LM_RX_MAP.spare s3.rxSpare).txUse).done

/-- LINK_DESKEW_END (R426): the lanes are aligned on their markers; octet i of the operand is the skew of physical lane i against
logical lane 0 in nanoseconds, of which no active lane may have more than 128. -/
def execLinkDeskewEnd (skewNs : BitVec 40) (s : State) : Host.Outcome State Fault Refusal :=
  let act := linkLanes.filter fun i => s.on (LM_LANE_STATUS.rx_use i)
  if !s.linkRuns || s.get LM_STATUS.state != 2 || act.any (fun i => decide (128 < bitsOf skewNs.toNat (8 * i) 8)) then s.done
  else
    let s1 := act.foldl (fun s i => s.put (LM_LANE_STATUS.skew_ns i) (bitsOf skewNs.toNat (8 * i) 8)) s
    (s1.put LM_STATUS.state 3).done

/-- SOF lock, from which the device sends its INIT blocks (R424, R426). -/
def State.sofLocked (s : State) : State :=
  if !s.linkRuns || s.get LM_STATUS.state != 3 then s
  else { s.put LM_STATUS.state 4 with link := { s.link with sendInit := true } }

/-- LINK_SOF_LOCK (R424, R426). -/
def execLinkSofLock (s : State) : Host.Outcome State Fault Refusal := s.sofLocked.done

/-- LINK_TRAIN_TIMEOUT (R426): a step of bring-up passed its limit; the sequence starts again at Signal. -/
def execLinkTrainTimeout (s : State) : Host.Outcome State Fault Refusal :=
  if !s.linkRuns || 4 < s.get LM_STATUS.state then s.done
  else
    let s1 := ((s.inc LM_TRAIN_FAIL_CNT.count).put LM_STATUS.state 0).lanesUnlocked
    State.done { s1 with link := { s1.link with inits := [], sendInit := false, txAvail := [] } }

/-- An INIT of the other side with the credits of one of its pools; after Up it takes the link down (R426, R427). -/
def State.initBlock (s : State) (pool credits : Nat) : State :=
  if !s.linkRuns || 3 < pool then s
  else if s.linkUp then s.linkDown
  else if s.get LM_STATUS.state = 4 then
    { s with link := { s.link with
      inits := s.link.inits.filter (· != pool) ++ [pool]
      txAvail := nset pool credits s.link.txAvail } }
  else s

/-- INIT_BLOCK (R426, R427). -/
def execInitBlock (pool : BitVec 3) (credits : BitVec 16) (s : State) : Host.Outcome State Fault Refusal :=
  (s.initBlock pool.toNat credits.toNat).done

/-- The entries of the host receive ring from an index up to another (R443). -/
def ringSpan (size prod : Nat) : Nat → Nat → List Nat
  | 0, _ => []
  | n + 1, i => if i = prod then [] else i :: ringSpan size prod n ((i + 1) % size)

/-- The EXC_RX copies restart at the entry at LM_HRX_CONS and continue up to LM_HRX_PROD (R443). -/
def State.ringCopies (s : State) : State :=
  let size := max 1 (s.get LM_HRX_SIZE.value)
  (ringSpan size (s.get LM_HRX_PROD.value) size (s.get LM_HRX_CONS.value)).foldl (fun s i => s.sendMsg 2 (s.exRxBody i)) s

/-- The notices that wait for Up (R444): a failed wake, and a width cut (DEDUCED, log 44). -/
def State.upNotices (s : State) : State :=
  let s1 := if s.link.wakeNotice then s.notice 1 (s.get PWR_WAKE_FAIL.cause) else s
  let s2 := match s1.link.widthNotice with | some w => s1.notice 3 w | none => s1
  { s2 with link := { s2.link with wakeNotice := false, widthNotice := none } }

/-- LINK_UP (R426, R443, R444): with SOF lock and an INIT for every pool the device is Up. Sequence numbers start at 0, an INT goes
out while the masked summary is not 0, and the copies of the host receive ring restart. -/
def execLinkUp (s : State) : Host.Outcome State Fault Refusal :=
  if !s.linkRuns || s.get LM_STATUS.state != 4 || !((List.range 4).all fun p => s.link.inits.contains p) then s.done
  else
    let s1 := (s.put LM_STATUS.state 5).set1 LM_EVENT.link_up
    let s2 : State := { s1 with link := { s1.link with
      nextTx := 0, nextRx := 0, naked := false, replays := 0, sendInit := false, lastMasked := 0 } }
    s2.irq.upNotices.ringCopies.done

/-! ## Blocks and columns (R421 to R425, R430) -/

/-- A control block (R422): its type and octets 1 to 7. -/
def ctrlBlk (typ : Nat) (l : List Byte) : LinkBlk := ⟨2, BitVec.ofNat 8 typ :: slice l 0 7⟩

/-- A FILL block. -/
def fillBlk : LinkBlk := ctrlBlk 0x1E []

/-- Octets 1 to 5 of a marker or SOF block with the CRC-16 over octets 0 to 5 behind them (R423, R424). -/
def crcBlk (typ : Nat) (l : List Byte) : LinkBlk := ctrlBlk typ (slice l 0 5 ++ octetsBE 2 (crc16 (BitVec.ofNat 8 typ :: slice l 0 5)))

/-- Octets 1 to 4 of a START block (R430). -/
def startOctets (pool seq len : Nat) : List Byte := octetsBE 2 (pool % 8 * 8192 + seq % 4096) ++ octetsBE 2 len

/-- The blocks of a message (R430): START, its body, and TERM with the CRC-32. -/
def msgBlks (seq : Nat) (m : LMsg) : List LinkBlk :=
  let st := startOctets m.pool seq m.body.length
  let body := m.body.map fun w => octetsBE 8 w.toNat
  ctrlBlk 0x78 st :: body.map (LinkBlk.mk 1) ++ [ctrlBlk 0x87 (octetsBE 4 (crc32 (st ++ body.flatten)))]

/-- The blocks of an item that waits for the line (R422). -/
def LinkItem.blks : LinkItem → List LinkBlk
  | .msg seq m => msgBlks seq m
  | .ack nak seq => [ctrlBlk 0x33 (octetsBE 2 (nak.toNat * 32768 + seq % 4096))]
  | .credit pool n => [ctrlBlk 0x2D (octetsBE 1 pool ++ octetsBE 2 n)]
  | .init pool n => [ctrlBlk 0x66 (octetsBE 1 pool ++ octetsBE 2 n ++ octetsBE 1 1)]

/-- A bit through the scrambler of polynomial x^58 + x^39 + 1, or through the descrambler (R421); the state has the latest bit first. -/
def scrBit (tx : Bool) (x : List Bool × List Bool) (b : Bool) : List Bool × List Bool :=
  let o := xor b (xor ((x.1[38]?).getD false) ((x.1[57]?).getD false))
  ((if tx then o else b) :: x.1.take 57, x.2 ++ [o])

/-- Octets through the scrambler or descrambler, each least significant bit first (R421). -/
def scrOctets (tx : Bool) (st : List Bool) (l : List Byte) : List Bool × List Byte :=
  let r := (l.flatMap fun o => (List.range 8).map (bit1 o.toNat)).foldl (scrBit tx) (st, [])
  (r.1, (List.range l.length).map fun i =>
    BitVec.ofNat 8 (bitSum ((List.range 8).filter fun j => (r.2[8 * i + j]?).getD false)))

/-- The parity of octets by bit position: bit i covers bits i, i + 8 and so on (R423). -/
def bipOf (l : List Byte) : Byte := l.foldl (· ^^^ ·) 0

/-- The logical lane that a physical lane carries in transmit: a spare that joins carries that of the lane it replaces as well (R428). -/
def State.txLogical (s : State) (i : Nat) : Option Nat := (List.range 4).find? fun k => s.get (LM_TX_MAP.lane k) == i

/-- A lane joins under the swap that runs (R428). -/
def State.joins (s : State) (i : Nat) : Bool := decide (s.link.swap = .switch) && s.get LM_TX_MAP.spare == i

/-- The logical lane of what a physical lane sends. -/
def State.sendsLogical (s : State) (i : Nat) : Option Nat := if s.joins i then s.txLogical s.link.swapLane else s.txLogical i

/-- A column goes out: a block on each physical lane that the Bench does not hold, scrambled or, a marker or SOF column, as it is; the
parities go on, or start again behind a marker (R421 to R423). -/
def State.sendColumn (s : State) (plain marker : Bool) (f : Nat → LinkBlk) : State :=
  (linkLanes.filter fun i => !s.on (BENCH_CFG.en (64 + i))).foldl (fun s i =>
    let l : TxLane := mgetD i {} s.link.line.tx
    let b := f i
    let st := l.scr.getD ((List.range 58).map (bit1 (Config.linkSeed i)))
    let r := if plain then (st, b.octets) else scrOctets true st b.octets
    let p := if marker then 0 else l.bip ^^^ bipOf r.2
    { s with link := { s.link with line := { s.link.line with
      tx := mset i { scr := some r.1, bip := p } s.link.line.tx
      column := s.link.line.column ++ [(i, { b with octets := r.2 })] } } })
    { s with link := { s.link with line := { s.link.line with column := [] } } }

/-- The marker block of a physical lane, `left` naming the lane that a swap has just retired (R423, R428). -/
def State.markerBlk (s : State) (left : Option Nat) (i : Nat) : LinkBlk :=
  let l : TxLane := mgetD i {} s.link.line.tx
  let st := if left = some i then 2 else if s.joins i then 1 else 0
  let named := if st = 0 then 0 else s.link.swapLane
  crcBlk 0x4B (octetsBE 1 (i * 16 + (s.sendsLogical i).getD 15) ++ octetsBE 2 s.link.markerCount ++ [l.bip] ++
    octetsBE 1 (st * 64 + s.get LM_STATUS.tx_width * 16 + named))

/-- A marker column goes out on every lane (R423). -/
def State.markerColumn (s : State) (left : Option Nat) : State :=
  let s1 := s.sendColumn true true (s.markerBlk left)
  { s1 with link := { s1.link with line := { s1.link.line with cols := 0, fillGap := s1.link.line.fillGap + 1 } } }

/-- The blocks of the column that goes out next and carries items, and the line without them: up to w of the item under way and of those
that wait. Places left over repeat the ACK of the last message accepted (DESIGN CHOICE, log 152). -/
def Line.take (l : Line) (w : Nat) : Nat → List LinkBlk × Line
  | 0 => ([], l)
  | n + 1 => match l.blocks, l.queue with
    | b :: r, _ => let x := Line.take { l with blocks := r } w n; (b :: x.1, x.2)
    | [], x :: q => match x.blks with
      | b :: r => let y := Line.take { l with blocks := r, queue := q } w n; (b :: y.1, y.2)
      | [] => ([], { l with queue := q })
    | [], [] => ([], l)

/-- A column other than a marker column goes out (R422, R424, R425): an SOF that is due, a FILL column at least once in 1,024 columns
and where nothing waits, or the blocks that wait. The 16,384th column is a marker column, which is MARKER_COLUMN's. -/
def State.linkColumn (s : State) : State :=
  let l := s.link.line
  if !s.linkRuns || decide (16383 ≤ l.cols) then s
  else
    let w := widthLanes (s.get LM_STATUS.tx_width)
    let count (fill : Bool) (s : State) : State := { s with link := { s.link with line := { s.link.line with
      cols := s.link.line.cols + 1, fillGap := if fill then 0 else s.link.line.fillGap + 1 } } }
    if l.sofDue then
      let b := crcBlk 0x55 (octetsBE 4 s.link.frameNo)
      count false (State.sendColumn { s with link := { s.link with line := { l with sofDue := false } } } true false
        fun i => if (s.sendsLogical i).isSome then b else fillBlk)
    else if 1023 ≤ l.fillGap ∨ (l.blocks = [] ∧ l.queue = []) then count true (s.sendColumn false false fun _ => fillBlk)
    else
      let x := l.take w w
      let pad := ctrlBlk 0x33 (octetsBE 2 ((s.link.nextRx + 4095) % 4096))
      count false (State.sendColumn { s with link := { s.link with line := x.2 } } false false fun i =>
        match s.sendsLogical i with
        | some k => if k < w then x.1.getD k pad else fillBlk
        | none => fillBlk)

/-! ## The spare lane and the width (R428, R429) -/

/-- The width is cut (R429): the link goes down and retrains on two working lanes, or on one. The lanes taken are the lowest
that work (DESIGN CHOICE, log 45). -/
def State.widthCut (s : State) (bad : List Nat) : State :=
  let s1 := bad.foldl (fun s f => s.setBit LM_TX_MAP.retired f) s
  let work := linkLanes.filter fun i => !bit1 (s1.get LM_TX_MAP.retired) i
  let w := if 2 ≤ work.length then 2 else 1
  let s2 := if work.isEmpty then s1
    else (List.range 4).foldl (fun s k => s.put (LM_TX_MAP.lane k) (if k < w then work.getD k 7 else 7)) s1
  let code := if w = 2 then 1 else 2
  let s3 := ((s2.put LM_TX_MAP.spare 7).put LM_STATUS.tx_width code).set1 LM_EVENT.width_cut
  let s4 : State := { s3 with link := { s3.link with
    widthNotice := some code, swap := .none, swapWaiting := [] } }
  (s4.put LM_STATUS.swap_active 0).linkDown.txUse

/-- A transmit swap of physical lane f is requested (R428, R429, R451). A lane that carries nothing is retired as it stands. The swap
waits for one under way, and for the end of an Apply (R75). -/
def State.swapLane (s : State) (f : Nat) : State :=
  if s.link.swap ≠ .none ∨ s.sil.step = .apply then { s with link := { s.link with swapWaiting := s.link.swapWaiting.filter (· != f) ++ [f] } }
  else
    let sp := s.get LM_TX_MAP.spare
    match s.txLogical f with
    | none => if f < 5 then (if sp = f then s.put LM_TX_MAP.spare 7 else s).setBit LM_TX_MAP.retired f else s
    | some _ =>
      if sp = 7 then s.widthCut [f]
      else
        let s1 := (s.benchEnd (64 + sp)).set1 LM_STATUS.swap_active
        { s1 with link := { s1.link with
            swapLane := f, swap := if s1.link.spareMarkers < 4 then .prepare else .mirror } }

/-- The transmit swap that has waited longest begins, where none is under way (R75, R451). -/
def State.swapNext (s : State) : State :=
  match s.link.swapWaiting with
  | [] => s
  | g :: r => if s.link.swap = .none then State.swapLane { s with link := { s.link with swapWaiting := r } } g else s

/-- A transmit swap ends (R428): the retired lane carries nothing and the spare carries its logical lane; a swap that waits
begins (R451). -/
def State.swapEnd (s : State) : State :=
  let f := s.link.swapLane
  let sp := s.get LM_TX_MAP.spare
  let s1 := match s.txLogical f with | some k => s.put (LM_TX_MAP.lane k) sp | none => s
  let s2 := (((s1.put LM_TX_MAP.spare 7).setBit LM_TX_MAP.retired f).inc LM_SWAP_CNT.count).set1 LM_EVENT.swap_done
  (State.txUse { s2.put LM_STATUS.swap_active 0 with link := { s2.link with swap := .none, spareMarkers := 0 } }).swapNext

/-- MARKER_COLUMN (R423, R428): one marker column on every lane: the markers count on, a swap takes its next step, and the receive
lanes whose BIP-8 differs and the blocks of a bad sync header or type since the last are counted (R421 to R423). -/
def execMarkerColumn (bipBad : BitVec 5) (badBlocks : BitVec 16) (s : State) : Host.Outcome State Fault Refusal :=
  if !s.linkRuns then s.done
  else
    let sp := s.get LM_TX_MAP.spare
    let m := if sp = 7 ∨ s.on (BENCH_CFG.en (64 + sp)) then 0 else min 4 (s.link.spareMarkers + 1)
    let s1 : State := { s with link := { s.link with markerCount := (s.link.markerCount + 1) % 65536, spareMarkers := m } }
    let s2 := (bitList 5 bipBad.toNat).foldl (fun s i => s.inc (LM_LANE_BIP_CNT.count i)) s1
    let s3 := s2.incBy LM_BLOCK_ERR_CNT.count badBlocks.toNat
    if s3.link.swap = .mirror then ((State.txUse { s3 with link := { s3.link with swap := .switch } }).markerColumn none).done
    else if s3.link.swap = .switch then (s3.swapEnd.markerColumn (some s3.link.swapLane)).done
    else (s3.markerColumn none).done

/-- LANE_SWAP_GO (R428): a write of LM_CTRL with swap_go. -/
def execLaneSwapGo (d : BitVec 32) (s : State) : Host.Outcome State Fault Refusal :=
  if !s.linkRuns then s.done
  else
    let s1 := (s.ungate 23).put LM_CTRL.swap_lane (LM_CTRL.swap_lane.of d.toNat)
    if bit1 d.toNat 31 then (s1.swapLane (s1.get LM_CTRL.swap_lane)).done else s1.done

/-- LANE_SWAP_PREPARE_END (R428): the spare has sent 4 marker columns. -/
def execLaneSwapPrepareEnd (s : State) : Host.Outcome State Fault Refusal :=
  if s.link.swap = .prepare then State.done { s with link := { s.link with swap := .mirror, spareMarkers := 4 } } else s.done

/-- LINK_DOWN (R427, R429): marker lock of an active lane or SOF lock is lost. Transmit lanes that have failed with no working
spare cut the width. -/
def execLinkDown (txBad : BitVec 5) (s : State) : Host.Outcome State Fault Refusal :=
  if !s.linkRuns || s.get LM_STATUS.state < 2 || 5 < s.get LM_STATUS.state then s.done
  else
    let bad := (bitList 5 txBad.toNat).filter fun f => (s.txLogical f).isSome
    let sp := s.get LM_TX_MAP.spare
    if bad.isEmpty then s.linkDown.done
    else if sp = 7 ∨ bit1 txBad.toNat sp ∨ 1 < bad.length then (s.widthCut (bitList 5 txBad.toNat)).done
    else (bad.foldl State.swapLane s.linkDown).done

/-- LINK_RETRAIN (R427): a write of LM_CTRL with retrain takes the link down. -/
def execLinkRetrain (s : State) : Host.Outcome State Fault Refusal :=
  if s.linkRuns then (s.ungate 23).linkDown.done else s.done

/-- The credits the device advertises for a pool of the host (R433). -/
def rxPool (p : Nat) : Nat := match p with | 0 => 64 | 1 => 1024 | 2 => 2048 | _ => 0

/-- An item is queued for the line; ACK and INIT blocks that wait give way to a newer one of their kind (R426, R431). -/
def Line.push (l : Line) (x : LinkItem) : Line :=
  let old (y : LinkItem) : Bool := match x, y with
    | .ack _ _, .ack _ _ => true
    | .init p _, .init q _ => p == q
    | _, _ => false
  { l with queue := l.queue.filter (fun y => !old y) ++ [x] }

/-- SOF_TICK (R424, R426, R434): the sender's link-frame timer passes 1 µs; the SOF column is due, and the credits and INIT blocks that
wait go out with it. -/
def execSofTick (s : State) : Host.Outcome State Fault Refusal :=
  if !s.linkRuns then s.done
  else
    let creds := (s.link.credOut.filter fun e => e.2 != 0).map fun e => LinkItem.credit e.1 e.2
    let inits := if s.link.sendInit then (List.range 4).map fun p => LinkItem.init p (rxPool p) else []
    State.done { s with link := { s.link with
      frameNo := (s.link.frameNo + 1) % 2 ^ 32, credOut := []
      line := (creds ++ inits).foldl Line.push { s.link.line with sofDue := true } } }

/-! ## Messages (R430 to R435) -/

/-- Every unacknowledged message is sent again, in order (R432); the eighth replay in a row takes the link down (R427). -/
def State.replay (s : State) : State :=
  if s.link.unacked.isEmpty then s
  else
    let again := s.link.line.queue.filter (fun x => match x with | .msg _ _ => false | _ => true) ++
      s.link.unacked.map fun e => LinkItem.msg e.1 e.2
    let s1 : State := { s.inc LM_REPLAY_CNT.count with link := { s.link with
      replays := s.link.replays + 1, line := { s.link.line with queue := again } } }
    if 8 ≤ s1.link.replays then (s1.set1 LM_EVENT.replay_fail).linkDown else s1

/-- The messages left after an ACK that names seq (R431). -/
def ackUpTo (seq : Nat) (l : List (Nat × LMsg)) : List (Nat × LMsg) :=
  if l.any fun e => e.1 == seq then (l.dropWhile fun e => e.1 != seq).drop 1 else l

/-- The link sends what its credits now allow. -/
def State.pumpLink (s : State) : State := { s with link := s.link.pump s.link.txq.length }

/-- An ACK covers every message up to the one it names; a nak makes the rest go out again (R431, R432). -/
def State.ackBlock (s : State) (nak : Bool) (seq : Nat) : State :=
  if !s.linkRuns || !s.linkUp then s
  else
    let left := ackUpTo seq s.link.unacked
    let r := if left.length < s.link.unacked.length then 0 else s.link.replays
    let keep (x : LinkItem) : Bool := match x with | .msg n _ => left.any fun e => e.1 == n | _ => true
    let s1 : State := { s with link := { s.link with
      unacked := left, replays := r, line := { s.link.line with queue := s.link.line.queue.filter keep } } }
    let s2 := if nak then s1.replay else s1
    s2.pumpLink

/-- ACK_BLOCK (R431, R432). -/
def execAckBlock (nak : Bool) (seq : BitVec 12) (s : State) : Host.Outcome State Fault Refusal := (s.ackBlock nak seq.toNat).done

/-- REPLAY_TIMEOUT (R432): 20 µs without an ACK that covers the oldest message. -/
def execReplayTimeout (s : State) : Host.Outcome State Fault Refusal :=
  if s.linkRuns && s.linkUp then s.replay.done else s.done

/-- The host returns credits of one of its pools (R433). -/
def State.creditBlock (s : State) (pool n : Nat) : State :=
  if !s.linkRuns || !s.linkUp || 3 < pool then s
  else
    let l := { s.link with txAvail := nset pool (mgetD pool 0 s.link.txAvail + n) s.link.txAvail }
    State.pumpLink { s with link := l }

/-- CREDIT_BLOCK (R433). -/
def execCreditBlock (pool : BitVec 3) (n : BitVec 16) (s : State) : Host.Outcome State Fault Refusal :=
  (s.creditBlock pool.toNat n.toNat).done

/-- The opcode of a message (R436). -/
def opcodeOf (h : Word64) : Nat := bitsOf h.toNat 56 8

/-- The tag of a message. -/
def tagOf (h : Word64) : Nat := bitsOf h.toNat 48 8

/-- The ord flag of a request. -/
def ordOf (h : Word64) : Bool := bit1 h.toNat 47

/-- The address of a request. -/
def addrOf (h : Word64) : Nat := bitsOf h.toNat 0 40

/-- The body length that the table of R437 gives a request of an opcode in a pool, none for an opcode the pool does not carry. -/
def requestLen (pool : Nat) (body : List Word64) : Option Nat :=
  let n := bitsOf (body.getD 1 0).toNat 0 32
  match pool, opcodeOf (body.getD 0 0) with
  | 0, 0x01 => some 1
  | 0, 0x02 => some 2
  | 0, 0x03 => some 1
  | 0, 0x04 => some 2
  | 1, 0x10 => some (2 + n / 8)
  | 1, 0x11 => some 2
  | 1, 0x12 => some 3
  | _, _ => none

/-- A request of pool 0 or 1 is malformed (R437). -/
def malformed (pool : Nat) (body : List Word64) : Bool :=
  requestLen pool body != some body.length || bitsOf (body.getD 0 0).toNat 40 6 != 0

/-- A response (R437, R438): RSP in pool 0, DMA_RSP in pool 1. -/
def State.respondLink (s : State) (pool tag status : Nat) (data : List Word64) : State :=
  s.sendMsg pool (msgHeader (if pool = 0 then 0x81 else 0x90) tag status 0 :: data)

/-- The first waiting request of a pool. -/
def State.headReq (s : State) (pool : Nat) : Option LReq := s.link.rxq.find? fun r => r.pool == pool

/-- A request leaves its queue and its credits are due back (R434). -/
def State.popReq (s : State) (r : LReq) : State :=
  { s with link := { s.link with
      rxq := s.link.rxq.erase r
      credOut := nset r.pool (mgetD r.pool 0 s.link.credOut + ceilDiv r.body.length 8) s.link.credOut } }

/-- Malformed requests at the head of a pool are answered in their turn with status 0x5 (R437, R439). -/
def State.answerBad (s : State) (pool : Nat) : Nat → State
  | 0 => s
  | n + 1 => match s.headReq pool with
    | none => s
    | some r =>
      if r.bad then
        let h := r.body.getD 0 0
        let data : List Word64 := if pool = 0 ∧ (opcodeOf h = 1 ∨ opcodeOf h = 3) then [0] else []
        State.answerBad ((s.popReq r).respondLink pool (tagOf h) 5 data) pool n
      else s

/-- The malformed requests at the heads of pools 0 and 1 are answered. -/
def State.answerBads (s : State) : State :=
  (s.answerBad 0 s.link.rxq.length).answerBad 1 s.link.rxq.length

/-- An accepted message joins its pool (R433, R437): pool 3 carries none, and in pool 2 an opcode other than EXC_TX is discarded;
both are counted in LM_MSG_BAD_CNT, and the credits of a message discarded in pool 2 are due back (R434). -/
def State.takeMsg (s : State) (pool : Nat) (body : List Word64) : State :=
  let add (bad : Bool) (s : State) : State :=
    { s with link := { s.link with rxq := s.link.rxq ++ [⟨pool, s.link.rxOrder, body, bad⟩], rxOrder := s.link.rxOrder + 1 } }
  if pool ≤ 1 then
    if malformed pool body then ((add true s).inc LM_MSG_BAD_CNT.count).answerBads else add false s
  else if pool = 2 ∧ opcodeOf (body.getD 0 0) = 0x20 then add false s
  else if pool = 2 then
    State.inc { s with link := { s.link with
      credOut := nset pool (mgetD pool 0 s.link.credOut + ceilDiv body.length 8) s.link.credOut } } LM_MSG_BAD_CNT.count
  else s.inc LM_MSG_BAD_CNT.count

/-- A message arrives (R431): it is accepted when its CRC passes and its number is the one expected. The first failure is
counted and answered with a nak, and messages are discarded until the expected one arrives (DEDUCED, log 152: those discarded are not
counted again). -/
def State.messageIn (s : State) (pool seq : Nat) (crcOk : Bool) (body : List (BitVec 64)) : State :=
  if !s.linkRuns || !s.linkUp then s
  else if crcOk ∧ seq = s.link.nextRx then
    State.takeMsg { s with link := { s.link with
      nextRx := (s.link.nextRx + 1) % 4096, naked := false, line := s.link.line.push (.ack false s.link.nextRx) } } pool body
  else if s.link.naked then s
  else { s.inc LM_CRC_ERR_CNT.count with link := { s.link with
    naked := true, line := s.link.line.push (.ack true ((s.link.nextRx + 4095) % 4096)) } }

/-- MESSAGE_RECEIVED (R431). -/
def execMessageReceived (pool : BitVec 3) (seq : BitVec 12) (crcOk : Bool) (body : List (BitVec 64)) (s : State) :
    Host.Outcome State Fault Refusal := (s.messageIn pool.toNat seq.toNat crcOk body).done

/-- INT_RESEND (R444): the resend period has passed while the masked summary stays other than 0. -/
def execIntResend (s : State) : Host.Outcome State Fault Refusal :=
  if s.linkRuns ∧ s.get LM_INT_CFG.resend_us ≠ 0 ∧ s.link.lastMasked ≠ 0 ∧ s.hostMasked ≠ 0 then (s.sendInt s.hostMasked).done
  else s.done

/-! ## Blocks received (R421 to R424, R430) -/

/-- A marker or SOF block whose CRC passes (R423, R424). -/
def crcGood (l : List Byte) : Bool := crc16 (l.take 6) == fieldAt l 6 2

/-- The marker lock of an active lane, or SOF lock, is lost (R423, R424, R427). -/
def State.lockLost (s : State) : State := if 2 ≤ s.get LM_STATUS.state then s.linkDown else s

/-- A lane that joined under a swap of the host takes the logical lane at the Switch marker (R428). -/
def State.rxSwitch (s : State) (i k : Nat) : State :=
  let p := s.get (LM_RX_MAP.lane k)
  let s1 := if p < 5 then (s.put (LM_LANE_STATUS.rx_use p) 0).put (LM_LANE_STATUS.rx_logical p) 15 else s
  let s2 := ((s1.put (LM_RX_MAP.lane k) i).set1 (LM_LANE_STATUS.rx_use i)).put (LM_LANE_STATUS.rx_logical i) k
  State.put { s2 with link := { s2.link with line := { s2.link.line with join := none } } } LM_RX_MAP.spare s2.rxSpare

/-- What a valid marker says of a swap of the host (R428). -/
def State.rxSwapState (s : State) (i : Nat) (l : List Byte) : State :=
  let k := fieldAt l 1 1 % 16
  match fieldAt l 5 1 / 64 with
  | 1 => if k < 4 then { s with link := { s.link with line := { s.link.line with join := some (i, k) } } } else s
  | 0 => if s.link.line.join = some (i, k) then s.rxSwitch i k else s
  | _ => s

/-- The state with the receive side of a lane replaced. -/
def State.setRxLane (s : State) (i : Nat) (x : RxLane) : State :=
  { s with link := { s.link with line := { s.link.line with rx := mset i x s.link.line.rx } } }

/-- A valid marker on a lane (R423): a BIP-8 that differs is counted, and four in a row at exactly the marker period give marker
lock. -/
def State.rxMarker (s : State) (i : Nat) (l : List Byte) : State :=
  let x : RxLane := mgetD i {} s.link.line.rx
  let inStep := decide (x.good ≠ 0 ∧ x.gap = 16383)
  let s1 := if x.good ≠ 0 ∧ x.bip.toNat ≠ fieldAt l 4 1 then s.inc (LM_LANE_BIP_CNT.count i) else s
  let g := if inStep then min 4 (x.good + 1) else 1
  let s2 := s1.setRxLane i { x with bip := 0, gap := 0, good := g, bad := 0 }
  (if g = 4 then s2.set1 (LM_LANE_STATUS.lock i) else s2).rxSwapState i l

/-- A block on a lane that is no valid marker (R423): at an expected position it counts towards the loss of marker lock. -/
def State.rxNoMarker (s : State) (i : Nat) (l : List Byte) : State :=
  let x : RxLane := mgetD i {} s.link.line.rx
  if x.gap < 16383 then s.setRxLane i { x with bip := x.bip ^^^ bipOf l, gap := x.gap + 1 }
  else
    let s1 := s.setRxLane i { x with bip := 0, gap := 0, good := 0, bad := x.bad + 1 }
    if x.bad + 1 = 4 then
      let s2 := s1.put (LM_LANE_STATUS.lock i) 0
      if s.on (LM_LANE_STATUS.rx_use i) then s2.lockLost else s2
    else s1

/-- A column has passed on logical lane 0 with or without a valid SOF block (R424). -/
def State.rxSof (s : State) (sof : Option Nat) : State :=
  let l := s.link.line
  let gap := l.sofGap + 1
  let set (last : Option Nat) (gap good : Nat) : State :=
    { s with link := { s.link with line := { l with sofLast := last, sofGap := gap, sofGood := good } } }
  match sof with
  | none =>
    if 4 * 428 ≤ gap then
      let s1 := set none 0 0
      if 4 ≤ s.get LM_STATUS.state then s1.lockLost else s1
    else set l.sofLast gap l.sofGood
  | some n =>
    let follows := decide (425 ≤ gap ∧ gap ≤ 428) && l.sofLast == some ((n + 2 ^ 32 - 1) % 2 ^ 32)
    let g := if follows then min 4 (l.sofGood + 1) else 1
    let s1 := set (some n) 0 g
    if g = 4 then s1.sofLocked else s1

/-- The message on its way in ends (R430, R431). -/
def State.rxTerm (s : State) (crc : Nat) : State :=
  match s.link.line.msg with
  | none => s
  | some m =>
    let s1 : State := { s with link := { s.link with line := { s.link.line with msg := none } } }
    let ok := !m.bad && decide (fieldAt m.start 2 2 % 4096 = m.body.length) &&
      crc32 (m.start ++ m.body.flatMap fun w => octetsBE 8 w.toNat) == crc
    s1.messageIn (fieldAt m.start 0 1 / 32) (fieldAt m.start 0 2 % 4096) ok m.body

/-- The message on its way in changes. -/
def State.rxMsg (s : State) (f : RxMsg → RxMsg) : State :=
  { s with link := { s.link with line := { s.link.line with msg := s.link.line.msg.map f } } }

/-- A control block of an active lane, descrambled (R422): a type of no block is counted and ignored. -/
def State.rxControl (s : State) (l : List Byte) : State :=
  match fieldAt l 0 1 with
  | 0x1E => s
  | 0x2D => s.creditBlock (fieldAt l 1 1 % 8) (fieldAt l 2 2)
  | 0x33 => s.ackBlock (bit1 (fieldAt l 1 1) 7) (fieldAt l 1 2 % 4096)
  | 0x66 => s.initBlock (fieldAt l 1 1 % 8) (fieldAt l 2 2)
  | 0x78 => { s with link := { s.link with line := { s.link.line with msg := some { start := slice l 1 4 } } } }
  | 0x87 => s.rxTerm (fieldAt l 1 4)
  | _ => s.inc LM_BLOCK_ERR_CNT.count

/-- A block arrives on a physical lane as sent on the line (R421 to R424, R430): markers and SOF blocks are not scrambled; of the others
those of an active lane take effect. -/
def State.rxBlock (s : State) (i sync : Nat) (l : List Byte) : State :=
  if !s.linkRuns then s
  else if sync = 2 ∧ fieldAt l 0 1 = 0x4B ∧ crcGood l then s.rxMarker i l
  else
    let zero := s.on (LM_LANE_STATUS.rx_use i) && s.get (LM_LANE_STATUS.rx_logical i) == 0
    let s1 := s.rxNoMarker i l
    if sync = 2 ∧ fieldAt l 0 1 = 0x55 ∧ crcGood l then if zero then s1.rxSof (some (fieldAt l 1 4)) else s1
    else
      let x : RxLane := mgetD i {} s1.link.line.rx
      let r := scrOctets false x.scr l
      let s2 := s1.setRxLane i { x with scr := r.1 }
      let s3 := if zero then s2.rxSof none else s2
      if sync = 0 ∨ sync = 3 then (s3.inc LM_BLOCK_ERR_CNT.count).rxMsg fun m => { m with bad := true }
      else if !s3.on (LM_LANE_STATUS.rx_use i) then s3
      else if sync = 1 then s3.rxMsg fun m => { m with body := m.body ++ [BitVec.ofNat 64 (fieldAt r.2 0 8)] }
      else s3.rxControl r.2

/-! ## Beacon and Wake Port (R445 to R450) -/

/-- BEACON_SOF (R445): a valid SOF block of the Beacon with its wake flag and number, and the blocks since the one before it. -/
def execBeaconSof (wake : Bool) (number : BitVec 32) (blocks : BitVec 8) (s : State) : Host.Outcome State Fault Refusal :=
  let st := s.get PWR_STATUS.state
  if st ≠ 2 ∧ st ≠ 3 ∧ st ≠ 5 then s.done
  else
    let follows := s.link.beaconLast == some ((number.toNat + 2 ^ 32 - 1) % 2 ^ 32)
    let good := if follows ∧ (blocks = 18 ∨ blocks = 19) then min 4 (s.link.beaconGood + 1) else 1
    let w := if wake then (if follows then s.link.beaconWake + 1 else 1) else 0
    let s1 : State := { s with link := { s.link with
      beaconGood := good, beaconLock := good == 4, beaconLast := some number.toNat, beaconWake := if w = 2 then 0 else w } }
    if w = 2 then (s1.wakeEvent 3).done else s1.done

/-- VIO stands (R489, R532): the Feed step of the boot order is over, and the device is not in Off. -/
def State.vioGood (s : State) : Bool :=
  decide (s.pwr.step ≠ .feed ∧ s.pwr.step ≠ .resetHeld ∧ (s.pwr.step ≠ .none ∨ s.get PWR_STATUS.state ≠ 0))

/-- The Wake Port answers: the device is not in Off (R446), and its straps have been sampled. -/
def State.wpRuns (s : State) : Bool := s.vioGood && decide (s.pwr.step ≠ .island0)

/-- A wake event of the Wake Port (R447). -/
def State.wakeAddress (s : State) : State :=
  if s.wpRuns ∧ s.on WP_CFG.wake_en then (s.inc WP_WAKE_CNT.count).wakeEvent 0 else s

/-- WAKE_ADDRESS_WRITE (R447): a write to the wake address is a wake event while wake_en is 1. -/
def execWakeAddressWrite (s : State) : Host.Outcome State Fault Refusal := s.wakeAddress.done

/-- The device state that GET_STATUS reports (R448). -/
def State.wpState (s : State) : Nat :=
  match s.get PWR_STATUS.state with
  | 0 => 0
  | 1 => if s.structured then 2 else 1
  | 2 => 3
  | 3 => 4
  | 4 => 5
  | _ => 6

/-- The octets of GET_STATUS (R448). -/
def State.wpOctets (s : State) : List Byte :=
  [s.wpState, s.get PWR_WAKE_FAIL.cause, (if s.linkUp then 0x80 else 0) + s.get WP_ALERT.sources,
    s.get MGT_IDENTITY.rev].map (BitVec.ofNat 8)

/-- GET_STATUS: the answer is the four octets and the PEC over every octet of the transaction (R448). -/
def State.wpStatus (s : State) : State :=
  if s.wpRuns then
    let a := s.get WP_CFG.mgmt_addr
    let d := s.wpOctets
    let pec := crc8 ([BitVec.ofNat 8 (2 * a), 0x01, BitVec.ofNat 8 (2 * a + 1)] ++ d)
    { s with wpAnswer := d ++ [BitVec.ofNat 8 pec] }
  else s

/-- WP_GET_STATUS (R448). -/
def execWpGetStatus (s : State) : Host.Outcome State Fault Refusal := s.wpStatus.done

/-- CLEAR_ALERT with the octets after the command, one of data and the PEC. A wrong number of octets is counted in WP_CMD_ERR_CNT, a
PEC that fails in WP_PEC_ERR_CNT; neither is executed (R448). -/
def State.wpClear (s : State) (octets : List Byte) : State :=
  if !s.wpRuns then s
  else
    match octets with
    | [d, pec] =>
      let a := s.get WP_CFG.mgmt_addr
      if crc8 [BitVec.ofNat 8 (2 * a), 0x02, d] = pec.toNat then
        (bitList 3 d.toNat).foldl (fun s b => s.clrBit WP_ALERT.sources b) s
      else s.inc WP_PEC_ERR_CNT.count
    | _ => s.inc WP_CMD_ERR_CNT.count

/-- WP_CLEAR_ALERT (R448). -/
def execWpClearAlert (octets : List (BitVec 8)) (s : State) : Host.Outcome State Fault Refusal := (s.wpClear octets).done

/-- The acknowledgements of the octets that follow the management address in a write, where `again` tells of a repeated START with
the address for reading (R448): an unknown command and the first octet too many are not acknowledged, and neither is a PEC that fails. -/
def State.wpAcks (s : State) (octets : List Byte) (again : Bool) : List Bool :=
  match octets with
  | [] => []
  | cmd :: d =>
    if cmd = 0x01 then true :: d.map fun _ => false
    else if cmd = 0x02 ∧ !again then
      true :: d.zipIdx.map fun e =>
        decide (e.2 = 0) || (decide (e.2 = 1) && crc8 ([BitVec.ofNat 8 (2 * s.get WP_CFG.mgmt_addr), 0x02] ++ d.take 1) == e.1.toNat)
    else false :: d.map fun _ => false

/-- What a transaction of the management address does (R448): the octets written, and whether a repeated START reads. -/
def State.wpManage (s : State) (octets : List Byte) (again : Bool) : State :=
  match octets with
  | [] => s
  | cmd :: d =>
    if cmd = 0x01 ∧ d = [] ∧ again then s.wpStatus
    else if cmd = 0x02 ∧ !again then s.wpClear d
    else s.inc WP_CMD_ERR_CNT.count

/-- A transaction of the Wake Port (R446 to R448): START with an address octet, the octets written after it, and, with `again`, a
repeated START with the same address for reading. The device acknowledges what it answers. -/
def State.wpTransfer (s : State) (first : Byte) (octets : List Byte) (again : Bool) : State :=
  let a := first.toNat / 2
  let write := first.toNat % 2 == 0
  let none (s : State) : State := { s with wpAck := false :: octets.map (fun _ => false) ++ (if again then [false] else []) }
  if !s.wpRuns then none s
  else if a = s.get WP_CFG.wake_addr then
    if write ∧ s.on WP_CFG.wake_en then { s.wakeAddress with wpAck := true :: octets.map fun _ => false } else none s
  else if a = s.get WP_CFG.mgmt_addr ∧ write then
    { s.wpManage octets again with wpAck := true :: s.wpAcks octets again ++ (if again then [octets == [0x01]] else []) }
  else none s

/-- LINK_DOWN_ALERT (R449): the link has been down for 10 ms without a break, outside Standby and waking. -/
def execLinkDownAlert (s : State) : Host.Outcome State Fault Refusal :=
  let st := s.get PWR_STATUS.state
  if !s.linkUp ∧ st ≠ 3 ∧ st ≠ 4 ∧ st ≠ 5 then (s.setBit WP_ALERT.sources 1).done else s.done

end Sys2Proof.Machine
end

