-- ==== Sys2Proof/Machine/IslandOps.lean ====
section
/-! DEFINITION. The reset sequence of an island (R36 to R40) as shared operations: its start, what the reset loses in each island,
what Restore checks, what Rejoin rebuilds, and the island Failed. -/

namespace Sys2Proof.Machine

/-- MIR_STATUS.gap reads 1 while no core is in service (R182). -/
def State.mirGap (s : State) : State := s.put MIR_STATUS.gap (if s.mirService.isNone && s.mir.retired != 3 then 1 else 0)

/-! ## Fence -/

/-- The departures of the frames that satisfy a condition are cut short on every port (R29). -/
def State.interruptIf (s : State) (p : Held → Bool) : State :=
  let hit (d : Departure) : Bool := match s.heldAt d.slot with | some h => p h | none => false
  (List.range 38).foldl (fun a q =>
    let ds := s.departures q
    (ds.filter hit).foldl (fun a d => a.cutShort q d) (a.setDepartures q (ds.filter fun d => !hit d))) s

/-- The departures that the reset of an island cuts short (R29, R315). -/
def State.interruptIsland (s : State) (n : Nat) : State :=
  if 2 ≤ n ∧ n ≤ 9 then [0, 1, 2, 3].foldl (fun s i => s.interrupt (4 * (n - 2) + i)) s
  else if 13 ≤ n ∧ n ≤ 16 then s.interruptIf fun h => s.flowSlice h.flow == n - 13
  else if n = 17 then s.interruptIf fun _ => true
  else if n = 20 then s.interruptIf fun h => cipherOp (s.cipher h.flow) != 0
  else if n = 22 then [32, 33, 34, 35].foldl (fun s q => s.interrupt q) s
  else s

/-- The summary bits that an island holds from Fence to Rejoin (R524). -/
def State.holdBits (s : State) (n : Nat) : Nat :=
  if 2 ≤ n ∧ n ≤ 9 then bitsOf s.intTrees (4 * (n - 2)) 4 else s.summary

/-- A Journal copy goes out with its island; a copy that was returning beside it goes on as one that returns alone (R312). -/
def State.fenceJournal (s : State) (n : Nat) : State :=
  if n = 18 ∨ n = 19 then
    let b := n == 19
    let s1 := s.copyOut b false
    if s1.phaseOf (!b) ≠ .idle then s1.setPhase (!b) .idle else s1
  else s

/-- Fence begins (R36). -/
def State.fence (s : State) (n : Nat) (again : Bool) : State :=
  let held := BitVec.ofNat 23 (s.holdBits n)
  let s1 := s.modIsl n fun x =>
    { x with
      step := .fence, gateReq := false, gateWaits := false, retried := again, heldSummary := if again then x.heldSummary else held
      stoppedNs := if again then x.stoppedNs else s.localNs }
  let s2 := (s1.put (MGT_ISLAND_STATE.island n) 2).setBit MGT_ISLAND_RST.req (n - 1)
  (s2.interruptIsland n).fenceJournal n

/-- A reset of island n is requested with a cause (R36): the sequence runs only for an island in Run, Idle or Failed. -/
def State.resetIsland (s : State) (n cause : Nat) : State :=
  if n = 0 ∨ 28 ≤ n ∨ s.isl n = 2 ∨ s.isOff n then s
  else
    let s1 := ((s.put (MGT_RST_CAUSE.cause n) cause).inc (MGT_RST_CAUSE.count n)).tlog 0x01 .mgt (n + cause * 256)
    s1.fence n false

/-! ## What Assert loses -/

/-- A reset of the holding island returns a field of this access type to its reset value (R10, R113, R177 and the like). -/
def Keep.loses : Keep → Acc → Bool
  | .keep, _ => false
  | .countersAndW1c, a => a == .rc || a == .w1c
  | _, a => a != .w1cs

/-- The registers that a rule names as kept although the rest of their block is reset (R401, R454). JNL_STATUS and JNL_SLOTS
report the copies and their regions (DEDUCED, log 46). -/
def keptRegs : List RName :=
  [.TU_STATUS, .TU_TIME_NS, .TU_TIME_S, .TU_LOCAL, .TU_FREQ, .TU_REMAIN, .TU_SLEW_CFG, .TU_TICK_CFG, .TU_PPS_CFG, .TU_TRIM,
   .TU_TC_MISS_CNT, .LM_HRX_BASE, .LM_HRX_SIZE, .LM_HRX_CONS, .LM_INT_CFG, .LM_HRX_PROD, .JNL_STATUS, .JNL_SLOTS]

/-- The state with the fields of one register that its reset loses at their reset values. -/
def State.resetReg (s : State) (r : Row) (i j : Nat) : State :=
  (r.fields i j).foldl (fun s e => if r.keep.loses e.2 then s.rst e.1 else s) s

/-- The first indexes of a row that island n holds alone, or that go with it when no partner is in Run. -/
def State.rowHeld (s : State) (n : Nat) (r : Row) : Nat → Bool :=
  match r.owner with
  | .island m => fun _ => m == n
  | .tree => fun i => treeIsl i == n
  | .slice => fun i => 13 + i == n
  | .slices => fun _ => decide (13 ≤ n ∧ n ≤ 16) && !([13, 14, 15, 16].any s.up)
  | .journals => fun _ => decide (n = 18 ∨ n = 19) && !([18, 19].any s.up)
  | _ => fun _ => false

/-- A latch stays through a reset of island n: the reset does not govern its pair (R522). -/
def State.latchStays (s : State) (n k : Nat) : Bool :=
  match findReg (k / 16) with
  | some h => keptRegs.contains h.row.name || !s.rowHeld n h.row h.i
  | none => true

/-- The registers of an island, and the latches of their pairs, as its reset leaves them (R10, R522). -/
def State.resetRegs (s : State) (n : Nat) : State :=
  let s1 : State := { s with
    latch := s.latch.filter fun e => s.latchStays n e.1, todLatch := s.todLatch.filter fun e => s.latchStays n e.1 }
  regRows.foldl (fun s r =>
    if keptRegs.contains r.name then s
    else
      ((List.range r.n1).filter (s.rowHeld n r)).foldl (fun s i =>
        (List.range r.n2).foldl (fun s j => s.resetReg r i j) s) s) s1

/-- GRANT loses its maps that are not sealed and the AGR store; Fallback Maps are serialised until it seals again (R167, R90). The Mirror
takes its state from the first snapshot after Rejoin (R187). -/
def State.grantLost (s : State) : State :=
  let gone (m : GMap) : Bool := match m.stage with | .building | .built | .honoured => true | _ => false
  let s1 := (s.ge.maps.filter gone).foldl (fun s m => (s.unbuild m).askAgain m (m.cals.map (·.1))) s
  { s1 with
    ge := { s1.ge with maps := s1.ge.maps.filter fun m => !gone m, agr := [], late := [], agrIn := [], digest := 0 }
    mir := { s1.mir with copy := {}, maps := [], takeAll := true, resync := [], ready := [] } }

/-- What a slice loses (R38, R261, R267, R315): its frames that are not accepted are refused with cause 0x0A, those still in staging
apart, which wait at their crossing; its staging buffers are lost, and with no slice in Run the generation state is that of reset. -/
def State.sliceLost (s : State) (n : Nat) : State :=
  let s1 := (s.pr.frames.filter fun f => f.slice == n - 13 && decide (f.stage ≠ .staging)).foldl (fun s f => s.refuseFrame f 0xA) s
  let s2 : State := { s1 with
    pr := { s1.pr with staged := s1.pr.staged.filter fun e => e.1 % 4 != n - 13 } }
  if [13, 14, 15, 16].any s2.up then s2.genCheck
  else { s2 with pr := { s2.pr with kprofAct := [], hprofAct := [], seedAct := 0xFFFFFFFF, pairLo := [] }, sch := { s2.sch with staged := [] } }

/-- What SHELF loses (R288, R315, R322): frames that are not accepted and hold slots or buffers are refused with cause 0x0B, the
hold cache and every lock are gone, and a command running ends with RETRY. -/
def State.shelfLost (s : State) : State :=
  let s1 := (s.pr.frames.filter fun f => f.slot.isSome || f.second || decide (f.stage = .token ∨ f.stage = .spill ∨ f.stage = .commit)).foldl
    (fun s f => s.refuseFrame f 0xB) s
  let s2 := (s1.fwdEntries.filter fun i => bit1 (s1.fwdWord i 0) 60).foldl (fun s i => s.fwdSet i 0 60 1 0) s1
  State.genCheck { s2.fwdRetry with fwd := { s2.fwdRetry.fwd with hold := [], ghosts := [], spent := [] } }

/-- What an island loses beside its registers while reset is held. -/
def State.islandLost (s : State) (n : Nat) : State :=
  if 2 ≤ n ∧ n ≤ 9 then
    [0, 1, 2, 3].foldl (fun s i =>
      let t := 4 * (n - 2) + i
      let s1 := s.modTree t fun x => { x with reasm := [] }
      { s1 with fallback := mmod t {} (fun f => { f with sent := 0, omitted := 0 }) s1.fallback }) s
  else if n = 10 then s.grantLost
  else if n = 11 then { s with mir := { s.mir with
      copy := {}, maps := [], takeAll := true, checkDue := false, checking := false, forced := false, geDone := false, resync := [], ready := [] } }
  else if n = 12 then { s with bc := { s.bc with reqs := [] } }
  else if 13 ≤ n ∧ n ≤ 16 then s.sliceLost n
  else if n = 17 then s.shelfLost
  else if n = 20 then State.keyWipe { s with kv := { s.kv with cmds := [], started := false } }
  else if n = 21 then
    { s with tu := { s.tu with ppsMsgDue := false, todSent := [], todRx := [], txts := [], todReqTarget := none, absPending := none } }
  else if n = 22 then { s with frer := s.frer.map fun e => (e.1, { e.2 with take := true, recovSeq := 0, history := [] }) }
  else if n = 23 then
    { s with link := { s.link with
        rxq := [], unacked := [], txq := [], txAvail := [], inits := [], credOut := [], swap := .none, swapWaiting := [],
        markerCount := 0, frameNo := 0, replays := 0, naked := false, sendInit := false, spareMarkers := 0, line := {}, caught := none } }
  else if 24 ≤ n then { s with shm := { s.shm with arb := mdel (n - 24) s.shm.arb } }
  else s

/-- Reset is held (R36): registers and the state of the island return to what its reset leaves. -/
def State.assertIsland (s : State) (n : Nat) : State :=
  let c0 := s.get MIR_STATUS.core0
  let c1 := s.get MIR_STATUS.core1
  let s0 := if n = 23 then s.linkDrop else s
  let s1 := (s0.islandLost n).resetRegs n
  if n = 11 then ((((s1.put MIR_STATUS.core0 c0).put MIR_STATUS.core1 c1).put MIR_STATUS.unmirrored (if s1.mir.retired = 3 then 1 else 0)).put
      MIR_PRIV.trees s1.struct.privTrees.toNat).mirGap
  else if n = 20 then s1.set1 KV_EVENT.zeroised
  else s1

/-! ## Restore and Rejoin -/

/-- The island that holds a retention bank (R483), the configuration bank apart. -/
def bankIslands (b : Nat) : List Nat :=
  if b < 128 then [treeIsl (b % 32)]
  else if b < 136 then [12]
  else if b < 140 then [13 + (b - 136)]
  else if b < 150 then [17]
  else if b = 150 then [10]
  else if b < 153 then [13, 14, 15, 16]
  else if b = 153 then [20]
  else if b = 154 then [22]
  else []

/-- Restore ends (R36, R40, R483): the banks of the island that fail their check become Unwritten, and pseudo-channels that do not
leave self-refresh have failed. A Journal copy begins its Copy (R312). -/
def State.restoreIsland (s : State) (n : Nat) (badBanks badPcs : List Nat) : State :=
  let s1 := (badBanks.filter fun b => (bankIslands b).contains n).foldl State.bankFail s
  let s2 := if 24 ≤ n then (badPcs.filter fun p => 24 + p / 32 == n).foldl State.pcFailed s1 else s1
  if n = 18 ∨ n = 19 then
    let b := n == 19
    let s3 := s2.put (if b then JNL_STATUS.copy_b else JNL_STATUS.copy_a) 2
    if s3.inService (!b) then s3.setPhase b .copy else s3
  else s2

/-- The bucket of a port restarts at 0 (R352). -/
def State.zeroBucket (s : State) (k : Nat) : State :=
  match mget k s.sch.buckets with
  | some b => s.setBucket k { b with bal := 0 }
  | none => s

/-- A tree after the Rejoin of its island (R93, R142, R186, R315, R352). A ranging window that is on the fibre has been missed, and its terminal
waits for a new one; a quiet window whose map was withdrawn is placed again. -/
def State.treeBack (s : State) (t : Nat) : State :=
  let s1 := (((s.applyLogs t).zeroBucket (portBucket t)).gateRefresh t).rebuildFallback t
  let lost (w : Window) : Bool := w.onu.isSome && (w.serialised || decide (w.mapK ≤ s.ge.k))
  let s2 := ((s1.windowsOf t).filter lost).foldl (fun s w => match w.onu with | some o => s.placeAgain t o | none => s) s1
  let s2 := s2.setWindows t ((s2.windowsOf t).map fun w => if lost w then { w with onu := none, silent := true } else w)
  let s3 := if (s2.tree t).quietDue then (s2.modTree t fun x => { x with quietDue := false }).placeQuiet t else s2
  if (s3.tree t).darkDeferred then (s3.modTree t fun x => { x with darkDeferred := false }).darkRequest t else s3

/-- The island of the slice that a deficit belongs to (R330, R351). -/
def State.drrIsl (s : State) (k : Nat) : Nat :=
  let grp := k / 4 / 65536
  match k % 4 with
  | 0 => 13 + k / 4 % 65536
  | 1 => 13 + grp % 4
  | _ => 13 + nodeSlice (s.node (grp % 16384))

/-- A slice after Rejoin (R351): buckets and deficits restart at 0, and launch times are not kept, so frames of launch flows are
eligible at once and judged late (R345). -/
def State.sliceBack (s : State) (n : Nat) : State :=
  let sl := n - 13
  let own (f : Nat) : Bool := s.flowSlice f == sl
  let mine (k : Nat) : Bool := decide (k < 131072) && decide (s.bucketIsl k = n)
  let s1 := (s.sch.buckets.map (·.1)).foldl (fun a k => if mine k then a.zeroBucket k else a) s
  let late (h : Held) : Held := if own h.flow then { h with launchAt := h.launchAt.map fun _ => 0, launchDue := true } else h
  { s1 with sch := { s1.sch with
      deficit := s1.sch.deficit.filter fun e => decide (s1.drrIsl e.1 ≠ n)
      held := s1.sch.held.map fun e => (e.1, late e.2) } }

/-- A recovery scan reads the records of the accepted frames that a test picks, in seq order; each is checked, and a frame whose
record no copy in service holds is lost (R313, R315). -/
def State.scanRecords (s : State) (p : Held → Bool) : State :=
  if !s.jnlUp then s
  else
    (s.sch.held.filter fun e => p e.2).foldl (fun s e =>
      let s1 := (s.recRead e.1).checkRec e.1
      match s1.record e.1 with
      | some _ => s1
      | none => s1.lose e.2) s

/-- What Rejoin rebuilds in an island (R315). -/
def State.rejoinIsland (s : State) (n : Nat) : State :=
  if 2 ≤ n ∧ n ≤ 9 then [0, 1, 2, 3].foldl (fun s i => s.treeBack (4 * (n - 2) + i)) s
  else if n = 11 then { s with mir := { s.mir with failed := false } }
  else if n = 12 then s.raiseReqs
  else if 13 ≤ n ∧ n ≤ 16 then (s.scanRecords fun h => s.flowSlice h.flow == n - 13).sliceBack n
  else if n = 17 then (s.scanRecords fun _ => true).sweepIf {}
  else if n = 18 ∨ n = 19 then s.soloReturn (n == 19)
  else if n = 22 then [32, 33, 34, 35].foldl (fun s q => ((s.applyLogs q).zeroBucket (portBucket q)).gateRefresh q) s
  else s

/-! ## Failed (R37, R502) -/

/-- The accepted frames that a loss leaves with no path are discarded and counted (R502). -/
def State.loseHeld (s : State) (p : Held → Bool) : State :=
  (s.sch.held.filter fun e => p e.2).foldl (fun s e => s.lose e.2) s

/-- A frame leads to an uplink. -/
def State.toUplink (s : State) (h : Held) : Bool :=
  match s.flowPart h.flow with
  | some p => p.kind == 1
  | none => false

/-- What the device loses with a Failed island (R37, R502). -/
def State.failLoss (s : State) (n : Nat) : State :=
  if 2 ≤ n ∧ n ≤ 9 then
    [0, 1, 2, 3].foldl (fun s i =>
      let t := 4 * (n - 2) + i
      if s.treeState t ≤ 1 then s else (s.goDark t).modTree t fun x => { x with laserOn := false, darkDeferred := false }) s
  else if n = 11 then State.set1 { s with mir := { s.mir with failed := true } } MIR_EVENT.unmirrored
  else if 13 ≤ n ∧ n ≤ 16 then s.loseHeld fun h => s.flowSlice h.flow == n - 13
  else if n = 17 then s.loseHeld fun _ => true
  else if n = 18 ∨ n = 19 then s.copyOut (n == 19) true
  else if n = 22 then
    let s1 := [0, 1, 2, 3].foldl (fun s p => if s.on (UL_PORT_STATUS.link p) then s.declareDown p else s) s
    s1.loseHeld s1.toUplink
  else if n = 23 then s.linkDrop.setBit WP_ALERT.sources 1
  else if 24 ≤ n then
    -- Both copies have rows in every stack, so neither region can be written (R312; DEDUCED, log 123).
    let s1 := (List.range 32).foldl (fun s p => s.pcFailed (32 * (n - 24) + p)) s
    [false, true].foldl (fun s b => if s.inService b then s.copyOut b false else s) s1
  else s

/-- An island is Failed (R37). -/
def State.failIsland (s : State) (n : Nat) : State :=
  let s1 := ((s.put (MGT_ISLAND_STATE.island n) 3).clrBit MGT_ISLAND_RST.req (n - 1)).setBit MGT_ISLAND_FAILED.failed (n - 1)
  let s2 := (s1.modIsl n fun x => { x with step := .none, retried := false, off := false, gateReq := false, gateWaits := false }).tlog 0x02 .mgt n
  s2.failLoss n

end Sys2Proof.Machine
end

