-- ==== Sys2Proof/Machine/ClockOps.lean ====
section
/-! DEFINITION. Island dividers and their ramps (R457, R458, R464), and islands that leave Off or return to it (R36, R38, R49). -/

namespace Sys2Proof.Machine

/-- The compute islands, clocked by the CPLL (R457). -/
def computeIsl (n : Nat) : Bool := Config.islandFeed n == 2

/-- The islands clocked by the SPLL through a fixed divider (R457). -/
def fixedIsl (n : Nat) : Bool := Config.islandFeed n == 1

/-- The fixed divider of an island (R457, CLK_ISL_STATUS_n). -/
def fixedDiv (n : Nat) : Nat := if n = 21 then 25 else if fixedIsl n then 16 else 0

/-- D of a compute island (R458): the smallest integer for which 88 GHz / D does not exceed the island's frequency. -/
def State.divTarget (s : State) (n : Nat) : Nat :=
  let f := mgetD n 0 s.struct.clockKhz
  ceilDiv 88000000 (if f = 0 then nominalKhz n else f)

/-- An island's divider ramps to a value (R464). -/
def State.rampTo (s : State) (n d : Nat) : State :=
  if s.get (CLK_ISL_STATUS.div n) = d then
    { s.put (CLK_ISL_STATUS.ramping n) 0 with clk := { s.clk with target := mdel n s.clk.target } }
  else { s.put (CLK_ISL_STATUS.ramping n) 1 with clk := { s.clk with target := mset n d s.clk.target } }

/-- The clock of an island that leaves Off (R464): a compute island starts at 2 D and ramps down to D. -/
def State.clockOn (s : State) (n : Nat) : State :=
  if computeIsl n then (s.put (CLK_ISL_STATUS.div n) (2 * s.divTarget n)).rampTo n (s.divTarget n)
  else s.put (CLK_ISL_STATUS.div n) (fixedDiv n)

/-- An island leaves Off for Run (R69, R486, R489). -/
def State.leaveOff (s : State) (n : Nat) : State :=
  if s.isOff n then
    ((s.put (MGT_ISLAND_STATE.island n) 0).modIsl n fun i => { i with off := false }).clockOn n
  else s

/-- An island is in Off: its reset and gate sequences are over. -/
def State.setOff (s : State) (n : Nat) : State :=
  let s1 := ((s.put (MGT_ISLAND_STATE.island n) 3).clrBit MGT_ISLAND_RST.req (n - 1)).put (CLK_ISL_STATUS.ramping n) 0
  let s2 : State := { s1 with islands := mdel n s1.islands, clk := { s1.clk with target := mdel n s1.clk.target } }
  s2.put (CLK_ISL_STATUS.div n) 0

/-- The islands that a structure builds (R47, R49). -/
def structIslands : List Nat := (List.range 22).map (· + 1) ++ [24, 25, 26, 27]

/-- The time keeper stops with its island's clock (R400). -/
def State.timeStop (s : State) : State := { s with tu := { s.tu with running := false } }

/-- The time keeper starts again (R400): the local count restarts at 0, the time is not set, ticks are not aligned, and the step is
armed. -/
def State.timeStart (s : State) : State :=
  let s1 := ((s.put TU_STATUS.time_set 0).put TU_STATUS.tick_aligned 0).put TU_STATUS.step_armed 1
  { s1 with
    tu := { s1.tu with running := true, count := 0, todOff := 0, rem := 0, base := 0, absPending := none }
    ge := { s1.ge with k := 0, tickNs := 0, begun := 0 } }

end Sys2Proof.Machine
end

