-- ==== Sys2Proof/Machine/RelOps.lean ====
section
/-! DEFINITION. Parts and their spares, class by class (R505 to R508): what a failure takes out of service, what bringing in a spare
does, and what is lost when none is left. -/

namespace Sys2Proof.Machine

/-! ## Shedding (R479) -/

/-- A tree is shed: a Dark request. A tree on its way from Dark to Lit goes back to Dark. -/
def State.shedTree (s : State) (t : Nat) : State :=
  let s1 := (s.inc PWR_SHED_CNT.count).set1 PWR_EVENT.shed
  if s1.treeState t = 5 then
    ((s1.put (TE_STATUS.state t) 1).put (TE_CTRL.state_req t) 0).modTree t (fun x => { x with step := .none, powerRetried := false }) |>.dropPower t |>.judgeTrees
  else s1.darkRequest t

/-- While est exceeds the cap, trees are shed in the order of the SHED Drawer (R479). -/
def State.shed (s : State) : State :=
  s.struct.shed.foldl (fun s t =>
    if s.cap < s.est ∧ s.treeState t ≠ 0 ∧ s.treeState t ≠ 1 ∧ s.treeState t ≠ 6 then s.shedTree t else s) s

/-! ## Mirror cores, class 0x5 (R180, R184) -/

/-- The record of a Mirror core in MIR_STATUS: 0 in service, 1 spare, 2 loading, 3 retired. -/
def mirCore (c : Nat) : Fld := if c = 0 then MIR_STATUS.core0 else MIR_STATUS.core1

/-- MIR_STATUS.gap and unmirrored follow the cores (R182, R184). -/
def State.mirState (s : State) : State :=
  let un := s.unmirrored
  let s1 := if un && !s.on MIR_STATUS.unmirrored then s.set1 MIR_EVENT.unmirrored else s
  (s1.put MIR_STATUS.unmirrored (if un then 1 else 0)).mirGap

/-- A Mirror core is retired at once (R180). -/
def State.mirRetire (s : State) (c : Nat) : State :=
  let s1 := ((s.put (mirCore c) 3).set1 MIR_EVENT.core_retired).retire 5 c
  { s1 with mir := { s1.mir with
      retired := s1.mir.retired ||| BitVec.ofNat 2 (1 <<< c), loading := if s1.mir.loading = some c then none else s1.mir.loading } }

/-- The spare Mirror core, if there is one. -/
def State.mirSpare (s : State) : Option Nat := [0, 1].find? fun c => s.get (mirCore c) == 1

/-- The spare Mirror core is loaded (R180). -/
def State.mirLoad (s : State) (old : Nat) : State :=
  match s.mirSpare with
  | none => s
  | some c =>
    let s1 := ((s.takeSpare 5).swapDone 5 old c).put (mirCore c) 2
    { s1 with mir := { s1.mir with loading := some c } }

/-! ## The classes -/

/-- The physical bank of a part index, as the logical bank it serves (R286). -/
def State.bankOf (s : State) (p : Nat) : Option Nat := (List.range 8).find? fun k => s.get (FWD_BANK_MAP.phys k) == p

/-- A part is in service (R507). -/
def State.partServes (s : State) (c part : Nat) : Bool :=
  match c with
  | 1 => decide (part < 64) && s.on (REL_SLICE_MAP.bound (part / 32) (part % 32)) && !s.rel.failed.contains (1, part) &&
      !(s.rel.swaps.any fun w => w.lane == part)
  | 2 => decide (part < 1024) && !s.isRetired 2 part
  | 3 => decide (part < 128) && !bit1 (s.get (SHM_PC_FAILED.map (part / 32))) (part % 32)
  | 4 => decide (part < 10) && (s.get (POL_CORE.state part) == 0 || s.get (POL_CORE.state part) == 2)
  | 5 => decide (part < 2) && s.get (mirCore part) == 0
  | 6 => decide (part < 9) && (s.bankOf part).isSome && !s.isRetired 6 part
  | 7 => decide (part < 24) && s.get (REL_WEAR.state part) == 0
  | 8 => decide (part % 8 < 5) && decide (part < 16) && !s.isRetired 8 part
  | _ => false

/-- The spare of a class that a part can have (R507). -/
def State.spareFor (s : State) (c part : Nat) : Bool :=
  match c with
  | 1 => (s.freeSlice (part / 32)).isSome
  | 2 => decide ((s.rel.retired.filter fun e => e.1 / 32 == (2 * 4096 + part) / 32 && e.1 != 2 * 4096 + part).length < 2)
  | 3 => true
  | 4 => (List.range 10).any fun k => s.get (POL_CORE.state k) == 1
  | 5 => s.mirSpare.isSome
  | 6 => s.fwd.spareBank.isSome
  | 7 => (List.range 24).any fun k => s.get (REL_WEAR.state k) == 1
  | 8 => if part < 8 then s.get LM_TX_MAP.spare != 7 else s.get LM_RX_MAP.spare != 7
  | _ => false

/-- The loss of a part stands. -/
def State.markFailed (s : State) (c part : Nat) : State :=
  { s with rel := { s.rel with failed := (c, part) :: s.rel.failed.filter (· != (c, part)) } }

/-- The loss of a part stands no longer; of a slice, only when its lane has switched (R508). -/
def State.unfail (s : State) (c part : Nat) : State :=
  if c = 1 then s else { s with rel := { s.rel with failed := s.rel.failed.filter (· != (c, part)) } }

/-- A slice's lane is left with no spare (R408, R507): an uplink port steps down, a tree goes Dark. -/
def State.sliceLoss (s : State) (lane : Nat) : State :=
  let s1 := s.put (REL_SLICE_MAP.bound (lane / 32) (lane % 32)) 0
  if lane % 32 < 16 then s1.darkRequest (lane / 32 * 16 + lane % 32)
  else match s1.lanePortOf lane with
    | some p => s1.stepPort p s1.hasSlice
    | none => s1

/-- A physical forwarding bank goes out of service with no spare, or until one comes in (R287, R505); its words stay for the copy of a
later spare (R286). -/
def State.bankLoss (s : State) (p : Nat) : State :=
  match s.bankOf p with
  | none => s
  | some k => (s.setBit FWD_STATUS.banks_out k).set1 FWD_EVENT.bank_out

/-- A converter phase leaves service (R476, R477). -/
def State.phaseOut (s : State) (k : Nat) : State :=
  (((s.put (REL_WEAR.state k) 2).setBit PWR_PHASE.retired k).put PWR_PHASE.in_service (s.get PWR_PHASE.in_service - 1)).set1
    PWR_EVENT.phase_lost

/-- The next core of a firmware load restarts, or the load ends (R510, R526). -/
def State.fwNext (s : State) : State :=
  match s.rel.fwTurn.dropWhile fun c => s.get (POL_CORE.state c) != 0 with
  | c :: r => { s.put (POL_CORE.state c) 2 with rel := { s.rel with fwTurn := c :: r } }
  | [] => { (s.put POL_FW_STATUS.busy 0).set1 MGT_INT_AUX.fw_load_done with rel := { s.rel with fwTurn := [], fwLoading := false } }

/-- A core is retired (R509); a firmware load that was restarting it goes on to the next core. -/
def State.coreOut (s : State) (c : Nat) : State :=
  let s1 := (s.put (POL_CORE.state c) 3).retire 4 c
  if s1.rel.fwLoading ∧ s1.rel.fwTurn.head? = some c then
    State.fwNext { s1 with rel := { s1.rel with fwTurn := s1.rel.fwTurn.drop 1 } }
  else s1

/-- A spare core loads the image and replaces a retired one (R509). -/
def State.coreJoin (s : State) (old : Nat) : State :=
  match (List.range 10).find? fun k => s.get (POL_CORE.state k) == 1 with
  | some k => ((s.takeSpare 4).swapDone 4 old k).put (POL_CORE.state k) 2
  | none => s

/-- A spare phase joins the loop (R507). -/
def State.phaseJoin (s : State) (old : Nat) : State :=
  match (List.range 24).find? fun k => s.get (REL_WEAR.state k) == 1 with
  | some k =>
    ((((s.takeSpare 7).swapDone 7 old k).put (REL_WEAR.state k) 0).put PWR_PHASE.in_service (s.get PWR_PHASE.in_service + 1)).judgeTrees
  | none => s

/-- The lanes that the two slices of a die-to-die group serve. The spec does not say which two: slices 2g and 2g + 1 (DESIGN
CHOICE, log 50). -/
def State.groupLanes (s : State) (g : Nat) : List Nat :=
  let c := g / 16
  ((List.range 32).filter fun j => s.on (REL_SLICE_MAP.bound c j) && s.get (REL_SLICE_MAP.slice c j) / 2 == g % 16).map (32 * c + ·)

/-- A spare of a class takes the place of a part that is in service or has failed (R507). -/
def State.bringIn (s : State) (c part : Nat) : State :=
  match c with
  | 1 => match s.freeSlice (part / 32) with
    | some sl => s.beginSlice part sl (s.rel.failed.contains (1, part))
    | none => s
  | 2 => ((s.retire 2 part).takeSpare 2).swapDone 2 part part
  | 3 => s.pcFailed part
  | 4 => (s.coreOut part).coreJoin part
  | 5 => (if s.get (mirCore part) = 0 then s.mirRetire part else s).mirLoad part |>.mirState
  | 6 => match s.bankOf part, s.fwd.spareBank with
    | some k, some sp =>
      let s := s.clrBit FWD_STATUS.banks_out k
      let s0 := (((s.retire 6 part).takeSpare 6).swapDone 6 part sp).put FWD_STATUS.swap_active 1
      let s1 := (s0.put (REL_WEAR.state (364 + part)) 2).put (REL_WEAR.state (364 + sp)) 0
      { s1 with fwd := { s1.fwd with
          copy := some (k, sp), spareBank := none, copyLost := s.bankUnreadable k } }
    | _, _ => s
  | 7 => ((if s.get (REL_WEAR.state part) = 0 then s.phaseOut part else s).retire 7 part).phaseJoin part
  | 8 =>
    if part < 8 ∧ (s.txLogical part).isNone then ((s.retire 8 part).takeSpare 8).swapLane part
    else if part < 8 then ((((s.retire 8 part).takeSpare 8).swapDone 8 part (s.get LM_TX_MAP.spare)).swapLane part)
    else ((((s.retire 8 part).takeSpare 8).swapDone 8 part (s.get LM_RX_MAP.spare)).setBit LM_RX_MAP.retired (part - 8)).notice 2 (part - 8)
  | _ => s

/-- A spare is brought in now, or after Release where Apply runs (R75, R511). The Degrade step of a pseudo-channel begins at once, and
its Rebuild ends after Release (DEDUCED, log 155). -/
def State.bringInOrDefer (s : State) (c part : Nat) : State :=
  if s.sil.step = .apply ∧ c ≠ 3 then
    { s with sil := { s.sil with deferredSwaps := s.sil.deferredSwaps ++ [(c, part)] } }
  else (s.unfail c part).bringIn c part

/-- The slice swap of a lane that failed after its Switch step ends, its spare being what has failed. -/
def State.upstreamOver (s : State) (lane : Nat) : State :=
  { s with rel := { s.rel with swaps := s.rel.swaps.filter fun w => !(w.lane == lane && decide (w.step = .upstream)) } }

/-- A slice is declared failed (R505, R507, R508): it is retired and its lane carries nothing. A swap under way for its wear goes on as
one for a failure (R512); otherwise the swap mode of class 0x1 decides. -/
def State.failSlice (s : State) (lane : Nat) : State :=
  let s0 := s.upstreamOver lane
  let out := (s0.retireSlice (lane / 32) (s0.get (REL_SLICE_MAP.slice (lane / 32) (lane % 32)))).markFailed 1 lane
  if s0.rel.swaps.any (fun w => w.lane == lane) then
    { out with rel := { out.rel with swaps := out.rel.swaps.map fun w => if w.lane = lane then { w with failed := true } else w } }
  else if !s0.partServes 1 lane then s
  else if !out.spareFor 1 lane then ((out.set1 REL_EVENT.exhausted).spareLoss 1 lane).sliceLoss lane
  else match s.swapMode 1 with
    | 1 => out.bringInOrDefer 1 lane
    | m => ((if m = 2 then out.askSwap 1 lane else out).spareLoss 1 lane).sliceLoss lane

/-- The two slices of a die-to-die group fail (R507): those that serve a lane as a failure of class 0x1, the others are retired. -/
def State.failGroup (s : State) (g : Nat) : State :=
  let c := g / 16
  let s1 := (s.groupLanes g).foldl State.failSlice s
  [2 * (g % 16), 2 * (g % 16) + 1].foldl (fun s sl => if s.get (REL_WEAR.state (24 + slicePart c sl)) = 2 then s else s.retireSlice c sl) s1

/-- What the loss of a part costs while no spare is in its place (R507, "None left"). -/
def State.lossOf (s : State) (c part : Nat) : State :=
  match c with
  | 1 => s.sliceLoss part
  | 2 => s.failGroup (part / 32)
  | 6 => s.bankLoss part
  | 7 => s.shed
  | 8 => if part < 8 then s.swapLane part else s.notice 2 (part - 8)
  | _ => s

/-- A failed part leaves service at once (R505). -/
def State.partOut (s : State) (c part : Nat) : State :=
  match c with
  | 1 => (s.retireSlice (part / 32) (s.get (REL_SLICE_MAP.slice (part / 32) (part % 32)))).markFailed 1 part
  | 2 => s.retire 2 part
  | 4 => s.coreOut part
  | 5 => s.mirRetire part
  | 7 => (s.phaseOut part).retire 7 part
  | 8 => if part < 8 then s.retire 8 part else (s.retire 8 part).setBit LM_RX_MAP.retired (part - 8)
  | _ => s

/-- A substitution that Apply deferred is carried out after Release (R75); where another has taken the last spare meanwhile the loss of
R507 stands. -/
def State.deferredIn (s : State) (c part : Nat) : State :=
  if s.spareFor c part then
    let s1 := (s.unfail c part).bringIn c part
    { s1 with rel := { s1.rel with goSwap := s.rel.goSwap } }
  else (((s.markFailed c part).set1 REL_EVENT.exhausted).spareLoss c part).lossOf c part |>.mirState

/-- A part is declared failed (R505 to R507): it leaves service, and the mode of its class decides whether the spare comes in;
classes 0x2, 0x3, 0x7 and 0x8 bring it in at once under every mode. Until a spare comes in the loss stands and is logged; while Apply
defers the spare, a bank is out of service and a phase is missing, and the other parts carry nothing (DEDUCED, log 155). -/
def State.failPart (s : State) (c part : Nat) : State :=
  if c = 1 then s.failSlice part
  else if !s.partServes c part then s
  else
    let mode := if c = 2 ∨ c = 3 ∨ c = 7 ∨ c = 8 then 1 else s.swapMode c
    let s1 := s.partOut c part
    if !s1.spareFor c part then ((((s1.markFailed c part).set1 REL_EVENT.exhausted).spareLoss c part).lossOf c part).mirState
    else if mode = 1 then
      let s2 := s1.bringInOrDefer c part
      (if s.sil.step = .apply ∧ (c = 6 ∨ c = 7) then ((s2.markFailed c part).spareLoss c part).lossOf c part else s2).mirState
    else
      let s2 := if mode = 2 then s1.askSwap c part else s1
      (((s2.markFailed c part).spareLoss c part).lossOf c part).mirState

/-- A part serves a privileged tree or flow (R506): a slice by its lane, a die-to-die lane by the lanes of its group, and a Mirror
core. -/
def State.servesPriv (s : State) (c part : Nat) : Bool :=
  let flow (k x : Nat) : Bool := s.struct.flows.any fun e => e.privileged && e.kind == k &&
    (if k = 0 then e.target % 32 == x else e.target % 4 == x || e.target % 4 ^^^ 2 == x)
  let lane (l : Nat) : Bool :=
    let t := l / 32 * 16 + l % 32
    if l % 32 < 16 then s.privTree t || flow 0 t else match s.lanePortOf l with
      | some p => flow 1 p
      | none => false
  match c with
  | 1 => lane part
  | 2 => (s.groupLanes (part / 32)).any lane
  | 5 => true
  | _ => false

/-- Parts of the order in which spares go to them in one cycle (R506): those that serve a privileged tree or flow first, and then by
class and part index. -/
def State.partOrder (s : State) (l : List (Nat × Nat)) : List (Nat × Nat) :=
  let key (e : Nat × Nat) : Nat := (if s.servesPriv e.1 e.2 then 0 else 65536) + e.1 * 4096 + e.2
  l.mergeSort fun a b => decide (key a ≤ key b)

/-- Parts are declared failed in one cycle (R505, R506). -/
def State.partsFail (s : State) (l : List (Nat × Nat)) : State := (s.partOrder l).foldl (fun s e => s.failPart e.1 e.2) s

/-- The forwarding banks among retention banks that failed their check have failed (R483, R507). -/
def State.banksFail (s : State) (bad : List Nat) : State :=
  s.partsFail ((bad.filter fun b => decide (140 ≤ b) && decide (b ≤ 148)).map fun b => (6, b - 140))

/-- A part reaches its wear threshold (R503, R505); class 0xF stands for the SRAM banks that have no spare. -/
def State.wornPart (s : State) (c part : Nat) : State :=
  let s1 := (s.set1 REL_EVENT.wear).tlog 0x07 .rel (c + part % 4096 * 16)
  if c = 0 ∨ 8 < c ∨ !s1.partServes c part ∨ !s1.spareFor c part ∨ (c = 3 ∧ (s1.dataSegs part).any fun e => s1.setSpent e.1) then s1
  else match s1.swapMode c with
    | 1 => s1.bringInOrDefer c part
    | 2 => s1.askSwap c part
    | _ => s1

/-- Host software brings in a spare for a part in service, or for a failed one that waits (R505). -/
def State.swapPart (s : State) (c part : Nat) : State :=
  let waits := s.rel.failed.contains (c, part) && !(c == 1 && s.rel.swaps.any fun w => w.lane == part)
  if (s.partServes c part || waits) && s.spareFor c part then
    let s1 := if s.on (REL_SPARE.pending (c - 1)) ∧ s.get (REL_SPARE.pending_part (c - 1)) = part then s.clearPending c else s
    State.bringInOrDefer { s1 with rel := { s1.rel with asking := s1.rel.asking.filter (· != (c, part)) } } c part
  else s

/-- The pending swap of a class is approved (R505). -/
def State.approveSwap (s : State) (c : Nat) : State :=
  if c = 0 ∨ 8 < c ∨ !s.on (REL_SPARE.pending (c - 1)) then s
  else
    let part := s.get (REL_SPARE.pending_part (c - 1))
    let s1 := s.clearPending c
    if s1.spareFor c part then s1.bringInOrDefer c part else s1

end Sys2Proof.Machine
end

