-- ==== Sys2Proof/Machine/Structure.lean ====
section
/-! DEFINITION. The Structure Image loader: the load sequence, Apply and Release, unstructuring, fuses and the staging window (R47 to
R49, R67 to R77). -/

namespace Sys2Proof.Machine

/-! ## Unstructured (R47, R49) -/

/-- Islands go Off: what their resets lose is lost, registers included (DEDUCED, log 53). -/
def State.islandsOff (s : State) (ns : List Nat) : State :=
  let s1 := ns.foldl State.setOff s
  ns.foldl (fun s n => (s.islandLost n).resetRegs n) s1

/-- Islands 1 to 22 and 24 to 27 return to Off, and with them all that they hold (R49). Frames that no Journal record holds are gone
with them, so every cut under way ends (R297); failed pseudo-channels, spent sets and retired Mirror cores stay. -/
def State.buildingOff (s0 : State) : State :=
  let s := s0.shm.cuts.foldl (fun s e => s.repoint e.1) s0
  let s1 := (s.islandsOff structIslands).timeStop
  let s2 := (List.range 32).foldl (fun s t => (s.put (TE_STATUS.state t) 0).put (TE_CTRL.state_req t) 0) s1
  let s3 := (((s2.put JNL_SLOTS.slots 0).rst JNL_STATUS.none).rst JNL_STATUS.copy_a).rst JNL_STATUS.copy_b
  { s3 with
    sil := { s3.sil with running := {} }
    trees := [], terms := [], windows := [], allocs := [], fallback := [], frer := [], rx := []
    ge := { k := s3.ge.k, tickNs := s3.ge.tickNs }
    mir := { retired := s3.mir.retired }
    bc := {}
    pr := { nextId := s3.pr.nextId }
    fwd := { retiredBanks := s3.fwd.retiredBanks, spareBank := s3.fwd.spareBank }
    jnl := {}
    shm := {
      lostSegs := s3.shm.lostSegs, repointed := s3.shm.repointed, relocated := s3.shm.relocated, fresh := s3.shm.fresh
      rebuilding := s3.shm.rebuilding, arb := s3.shm.arb }
    sch := {}
    pwr := { s3.pwr with waiting := [], granted := [] } }

/-- A Structured device is unstructured (R49): accepted frames still held are discarded and counted, and keys are overwritten. -/
def State.unstructure (s : State) : State :=
  let s1 := s.incBy SIL_UNSTRUCT_DISCARD.count s.sch.held.length
  let s2 := (s1.keyWipe.buildingOff).put SIL_STATUS.state 0
  (List.range 12).foldl (fun s k => s.put (SIL_IMAGE_HASH.hash k) 0) s2

/-! ## The end of a load -/

/-- The requests that a load held are carried out as it ends (R73, R74, R75, R77). A held install waits for this end as R74 has it,
not for its tenant's swap as R70 has it (DESIGN CHOICE, log 131). -/
def State.loadFinish (s : State) : State :=
  let held := s.sil.treeHeld.toNat
  let swaps := s.sil.deferredSwaps
  let un := s.sil.unstructPending
  let s1 : State := { s with sil := { s.sil with
    step := .idle, applyRetried := false, unstructPending := false, treeHeld := 0, deferredSwaps := [] } }
  let s2 := (bitList 32 held).foldl State.lightRequest (s1.put SIL_STATUS.busy 0)
  let s3 : State := if (s2.kv.cmds.head?.map (·.held)).getD false then s2.kvComplete else s2
  let s4 : State := ((s3.partOrder swaps).foldl (fun s e => s.deferredIn e.1 e.2) s3).swapNext
  if un ∧ s4.structured then s4.unstructure else s4

/-- A load ends with an error (R68): the state that it found stands again, except that a full load that fails in Apply leaves the
device Unstructured (R69). -/
def State.loadFail (s : State) (e : LoadErr) : State :=
  let s1 := (((s.put SIL_STATUS.error e.code).set1 SIL_EVENT.load_failed).inc SIL_FAIL_CNT.failed).put SIL_STATUS.state
    (if s.sil.wasStructured then 2 else 0)
  let s2 := if e.code = 0x0C then
      ((s1.put SIL_CHECK_FAIL.drawer e.drawer).put SIL_CHECK_FAIL.check e.check).put SIL_CHECK_FAIL.entry e.entry
    else s1
  let s3 := if s.sil.step = .apply ∧ !s.on SIL_STATUS.partial then s2.buildingOff else s2
  s3.loadFinish

/-- A step of the load ends: with an error, or in the next step. -/
def State.loadNext (s : State) (err : Option LoadErr) (next : SilStep) (code : Nat) : State :=
  match err with
  | some e => s.loadFail e
  | none => { s.put SIL_STATUS.step code with sil := { s.sil with step := next } }

/-! ## Apply of a full image (R69, R71) -/

/-- Payload octets per microsecond of a port mode (SCH_PORT_CFG_q). -/
def modeOctPerUs (mode : Nat) : Nat := match mode with | 4 => 100000 | 3 => 50000 | 2 => 25000 | 1 => 12500 | _ => 0

/-- The LANE Drawer is applied to port p; a port with a lane that has lost its slice takes a new lane set (R71, R408). -/
def State.applyPort (s : State) (p : Nat) : State :=
  let e := mgetD p {} s.struct.ports
  let s1 := (((s.put (UL_PORT_STATUS.mode p) e.mode).put (UL_PORT_STATUS.lane_base p) e.base).put
    (UL_PORT_STATUS.out_of_service p) 0).put (SCH_PORT_CFG.oct_per_us (32 + p)) (modeOctPerUs e.mode)
  if (s1.portLanes p).any fun k => !s1.hasSlice k then s1.stepPort p s1.hasSlice else s1

/-- The TREE Drawer is applied to a tree (R99, R100, R120, R125): an enabled tree is Dark. -/
def State.applyTree (s : State) (t : Nat) : State :=
  let e := s.treeEntry t
  let s1 := (s.put (TE_STATUS.state t) (if e.enabled then 1 else 0)).put (TE_TEQ.teq t) (s.nsBits t (s.teqNs t))
  (s1.put (TE_RNG_STATUS.no_discovery t) (if 20 < e.diffReachKm then 1 else 0)).put (SCH_PORT_CFG.oct_per_us t)
    (Config.treeOctPerUs e.mode.toNat).toNat

/-- The PRIV Drawer is applied (R61, R178): the core it names is in service, the other one is the spare, and
the Mirror takes the state of the privileged trees at the next Build begins. -/
def State.applyPriv (s : State) : State :=
  let c := s.struct.mirrorCore % 2
  let state (k : Nat) : Nat := if bit1 s.mir.retired.toNat k then 3 else if k = c then 0 else 1
  let s1 := ((s.put MIR_PRIV.trees s.struct.privTrees.toNat).put (mirCore 0) (state 0)).put (mirCore 1) (state 1)
  State.mirState { s1 with mir := { s1.mir with takeAll := true } }

/-- The SPARE Drawer is applied (R65, R507): of the cores that are not retired, the first active_cores are active. -/
def State.applySpare (s : State) : State :=
  let left := (List.range 10).filter fun k => !s.isRetired 4 k
  let act := left.take s.struct.activeCores
  (List.range 10).foldl (fun s k =>
    if !left.contains k then s.put (POL_CORE.state k) 3
    else if !act.contains k then s.put (POL_CORE.state k) 1
    else if s.get (POL_CORE.state k) = 1 then s.put (POL_CORE.state k) 0
    else s) s

/-- The SHELF Drawer is applied (R59, R293): shelves and the Journal take their regions. -/
def State.applyShelf (s : State) : State :=
  let s1 := (List.range 4).foldl (fun s sh => s.put (SHM_SHELF_CNT.count sh) (s.shelfBuilt sh)) s
  s1.put JNL_SLOTS.slots (s.struct.tableMib * 4096)

/-- A full image is applied in the order of R69, and every island is in Run. -/
def State.applyFull (s : State) : State :=
  let s1 : State := { s with sil := { s.sil with running := s.imgStructure } }
  let s2 := structIslands.foldl State.leaveOff s1
  let s3 := (((s2.applyShelf).put JNL_STATUS.copy_a 0).put JNL_STATUS.copy_b 0).jnlStatus
  let s4 := (([0, 1, 2, 3].foldl State.applyPort s3).timeStart).applyPriv
  ((List.range 32).foldl State.applyTree s4).applySpare

/-! ## Apply of a partial image (R70, R71) -/

/-- A tenant is swapped (R70). -/
def State.swapTenant (s : State) (n : Nat) : State :=
  let s1 := s.setBit SIL_PARTIAL_TENANT.tenants n
  if s.hasDrawer 7 then
    { s1 with sil := { s1.sil with running := { s1.struct with keymode := mset n (s.dKeymode n) s1.struct.keymode } } }
  else s1

/-- A tree is swapped (R70): its TREE, PRIV and ASYM entries, as far as the image carries them. -/
def State.swapTree (s : State) (t : Nat) : State :=
  let x := s.struct
  let x1 : Structure := if s.hasDrawer 1 then { x with trees := mset t (s.dTree t) x.trees } else x
  let b := BitVec.ofNat 32 (1 <<< t)
  let x2 : Structure := if s.hasDrawer 6 then
      { x1 with privTrees := if bit1 (s.dN 6 0 4) t then x1.privTrees ||| b else x1.privTrees &&& ~~~b }
    else x1
  let x3 : Structure := if s.hasDrawer 8 then { x2 with asym := mset t (s.dAsym t) x2.asym } else x2
  let s1 : State := { s.setBit SIL_PARTIAL_DONE.trees t with sil := { s.sil with running := x3 } }
  let s2 := s1.put MIR_PRIV.trees x3.privTrees.toNat
  if s.hasDrawer 1 then s2.applyTree t else s2

/-- The items of a partial image in the order of R70: tenants, trees, then the SHED Drawer. -/
def State.partialItems (s : State) : List (Nat × Nat) :=
  s.imgTenants.map (fun n => (0, n)) ++ s.imgTrees.map (fun t => (1, t)) ++ (if s.hasDrawer 9 then [(2, 0)] else [])

/-- One item is swapped. -/
def State.swapItem (s : State) (e : Nat × Nat) : State :=
  match e.1 with
  | 0 => s.swapTenant e.2
  | 1 => s.swapTree e.2
  | _ => { s with sil := { s.sil with running := { s.struct with shed := (List.range 32).map fun i => s.dN 9 i 1 } } }

/-- An island that Apply writes is being reset (R75). -/
def State.applyWaits (s : State) : Bool :=
  if s.on SIL_STATUS.partial then
    (s.imgTrees.any fun t => s.isl (treeIsl t) == 2 || [10, 11, 21].any fun n => s.isl n == 2) ||
      (!s.imgTenants.isEmpty && s.isl 20 == 2)
  else structIslands.any fun n => s.isl n == 2

/-! ## The commands -/

/-- A write of 1 to SIL_CTRL.load (R68, R76). -/
def State.silLoad (s : State) : State :=
  if s.on SIL_STATUS.busy then s.inc SIL_FAIL_CNT.busy
  else
    let was := s.structured
    let partial_ := !s.imgFull
    let s1 := ((s.put SIL_STATUS.state 1).put SIL_STATUS.busy 1).put SIL_STATUS.step 1
    let s2 := (s1.put SIL_STATUS.error 0).put SIL_STATUS.partial (if partial_ then 1 else 0)
    let s3 := if partial_ then (s2.put SIL_PARTIAL_DONE.trees 0).put SIL_PARTIAL_TENANT.tenants 0 else s2
    { s3 with sil := { s3.sil with step := .parse, applyRetried := false, wasStructured := was } }

/-- SIL_LOAD (R68, R76). -/
def execSilLoad (s : State) : Host.Outcome State Fault Refusal := s.silLoad.done

/-- LOAD_PARSE_END (R68, R547). -/
def execLoadParseEnd (s : State) : Host.Outcome State Fault Refusal :=
  if s.sil.step = .parse then (s.loadNext s.parseErr .verify 2).done else s.done

/-- LOAD_VERIFY_END (R54, R68). -/
def execLoadVerifyEnd (s : State) : Host.Outcome State Fault Refusal :=
  if s.sil.step = .verify then (s.loadNext s.verifyErr .check 3).done else s.done

/-- LOAD_CHECK_END (R48, R55, R66, R68). -/
def execLoadCheckEnd (s : State) : Host.Outcome State Fault Refusal :=
  if s.sil.step = .check then (s.loadNext (s.checkErr s.sil.wasStructured) .apply 4).done else s.done

/-- Release (R68, R78): the device is Structured, and what runs is reported. -/
def State.loadRelease (s : State) : State :=
  let s1 := (((s.put SIL_STATUS.step 5).put SIL_STATUS.state 2).set1 SIL_EVENT.load_done)
  let s2 := if s.on SIL_STATUS.partial then (s1.inc SIL_LOAD_CNT.partial).inc SIL_LOADED.partials
    else
      let d := s.imgDigest.toNat
      let s3 := (((s1.inc SIL_LOAD_CNT.full).put SIL_LOADED.key_slot (s.imgN 13 1)).put SIL_LOADED.svn (s.imgN 14 2)).put
        SIL_LOADED.partials 0
      (List.range 12).foldl (fun s k => s.put (SIL_IMAGE_HASH.hash k) (d / 2 ^ (352 - 32 * k)))
        (s3.put SIL_BUILD.build (s.imgN 28 8))
  s2.loadFinish

/-- LOAD_APPLY_END (R69 to R71, R75): every Drawer in scope is written, and Release ends the load. Apply waits while an island that it
writes is being reset. -/
def execLoadApplyEnd (s : State) : Host.Outcome State Fault Refusal :=
  if s.sil.step ≠ .apply ∨ s.applyWaits then s.done
  else if s.on SIL_STATUS.partial then ((s.partialItems.foldl State.swapItem s).loadRelease).done
  else (s.applyFull.loadRelease).done

/-- LOAD_STEP_TIMEOUT (R68, R70): Parse, Verify and Check fail; Apply is run once more from the first item not yet swapped, and then
fails. The command names how many tenants and trees of a partial image have been swapped; the SHED Drawer is swapped in the last act
of Apply and never by one that times out. -/
def execLoadStepTimeout (swapped : Nat) (s : State) : Host.Outcome State Fault Refusal :=
  match s.sil.step with
  | .idle => s.done
  | .apply =>
    let s1 := if s.on SIL_STATUS.partial then ((s.partialItems.filter fun e => e.1 < 2).take swapped).foldl State.swapItem s else s
    if s.sil.applyRetried then (s1.loadFail ⟨0x0F, 0, 0, 0⟩).done
    else State.done { s1 with sil := { s1.sil with applyRetried := true } }
  | _ => (s.loadFail ⟨0x11, 0, 0, 0⟩).done

/-- A write of 1 to SIL_CTRL.unstructure (R49, R77). -/
def State.silUnstructure (s : State) : State :=
  if s.on SIL_STATUS.busy then { s with sil := { s.sil with unstructPending := true } }
  else if s.structured then s.unstructure
  else s

/-- SIL_UNSTRUCTURE (R49, R77). -/
def execSilUnstructure (s : State) : Host.Outcome State Fault Refusal := s.silUnstructure.done

/-- A write of 1 to SIL_CTRL.burn_svn in Structured (R72). -/
def State.silBurn (s : State) : State :=
  if s.structured then s.put SIL_FUSE_SVN.min_svn (max (s.get SIL_FUSE_SVN.min_svn) (s.get SIL_LOADED.svn)) else s

/-- SIL_BURN_SVN (R72). -/
def execSilBurnSvn (s : State) : Host.Outcome State Fault Refusal := s.silBurn.done

/-- A full image runs, a partial load over it included. -/
def State.imageRuns (s : State) : Bool := s.structured || (s.get SIL_STATUS.state == 1 && s.sil.wasStructured)

/-- A write of key slots to SIL_CTRL.revoke (R72): all but the slot of the running full image. -/
def State.silRevoke (s : State) (slots : Nat) : State :=
  (List.range 4).foldl (fun s j =>
    if bit1 slots j ∧ ¬(s.imageRuns ∧ s.get SIL_LOADED.key_slot = j) then s.setBit SIL_FUSE_KEY.revoked j else s) s

/-- SIL_REVOKE (R72). -/
def execSilRevoke (slots : BitVec 4) (s : State) : Host.Outcome State Fault Refusal := (s.silRevoke slots.toNat).done

/-- Octets are written to the staging window (R67, R76). -/
def State.stageWrite (s : State) (off : Nat) (octets : List Byte) : State :=
  if s.on SIL_STATUS.busy then s.set1 SIL_EVENT.stage_write_busy
  else s.putBytes (stageBase + off) (octets.take (0x100000 - off))

/-- STAGE_WRITE (R76). -/
def execStageWrite (off : BitVec 20) (octets : List (BitVec 8)) (s : State) : Host.Outcome State Fault Refusal :=
  (s.stageWrite off.toNat octets).done

end Sys2Proof.Machine
end

