-- ==== Sys2Proof/Machine/DeviceOps.lean ====
section
/-! DEFINITION. The device as a whole: what a device reset leaves (R10, R476, R489, R535), what Standby keeps (R483, R484), and the
clock start-up that boot and wake share (R462). -/

namespace Sys2Proof.Machine

/-! ## Device reset -/

/-- A register address that a device reset keeps: fuses (R72), the retirement record as REL_SPARE, REL_WEAR and PWR_PHASE show it
(R476, R518), and the bindings that retired parts left (DESIGN CHOICE, log 54). -/
def recordReg (a : Nat) : Bool :=
  a == 0x01000020 || a == 0x01000024 || a == 0xC0008018 || a == 0x50000018 || (decide (0xD0000024 ≤ a) && decide (a < 0xD0000044)) ||
    (decide (0xD0000200 ≤ a) && decide (a < 0xD0000300)) || (decide (0xD0002000 ≤ a) && decide (a < 0xD0003000))

/-- A device reset by RESET_N (R10, R489, R535): everything is as after power-on but the fuses, the retirement record, the levels of the
pins, the feeds and the microsecond count since power-on. The queue of commands and the open values drawn are the model's own. -/
def State.deviceReset (s : State) (step : PwrStep) : State :=
  let s1 : State := {
    pending := s.pending
    inputs := s.inputs
    tap := s.tap
    freeCtr := s.freeCtr
    us := s.us
    fld := s.fld.filter fun e => recordReg (e.1 / 32)
    rel := { retired := s.rel.retired, failed := s.rel.failed }
    mir := { retired := s.mir.retired }
    fwd := { retiredBanks := s.fwd.retiredBanks, spareBank := s.fwd.spareBank }
    pwr := { step := step, resetN := s.pwr.resetN, voutMode := s.pwr.voutMode } }
  let s2 := (List.range 8).foldl (fun s c => s.clearPending (c + 1)) s1
  ((s2.put MGT_PROT_STATUS.hold_in (s.get MGT_PROT_STATUS.hold_in)).put PWR_STATUS.feed_a_ok (s.get PWR_STATUS.feed_a_ok)).put
    PWR_STATUS.feed_b_ok (s.get PWR_STATUS.feed_b_ok)

/-- Both feeds are lost (R474): the device loses power, and waits for one of them. -/
def State.powerLost (s : State) : State :=
  let s1 := s.deviceReset (if s.pwr.resetN then .resetHeld else .none)
  { s1 with us := 0 }

/-- The boot order starts from Feed, with a feed there and RESET_N high (R489, R535). -/
def State.bootGo (s : State) : State :=
  if !s.pwr.resetN && (s.on PWR_STATUS.feed_a_ok || s.on PWR_STATUS.feed_b_ok) then
    { s with pwr := { s.pwr with step := .feed, retried := false } }
  else { s with pwr := { s.pwr with step := if s.pwr.resetN then .resetHeld else .none } }

/-! ## Standby -/

/-- Counters and W1C fields of every register outside island 0 are lost in Standby; the configuration bank keeps the RW fields, and
RO fields are rebuilt as they stood (R483, R486; DEDUCED, log 55). -/
def State.standbyRegs (s : State) : State :=
  regRows.foldl (fun s r =>
    if r.owner = .mgt then s
    else (List.range r.n1).foldl (fun s i => (List.range r.n2).foldl (fun s j =>
      (r.fields i j).foldl (fun s e => if e.2 == .rc || e.2 == .w1c then s.rst e.1 else s) s) s) s) s

/-- The clocks stop for Standby: the crystal, the SPLL and the PLLs (R475, R484). -/
def State.clocksOff (s : State) : State :=
  let s1 := (((s.put CLK_STATUS.spll_state 0).put CLK_STATUS.active 3).put CLK_STATUS.qual 0).put CLK_STATUS.cpll_lock 0
  let s2 := ((s1.put CLK_STATUS.hpll_lock 0).put CLK_HOLDOVER.active 0).put TU_STATUS.holdover 0
  { s2 with clk := { s2.clk with
      src := [], step := .none, retried := false, xtalRuns := false, xtalFailed := false, switch := .none, fallback := 3
      heldWrite := none } }

/-- Islands 1 to 27 are Off and the rails stand as Standby has them (R484, R487). -/
def State.standbyOff (s : State) : State :=
  let ns := (List.range 27).map (· + 1)
  let s1 := (ns.filter fun n => !(decide (13 ≤ n) && decide (n ≤ 16))).foldl (fun s n => s.islandLost n)
    (ns.foldl State.setOff (s.linkDrop).clocksOff)
  let s2 := s1.standbyRegs.timeStop
  { s2 with
    pr := { s2.pr with frames := [], tokensHeld := [], staged := [], pairLo := [] }
    link := { s2.link with beaconGood := 0, beaconLast := none, beaconWake := 0, beaconLock := false }
    pwr := { s2.pwr with step := .none, retried := false, neg := .none, waiting := [], granted := [] } }

/-! ## The clock start-up (R462) -/

/-- The clock start-up begins: the crystal is started. -/
def State.clocksStart (s : State) : State :=
  { s with clk := { s.clk with
      step := .qualify, retried := false, xtalRuns := true, xtalFailed := false, src := mdel 2 s.clk.src } }

/-! ## A failed wake (R487) -/

/-- A wake fails with a cause: every rail and island returns to its Standby state. -/
def State.wakeFail (s : State) (cause : Nat) : State :=
  let s1 := ((s.standbyOff.put PWR_STATUS.state 5).put PWR_WAKE_FAIL.failed 1).put PWR_WAKE_FAIL.cause cause
  let s2 := (s1.inc PWR_WAKE_FAIL_CNT.count).setBit WP_ALERT.sources 0
  { s2 with link := { s2.link with wakeNotice := true } }

/-- A wake is under way. -/
def State.waking (s : State) : Bool := s.get PWR_STATUS.state == 4

end Sys2Proof.Machine
end

