-- ==== Sys2Proof/Machine/Clocks.lean ====
section
/-! DEFINITION. The commands of the clocks (R456 to R472): stability counts, monitors, MIO trimming, start-up, divider ramps, holdover
and source switching. -/

namespace Sys2Proof.Machine

/-! ## Sources (R459, R460) -/

/-- The number of a source: 0 REFA, 1 REFB, 2 crystal (R473). -/
def srcNum : ClkSrc → Nat
  | .refA => 0
  | .refB => 1
  | .xtal => 2

/-- What the monitors keep of a source. -/
def State.srcSt (s : State) (k : Nat) : SrcSt := mgetD k {} s.clk.src

/-- The state with that replaced. -/
def State.setSrc (s : State) (k : Nat) (x : SrcSt) : State := { s with clk := { s.clk with src := mset k x s.clk.src } }

/-- The monitors run: the device is not in Standby. -/
def State.clkRuns (s : State) : Bool := let x := s.get PWR_STATUS.state; x != 3 && x != 5

/-- A source runs and is enabled (R456, R459). -/
def State.srcOn (s : State) (k : Nat) : Bool :=
  s.clkRuns && (match k with
    | 0 => s.on CLK_REF_CFG.refa_en
    | 1 => s.on CLK_REF_CFG.refb_en
    | _ => s.clk.xtalRuns)

/-- A source is qualified. -/
def State.qual (s : State) (k : Nat) : Bool := decide (k < 3) && bit1 (s.get CLK_STATUS.qual) k

/-- The trip threshold in 0.01 ppm (CLK_MON_CFG). -/
def State.monThr (s : State) : Nat := 10 * max 1 (s.get CLK_MON_CFG.thr)

/-- A source meets the conditions of R459; the offset of a reference from the crystal counts while the crystal is qualified. -/
def State.meets (s : State) (k : Nat) : Bool :=
  s.srcOn k && (s.srcSt k).stable && !(s.srcSt k).tripped &&
    (k == 2 || !s.qual 2 || !(s.srcSt k).measured || decide ((signedOf (s.get (CLK_FREQ_OFFS.offs k)) 16).natAbs ≤ s.monThr))

/-- A source that meets the conditions is qualified, and another is not (R459). -/
def State.requalify (s : State) (k : Nat) : State := if s.meets k then s.setBit CLK_STATUS.qual k else s.clrBit CLK_STATUS.qual k

/-- Twice the frequency of a source in Hz (R456). -/
def State.srcHz2 (s : State) (k : Nat) : Nat :=
  if k = 2 then 100000000
  else if s.on (if k = 0 then CLK_REF_CFG.refa_freq else CLK_REF_CFG.refb_freq) then 322265625
  else 312500000

/-- A count of 65,536 cycles of a source took a number of MIO cycles within the window of R459: 5.5 %, or 0.2 % once the MIO is
trimmed. -/
def State.inWindow (s : State) (k cycles : Nat) : Bool :=
  let want := 65536 * 400000000
  let tol := if s.on CLK_STATUS.trim_locked then 2 else 55
  decide ((((cycles * s.srcHz2 k : Nat) : Int) - (want : Int)).natAbs * 1000 ≤ tol * want)

/-- The source that the SPLL is to use: the manual selection, or the first qualified one in the priority order (R466). -/
def State.selected (s : State) : Option Nat :=
  if s.on CLK_SRC_CFG.manual then (if s.qual (s.get CLK_SRC_CFG.manual_sel) then some (s.get CLK_SRC_CFG.manual_sel) else none)
  else [s.get CLK_SRC_CFG.prio0, s.get CLK_SRC_CFG.prio1, s.get CLK_SRC_CFG.prio2].find? s.qual

/-! ## Switching (R466 to R472) -/

/-- The compute islands that are neither Off nor Failed, whose clocks are off (R464). -/
def State.computeOn (s : State) : List Nat := (List.range 28).filter fun n => computeIsl n && s.isl n != 3

/-- Some compute island ramps. -/
def State.ramps (s : State) : Bool := s.clk.target.any fun e => s.isl e.1 != 3

/-- The switch is at a step. -/
def State.setSwitch (s : State) (x : SwitchStep) : State := { s with clk := { s.clk with switch := x } }

/-- The SPLL enters holdover: it is shown, counted and logged (R466). -/
def State.holdoverEnter (s : State) : State :=
  let s1 := (s.put CLK_HOLDOVER.active 1).put CLK_HOLDOVER.seconds 0
  let s2 := ((s1.put TU_STATUS.holdover 1).set1 CLK_EVENT.holdover).inc CLK_HOLDOVER_CNT.count
  let s3 := s2.tlogEvent .clk 4 0
  { s3 with clk := { s3.clk with holdUs := 0 } }

/-- Holdover begins with the Hold step (R466). -/
def State.holdoverBegin (s : State) : State := (s.holdoverEnter.put CLK_STATUS.spll_state 3).setSwitch .hold

/-- Ease begins towards a source (R466): every compute island ramps to D + ⌈D / 16⌉. -/
def State.easeBegin (s : State) (k : Nat) : State :=
  let s1 := { s.put CLK_STATUS.spll_state 4 with clk := { s.clk with switch := .ease, fallback := k } }
  let s2 := s1.computeOn.foldl (fun s n => s.rampTo n (s.divTarget n + ceilDiv (s.divTarget n) 16)) s1
  if s2.ramps then s2 else s2.setSwitch .relock

/-- The switch goes back to Hold (R470); holdover begins where the sequence started without it. -/
def State.backToHold (s : State) : State :=
  if s.on CLK_HOLDOVER.active then (s.put CLK_STATUS.spll_state 3).setSwitch .hold else s.holdoverBegin

/-- CLK_SRC_CFG takes a value. -/
def State.srcCfg (s : State) (d : Nat) : State :=
  [CLK_SRC_CFG.wait_s, CLK_SRC_CFG.xtal_keep, CLK_SRC_CFG.revertive, CLK_SRC_CFG.manual, CLK_SRC_CFG.manual_sel, CLK_SRC_CFG.prio2,
    CLK_SRC_CFG.prio1, CLK_SRC_CFG.prio0].foldl (fun s f => s.put f (f.of d)) s

/-- The crystal's state is measured afresh, and no offset is one against it. -/
def State.crystalAnew (s : State) (runs : Bool) : State :=
  let fresh (s : State) (k : Nat) : State := s.setSrc k { s.srcSt k with measured := false }
  let s1 := fresh (fresh s 0) 1
  { s1 with clk := { s1.clk with xtalRuns := runs, src := mdel 2 s1.clk.src } }

/-- The crystal is stopped while two references are qualified and xtal_keep is 0, and started again when fewer are (R468). One that a
difference between the references restarted runs until they have been measured against it. -/
def State.crystal (s : State) : State :=
  if !s.clkRuns ∨ s.clk.step ≠ .none ∨ s.get CLK_STATUS.spll_state < 2 ∨ 4 < s.get CLK_STATUS.spll_state then s
  else if !s.on CLK_SRC_CFG.xtal_keep && s.qual 0 && s.qual 1 then
    if s.clk.xtalRuns ∧ s.qual 2 ∧ !s.clk.xtalCheck then (s.clrBit CLK_STATUS.qual 2).crystalAnew false else s
  else if s.clk.xtalRuns then s
  else s.crystalAnew true

/-- The start-up goes on to Lock once the crystal is judged stable, or marked unqualified, and a source qualifies (R462). -/
def State.startUpGo (s : State) : State :=
  if s.clk.step = .qualify ∧ ((s.srcSt 2).stable ∨ s.clk.xtalFailed) then
    match s.selected with
    | some k =>
      { s.put CLK_STATUS.spll_state (if s.clk.lockedOnce then 1 else 5) with
        clk := { s.clk with step := .lock, retried := false, fallback := k } }
    | none => s
  else s

/-- The SPLL follows its sources (R466, R469, R470): holdover when the active one is no longer qualified, Ease when a fallback is, Hold
when the fallback is lost. An active source that trips while a revertive switch is under way begins holdover, and the switch goes on. -/
def State.follow (s : State) : State :=
  match s.clk.switch with
  | .none =>
    if s.get CLK_STATUS.spll_state = 2 then
      if !s.qual (s.get CLK_STATUS.active) then
        let s1 := s.holdoverBegin
        match s1.selected with
        | some k => s1.easeBegin k
        | none => s1
      else if s.on CLK_SRC_CFG.manual ∧ s.get CLK_SRC_CFG.manual_sel ≠ s.get CLK_STATUS.active then
        match s.selected with
        | some k => s.easeBegin k
        | none => s.holdoverBegin
      else s
    else s
  | .hold => match s.selected with
    | some k => s.easeBegin k
    | none => s
  | .ease | .relock =>
    if s.qual s.clk.fallback then
      if !s.on CLK_HOLDOVER.active && !s.qual (s.get CLK_STATUS.active) then s.holdoverEnter else s
    else
      let s1 := s.backToHold
      match s1.selected with
      | some k => s1.easeBegin k
      | none => s1
  | .restore => s

/-- A change of the sources takes effect. -/
def State.clkSettle (s : State) : State := (((s.requalify 2).requalify 0).requalify 1).crystal.startUpGo.follow

/-- Restore ends the switch (R466, R472): a held write of CLK_SRC_CFG applies. -/
def State.switchEnd (s : State) : State :=
  let s1 := ((s.put CLK_STATUS.spll_state 2).put CLK_HOLDOVER.active 0).put TU_STATUS.holdover 0
  let s2 := (s1.inc CLK_SWITCH_CNT.count).set1 CLK_EVENT.switched
  let s3 := match s.clk.heldWrite with
    | some d => s2.srcCfg d.toNat
    | none => s2
  State.clkSettle { s3 with clk := { s3.clk with switch := .none, heldWrite := none } }

/-- Restore begins (R466): every compute island ramps back to its D. -/
def State.restoreBegin (s : State) : State :=
  let s1 := { s.put CLK_STATUS.active s.clk.fallback with clk := { s.clk with switch := .restore } }
  let s2 := s1.computeOn.foldl (fun s n => s.rampTo n (s.divTarget n)) s1
  if s2.ramps then s2 else s2.switchEnd

/-! ## The monitors and counters -/

/-- STABILITY_COUNT_END (R459): 65,536 cycles of a source took a number of MIO cycles. -/
def execStabilityCountEnd (src : ClkSrc) (mioCycles : BitVec 32) (s : State) : Host.Outcome State Fault Refusal :=
  let k := srcNum src
  if !s.srcOn k || (s.srcSt k).stable || (s.srcSt k).tripped then s.done
  else if s.inWindow k mioCycles.toNat then ((s.setSrc k { s.srcSt k with stable := true }).clkSettle).done
  else (s.inc CLK_STAB_FAIL_CNT.count).done

/-- The event bit of a source's monitors. -/
def monEvent (k : Nat) : Fld := if k = 0 then CLK_EVENT.mon_refa else if k = 1 then CLK_EVENT.mon_refb else CLK_EVENT.mon_xtal

/-- A monitor of a source trips (R460). -/
def State.tripSrc (s : State) (k : Nat) : State :=
  (((s.set1 (monEvent k)).inc CLK_MON_TRIP_CNT.count).clrBit CLK_STATUS.qual k).setSrc k { stable := false, tripped := true }

/-- LOSS_MONITOR_TRIP (R460): no edge of a source within 160 ns. -/
def execLossMonitorTrip (src : ClkSrc) (s : State) : Host.Outcome State Fault Refusal :=
  if s.srcOn (srcNum src) then ((s.tripSrc (srcNum src)).clkSettle).done else s.done

/-- The offset of a source is reported, saturating (R460). -/
def State.putOffs (s : State) (k : Nat) (v : Int) : State :=
  s.put (CLK_FREQ_OFFS.offs k) (toBits (max (-32768) (min 32767 v)) 16)

/-- A source whose offset exceeds the threshold trips (R460). -/
def State.freqTrip (s : State) (k : Nat) (v : Int) : State := if s.monThr < v.natAbs then s.tripSrc k else s

/-- A reference is measured (R460): enabled, and against a crystal that has been judged stable. -/
def State.measureRef (s : State) (k : Nat) (v : Int) : State :=
  if s.srcOn k && (s.srcSt 2).stable then
    State.freqTrip ((s.putOffs k v).setSrc k { s.srcSt k with measured := true }) k v
  else s

/-- FREQ_MONITOR_WINDOW (R460, R468): 1 ms of measurement, the offsets in 0.01 ppm. While the crystal is stopped the references are
measured against each other, and a difference above the threshold restarts it. -/
def execFreqMonitorWindow (refa refb xtal : Int) (s : State) : Host.Outcome State Fault Refusal :=
  if !s.clkRuns then s.done
  else if s.clk.xtalRuns then
    let s1 := if (s.srcSt 2).stable then (s.putOffs 2 xtal).freqTrip 2 xtal else s
    let s2 := (s1.measureRef 0 refa).measureRef 1 refb
    (State.clkSettle { s2 with clk := { s2.clk with xtalCheck := s2.clk.xtalCheck && !(s.srcSt 2).stable } }).done
  else if s.xtalStopped then
    let s1 := (s.putOffs 0 refa).putOffs 1 refb
    if s.monThr < refa.natAbs ∨ s.monThr < refb.natAbs then
      let s2 := (s1.inc CLK_MON_TRIP_CNT.count).crystalAnew true
      State.done { s2 with clk := { s2.clk with xtalCheck := true } }
    else s1.done
  else s.done

/-- REQUALIFY_WAIT_END (R460): wait_s has passed without a trip; a fresh stability count begins. -/
def execRequalifyWaitEnd (src : ClkSrc) (s : State) : Host.Outcome State Fault Refusal :=
  if (s.srcSt (srcNum src)).tripped then (s.setSrc (srcNum src) {}).done else s.done

/-- TRIM_WINDOW (R461): a window of 1.024 ms of the trim source took a number of MIO cycles; a higher code makes the MIO faster
(DEDUCED, log 56). -/
def execTrimWindow (count : BitVec 32) (s : State) : Host.Outcome State Fault Refusal :=
  if !s.trimUsable then s.done
  else
    let e : Int := (count.toNat : Int) - 204800
    if e.natAbs ≤ 10 then
      let g := min 4 (s.clk.trimGood + 1)
      let s1 : State := { s with clk := { s.clk with trimGood := g } }
      (if g = 4 then s1.set1 CLK_STATUS.trim_locked else s1).done
    else
      let n : Int := ((max 1 (e.natAbs * 25 / 256) : Nat) : Int)
      let c : Int := (s.get CLK_STATUS.trim_code : Int) - (if 0 < e then n else -n)
      let s1 := (s.put CLK_STATUS.trim_code (max 0 (min 4095 c)).toNat).put CLK_STATUS.trim_locked 0
      State.done { s1 with clk := { s1.clk with trimGood := 0 } }

/-! ## Start-up (R462, R463) -/

/-- SPLL_LOCK (R462, R466): the lock detector asserts, in the Lock step or in Relock. -/
def execSpllLock (s : State) : Host.Outcome State Fault Refusal :=
  if s.clk.step = .lock then
    if s.qual s.clk.fallback then
      let s1 := (s.put CLK_STATUS.spll_state 2).put CLK_STATUS.active s.clk.fallback
      State.done { s1 with clk := { s1.clk with step := .derived, retried := false, lockedOnce := true } }
    else (State.startUpGo { s with clk := { s.clk with step := .qualify, retried := false } }).done
  else if s.clk.switch = .relock then s.restoreBegin.done
  else s.done

/-- DERIVED_PLL_LOCK (R462, R486, R489): the CPLL, the HBM PLLs and the lane PLLs report lock, which ends the start-up. -/
def execDerivedPllLock (s : State) : Host.Outcome State Fault Refusal :=
  if s.clk.step = .derived then
    let s1 := (s.set1 CLK_STATUS.cpll_lock).put CLK_STATUS.hpll_lock 15
    let s2 : State := { s1 with clk := { s1.clk with step := .none, retried := false } }
    let next := if s2.pwr.step = .bootClocks then PwrStep.bootLink
      else if s2.pwr.step = .wakeClocks then .wakeRestore else s2.pwr.step
    (State.clkSettle { s2 with pwr := { s2.pwr with step := next, retried := false } }).done
  else s.done

/-- A step of the start-up times out (R462): it is run once more; then a boot goes on or retries, and a wake fails. -/
def State.clockTimeout (s : State) : State :=
  match s.clk.step with
  | .none => s
  | .hold => s
  | .qualify =>
    if s.clk.xtalFailed then s
    else if !s.clk.retried then
      let s1 := if (s.srcSt 2).stable then s else s.setSrc 2 {}
      { s1 with clk := { s1.clk with retried := true } }
    else if s.waking then s.wakeFail 3
    else State.startUpGo { s with clk := { s.clk with xtalFailed := !(s.srcSt 2).stable } }
  | .lock =>
    if !s.clk.retried then { s with clk := { s.clk with retried := true } }
    else if s.waking then s.wakeFail 4
    else { s with clk := { s.clk with step := .hold, retried := false } }
  | .derived =>
    if !s.clk.retried then { s with clk := { s.clk with retried := true } }
    else if s.waking then s.wakeFail 5
    else { s with clk := { s.clk with step := .hold, retried := false } }

/-- CLOCK_STEP_TIMEOUT (R462, R486). -/
def execClockStepTimeout (s : State) : Host.Outcome State Fault Refusal := s.clockTimeout.done

/-- RESET_HOLD_RETRY (R462): every 100 ms the start-up is tried again from Qualify. -/
def execResetHoldRetry (s : State) : Host.Outcome State Fault Refusal :=
  if s.clk.step = .hold then
    (State.startUpGo { s with clk := { s.clk with step := .qualify, retried := false } }).done
  else s.done

/-! ## Ramps (R464, R465) and switches -/

/-- An island's ramp ends: a gate request that waited for it is made (R465). -/
def State.rampEnd (s : State) (n : Nat) : State :=
  (s.modIsl n fun i => { i with gateReq := i.gateReq || i.gateWaits, gateWaits := false })

/-- An island takes the next divider on its way (R464). -/
def State.rampStep (s : State) (n d : Nat) : State :=
  let v := s.get (CLK_ISL_STATUS.div n)
  let w := if v < d then v + 1 else v - 1
  let s1 := (s.put (CLK_ISL_STATUS.div n) w).rampTo n d
  if w = d then s1.rampEnd n else s1

/-- Ease and Restore end when no compute island ramps any more (R466). -/
def State.rampsOver (s : State) : State :=
  if s.ramps then s
  else match s.clk.switch with
    | .ease => s.setSwitch .relock
    | .restore => s.switchEnd
    | _ => s

/-- DIVIDER_RAMP_STEP (R464 to R466): an island has held a divider for 256 cycles. A ramp rests while its island is being reset. -/
def execDividerRampStep (n : Isl) (s : State) : Host.Outcome State Fault Refusal :=
  if s.isl n.val = 2 ∧ (s.islSt n.val).step ≠ .rejoin then s.done
  else match mget n.val s.clk.target with
    | none => s.rampsOver.done
    | some d => (s.rampStep n.val d).rampsOver.done

/-- FIXED_ISLAND_RELEASE (R464): while a full image is applied, or in the Restore step of a wake, or in the Link step of the boot order
for island 23, the power controller releases an SPLL-derived island from Off. -/
def execFixedIslandRelease (n : Isl) (s : State) : Host.Outcome State Fault Refusal :=
  let apply := s.sil.step = .apply ∧ !s.on SIL_STATUS.partial ∧ n.val ≠ 23
  let wake := s.pwr.step = .wakeRestore ∧ (s.pwr.structuredBefore ∨ n.val = 23)
  if fixedIsl n.val ∧ (apply ∨ wake ∨ (s.pwr.step = .bootLink ∧ n.val = 23)) then (s.leaveOff n.val).done else s.done

/-- RELOCK_TIMEOUT (R466): the fallback is disqualified, and the switch returns to Hold. -/
def execRelockTimeout (s : State) : Host.Outcome State Fault Refusal :=
  if s.clk.switch = .relock then
    let k := s.clk.fallback
    let s1 := ((s.set1 CLK_EVENT.relock_fail).inc CLK_RELOCK_FAIL_CNT.count).clrBit CLK_STATUS.qual k
    ((s1.setSrc k { stable := false, tripped := true }).clkSettle).done
  else s.done

/-- The place of a source in the priority order; 3 for one that is not in it. -/
def State.prioOf (s : State) (k : Nat) : Nat :=
  if s.get CLK_SRC_CFG.prio0 = k then 0 else if s.get CLK_SRC_CFG.prio1 = k then 1 else if s.get CLK_SRC_CFG.prio2 = k then 2 else 3

/-- REVERTIVE_SWITCH (R467, R471): a source of higher priority than the active one has stayed qualified for wait_s. -/
def execRevertiveSwitch (s : State) : Host.Outcome State Fault Refusal :=
  if s.on CLK_SRC_CFG.revertive ∧ !s.on CLK_SRC_CFG.manual ∧ s.clk.switch = .none ∧ s.get CLK_STATUS.spll_state = 2 then
    match s.selected with
    | some k => if s.prioOf k < s.prioOf (s.get CLK_STATUS.active) then (s.easeBegin k).done else s.done
    | none => s.done
  else s.done

/-- A write of CLK_SRC_CFG (R466, R472): during Ease, Relock and Restore it is held until the switch has ended; in Hold it applies at
once (DEDUCED, log 57). -/
def State.clkSrcWrite (s : State) (d : Nat) : State :=
  match s.clk.switch with
  | .none => (s.srcCfg d).clkSettle
  | .hold => (s.srcCfg d).clkSettle
  | _ => { s with clk := { s.clk with heldWrite := some (BitVec.ofNat 32 d) } }

/-- CLK_SRC_WRITE (R472). -/
def execClkSrcWrite (d : BitVec 32) (s : State) : Host.Outcome State Fault Refusal := (s.clkSrcWrite d.toNat).done

/-- A write of CLK_REF_CFG: a reference that changes or is disabled is measured afresh (R459). -/
def State.clkRefWrite (s : State) (d : Nat) : State :=
  let fa := s.get CLK_REF_CFG.refa_freq
  let fb := s.get CLK_REF_CFG.refb_freq
  let s1 := [CLK_REF_CFG.bw, CLK_REF_CFG.refb_en, CLK_REF_CFG.refa_en, CLK_REF_CFG.refb_freq, CLK_REF_CFG.refa_freq].foldl
    (fun s f => s.put f (f.of d)) s
  let fresh (s : State) (k : Nat) (ch : Bool) : State :=
    if ch || !s.srcOn k then s.setSrc k { s.srcSt k with stable := false } else s
  ((fresh (fresh s1 0 (fa != s1.get CLK_REF_CFG.refa_freq)) 1 (fb != s1.get CLK_REF_CFG.refb_freq))).clkSettle

end Sys2Proof.Machine
end

