-- ==== Sys2Proof/Machine/Islands.lean ====
section
/-! DEFINITION. The commands of islands: transfers between islands (R15 to R17, R495), the reset sequence (R36 to R40) and clock
gating (R41 to R45). -/

namespace Sys2Proof.Machine

/-! ## Transfers between islands -/

/-- A parity error in a transfer is counted and recorded (R16, R495). -/
def State.parityError (s : State) (src dst : Nat) : State :=
  let w := src + dst * 256
  (((s.inc REL_PARITY_CNT.count).put REL_PARITY_LAST.last w).set1 REL_EVENT.parity).tlog 0x04 .rel w

/-- The attempts that a transfer without frame data has made. -/
def crossKey (src dst : Nat) : Nat := src * 32 + dst

/-- The state with the attempts of a crossing set. -/
def State.setCross (s : State) (src dst n : Nat) : State :=
  { s with rel := { s.rel with crossRetry := nset (crossKey src dst) n s.rel.crossRetry } }

/-- A departure is cut short by a parity error on its way (R16, R29). -/
def State.interruptFrame (s : State) (slot : Nat) : State := s.interruptIf fun h => h.slot == slot

/-- ISLAND_TRANSFER (R15, R16, R43, R495): a transfer between two islands is captured and acknowledged, which ungates its
destination. On a parity error frame data is not passed on as valid, and other transfers are not acknowledged and are presented
again. -/
def execIslandTransfer (src dst : Isl) (load : Load) (parityBad : Bool) (s : State) : Host.Outcome State Fault Refusal :=
  if !s.up dst.val then s.done
  else
    let s1 := s.ungate dst.val
    if !parityBad then s1.done
    else
      let s2 := s1.parityError src.val dst.val
      match load with
      | .frameNotAccepted id => match s2.frame id with
        | some f => (s2.refuseFrame f 9).genCheck.done
        | none => s2.done
      | .frameAccepted slot => (s2.interruptFrame slot).done
      | .other => (s2.setCross src.val dst.val 1).done

/-- PARITY_RETRY (R495): a transfer is presented again; the third failure resets the receiving island with cause 0x4. -/
def execParityRetry (src dst : Isl) (parityBad : Bool) (s : State) : Host.Outcome State Fault Refusal :=
  let n := mgetD (crossKey src.val dst.val) 0 s.rel.crossRetry
  if n = 0 ∨ !s.up dst.val then s.done
  else if !parityBad then (s.setCross src.val dst.val 0).done
  else
    let s1 := s.parityError src.val dst.val
    if n < 2 then (s1.setCross src.val dst.val 2).done
    else ((s1.setCross src.val dst.val 0).resetIsland dst.val 4).done

/-- CROSSING_TIMEOUT (R17): a request to an island in Run got no acknowledge within 100 µs; the island is reset, cause 0x5. -/
def execCrossingTimeout (_src dst : Isl) (s : State) : Host.Outcome State Fault Refusal :=
  if s.isl dst.val = 0 then (s.resetIsland dst.val 5).done else s.done

/-! ## The reset sequence -/

/-- The cause code of a request (R46). -/
def resetCause : ResetSource → Nat
  | .host => 1
  | .policy => 2
  | .uncorrectable => 4

/-- ISLAND_RESET_REQUEST (R36): a reset is asked for; a policy core cannot reset POL (R46). -/
def execIslandResetRequest (by_ : ResetSource) (n : Isl) (s : State) : Host.Outcome State Fault Refusal :=
  if by_ = .policy ∧ n = 1 then s.done else (s.resetIsland n.val (resetCause by_)).done

/-- ISLAND_WATCHDOG (R36): the watchdog of an island expires, cause 0x3. -/
def execIslandWatchdog (n : Isl) (s : State) : Host.Outcome State Fault Refusal := (s.resetIsland n.val 3).done

/-- A step of the reset sequence of an island gives way to the next. -/
def State.rstStep (s : State) (n : Nat) (x : RstStep) : State := s.modIsl n fun i => { i with step := x }

/-- The reset sequence of island n stands at a step. -/
def State.atStep (s : State) (n : Nat) (x : RstStep) : Bool := decide (s.isl n = 2 ∧ (s.islSt n).step = x)

/-- RESET_FENCE_END (R36): every inbound crossing holds its requests. -/
def execResetFenceEnd (n : Isl) (s : State) : Host.Outcome State Fault Refusal :=
  if s.atStep n.val .fence then (s.rstStep n.val .assert).done else s.done

/-- RESET_FENCE_TIMEOUT (R36): crossings are forced to hold, and the next step begins. -/
def execResetFenceTimeout (n : Isl) (s : State) : Host.Outcome State Fault Refusal :=
  if s.atStep n.val .fence then (s.rstStep n.val .assert).done else s.done

/-- RESET_ASSERT_END (R36): reset has been held for 256 cycles, and is released. -/
def execResetAssertEnd (n : Isl) (s : State) : Host.Outcome State Fault Refusal :=
  if s.atStep n.val .assert then ((s.assertIsland n.val).rstStep n.val .restore).done else s.done

/-- RESET_RESTORE_END (R36, R40, R483): memories are initialised or reloaded; the banks and pseudo-channels named fail. -/
def execResetRestoreEnd (n : Isl) (badBanks : List (Fin 156)) (badPcs : List (Fin 128)) (s : State) :
    Host.Outcome State Fault Refusal :=
  if s.atStep n.val .restore then
    let bad := (badBanks.map (·.val)).filter fun b => (bankIslands b).contains n.val
    (((s.restoreIsland n.val bad (badPcs.map (·.val))).rstStep n.val .rejoin).banksFail bad).done
  else s.done

/-- RESET_STEP_TIMEOUT (R36, R37): Restore or Rejoin passes its limit: the whole sequence is run once more, and then the island is
Failed. The second run belongs to the same reset: it counts no further reset in MGT_RST_CAUSE_n.count and writes no further Trouble
Log entry, which the spec leaves open (DESIGN CHOICE, log 122). -/
def execResetStepTimeout (n : Isl) (s : State) : Host.Outcome State Fault Refusal :=
  if s.atStep n.val .restore || s.atStep n.val .rejoin then
    if (s.islSt n.val).retried then (s.failIsland n.val).done else (s.fence n.val true).done
  else s.done

/-- RESET_REJOIN_END (R36, R315): what the island held is rebuilt and it is in Run. A Journal copy ends its Rejoin so only when its
partner is not in service (R314); otherwise at the end of Close (R312). -/
def execResetRejoinEnd (n : Isl) (s : State) : Host.Outcome State Fault Refusal :=
  if !s.atStep n.val .rejoin then s.done
  else if (n = 18 ∨ n = 19) ∧ s.inService (n != 19) then s.done
  else ((s.islandBack n.val).rejoinIsland n.val).done

/-! ## Idle -/

/-- IDLE_TIMER_EXPIRY (R41, R42): the island has been quiet for timer_us, and MGT asks to gate its clock; while its divider ramps the
request waits (R465). -/
def execIdleTimerExpiry (n : Isl) (s : State) : Host.Outcome State Fault Refusal :=
  if s.isl n.val = 0 ∧ Config.idleCapable n.val ∧ s.get (MGT_IDLE_TIMER.timer_us n.val) ≠ 0 then
    if s.on (CLK_ISL_STATUS.ramping n.val) then (s.modIsl n.val fun i => { i with gateWaits := true }).done
    else (s.modIsl n.val fun i => { i with gateReq := true }).done
  else s.done

/-- GATE_ACKNOWLEDGE (R42, R44): with every bus port idle the gate request is acknowledged and the island is in Idle; an access at
a port in the same cycle holds the acknowledge back. -/
def execGateAcknowledge (n : Isl) (portBusy : Bool) (s : State) : Host.Outcome State Fault Refusal :=
  if (s.islSt n.val).gateReq ∧ s.isl n.val = 0 ∧ !portBusy then
    ((s.put (MGT_ISLAND_STATE.island n.val) 1).modIsl n.val fun i => { i with gateReq := false }).done
  else s.done

/-- GATE_REQUEST_TIMEOUT (R42): no acknowledge came within 1,024 cycles; the request is withdrawn and counted. -/
def execGateRequestTimeout (n : Isl) (s : State) : Host.Outcome State Fault Refusal :=
  if (s.islSt n.val).gateReq then
    (((s.modIsl n.val fun i => { i with gateReq := false }).setBit MGT_GATE_REFUSED.refused n.val).inc
      MGT_GATE_REFUSED_CNT.count).done
  else s.done

/-- ISLAND_UNGATE (R43): an access to an island in Idle ungates it. -/
def execIslandUngate (n : Isl) (s : State) : Host.Outcome State Fault Refusal := (s.ungate n.val).done

end Sys2Proof.Machine
end

