-- ==== Sys2Proof/Machine/Mirror.lean ====
section
/-! DEFINITION. The commands of the Mirror: the built-in check (R180, R181), the Retire step (R180, R184, R186) and the host's commands. -/

namespace Sys2Proof.Machine

/-- The Mirror core in service failed its check (R180): it is retired at once, and the spare comes in as class 0x5 says (R505). -/
def State.mirCheckFails (s : State) : State :=
  let s1 := s.set1 MIR_EVENT.check_fail_mir
  match s1.mirService with
  | some c => s1.failPart 5 c
  | none => s1

/-- The Grant Engine's map path failed its check (R181): GRANT is reset with cause 0x4, and is Failed at the second failure within
1 s. -/
def State.geCheckFails (s : State) : State :=
  let s1 := s.set1 MIR_EVENT.check_fail_ge
  let s2 : State := { s1 with mir := { s1.mir with geFailedUs := some s1.us } }
  match s.mir.geFailedUs with
  | some u => if s.us < u + 1000000 ∧ s.up 10 then s2.failIsland 10 else s2.resetIsland 10 4
  | none => s2.resetIsland 10 4

/-- The Check step ends with what each core found (R180, R181): where both passed, the Mirror's copy of the trees that mismatched is replaced
at the next Build begins. -/
def State.checkEnd (s : State) (geOk mirOk : Bool) : State :=
  let s1 : State := { s.inc MIR_CHECK_CNT.count with mir := { s.mir with checking := false, geDone := false } }
  let s2 := if mirOk then s1 else s1.mirCheckFails
  let s3 := if geOk then s2 else s2.geCheckFails
  { s3 with mir := { s3.mir with resync := [], ready := if geOk && mirOk then s3.mir.ready ++ s3.mir.resync else s3.mir.ready } }

/-- BUILTIN_CHECK_END (R181). -/
def execBuiltinCheckEnd (geOk mirOk : Bool) (s : State) : Host.Outcome State Fault Refusal :=
  if s.mir.checking then (s.checkEnd geOk mirOk).done else s.done

/-- BUILTIN_CHECK_TIMEOUT (R180): a core that has not finished has failed its check. -/
def execBuiltinCheckTimeout (geDone mirDone : Bool) (s : State) : Host.Outcome State Fault Refusal :=
  if s.mir.checking then (s.checkEnd geDone mirDone).done else s.done

/-- MIRROR_RETIRE_END (R180): the spare core has been loaded with the state of every privileged tree from the Grant Engine's, and is placed
in service. -/
def execMirrorRetireEnd (s : State) : Host.Outcome State Fault Refusal :=
  match s.mir.loading with
  | some c =>
    let s1 : State := { (s.put (mirCore c) 0).inc MIR_SWAP_CNT.count with mir := { s.mir with loading := none } }
    (s1.mirState.takeMirror fun _ => true).done
  | none => s.done

/-- MIRROR_RETIRE_TIMEOUT (R180, R184): the spare is retired as well, and privileged trees run unmirrored. -/
def execMirrorRetireTimeout (s : State) : Host.Outcome State Fault Refusal :=
  match s.mir.loading with
  | some c => ((s.mirRetire c).spareLoss 5 c).mirState.done
  | none => s.done

/-- A write of 1 to MIR_CTRL.swap places the spare core in service (R180). With a core in service the two change places, since the
rule retires a core only at a failed check (DEDUCED, log 52). -/
def State.mirSwap (s : State) : State :=
  match s.mirSpare with
  | none => s
  | some c =>
    match s.mirService with
    | some o => ((((s.put (mirCore o) 1).put (mirCore c) 0).inc MIR_SWAP_CNT.count).mirState).takeMirror fun _ => true
    | none => (s.bringInOrDefer 5 (1 - c)).mirState

/-- MIRROR_SWAP_CMD (R180). -/
def execMirrorSwapCmd (s : State) : Host.Outcome State Fault Refusal :=
  if s.answers [11] then (s.ungate 11).mirSwap.done else s.done

/-- A write of 1 to MIR_CTRL.force_check (R181): the check runs after the next build. -/
def State.mirForce (s : State) : State := { s with mir := { s.mir with forced := true } }

/-- MIRROR_FORCE_CHECK (R181). -/
def execMirrorForceCheck (s : State) : Host.Outcome State Fault Refusal :=
  if s.answers [11] then (s.ungate 11).mirForce.done else s.done

end Sys2Proof.Machine
end

