-- ==== Sys2Proof/Machine/Queues.lean ====
section
/-! DEFINITION. The commands of the queues, shapers, gates and the Lens (R324 to R355), the choice of the next frame apart. -/

namespace Sys2Proof.Machine

/-- The islands that hold the scheduling tables and the SCH registers (R548). -/
def sliceIsls : List Nat := [13, 14, 15, 16]

/-- The table, entry number and word of an address in the scheduling or node table: false for flow entries, true for nodes. -/
def schedWindow (a : Nat) : Option (Bool × Nat × Nat) :=
  if 0x1030000000 ≤ a ∧ a < 0x1030200000 ∧ a % 8 = 0 then
    some (false, (a - 0x1030000000) / 32, a % 32 / 8)
  else if 0x1030200000 ≤ a ∧ a < 0x1030280000 ∧ a % 8 = 0 then
    some (true, (a - 0x1030200000) / 32, a % 32 / 8)
  else none

/-- The staging buffer of a requester for the scheduling table or the node table (R327). -/
def schedBuf (r : Requester) (nodeTable : Bool) : Nat := 2 * r.val + (if nodeTable then 1 else 0)

/-- A word other than word 0 of a scheduling or node entry is staged (R256, R327). -/
def State.schStage (s : State) (r : Requester) (nodeTable : Bool) (e w : Nat) (d : Word64) : State :=
  let k := schedBuf r nodeTable
  let s1 := if (stagedFor k e s.sch.staged).2 then s.set1 PR_EVENT.stage_discard else s
  { s1 with sch := { s1.sch with staged := stageWord k e w d s1.sch.staged } }

/-- SCH_STAGE_WRITE (R327): a write of a word other than word 0 is staged; words 2 and 3 are read-only and ignored. -/
def execSchStageWrite (r : Requester) (a : BitVec 40) (d : BitVec 64) (s : State) :
    Host.Outcome State Fault Refusal :=
  if !s.answers sliceIsls then s.done
  else match schedWindow a.toNat with
    | some (n, e, 1) => ((s.wakeForWrite sliceIsls).schStage r n e 1 d).done
    | _ => s.done

/-- A write of word 0 commits the entry with what is staged for it (R256, R327). -/
def State.schCommit (s : State) (r : Requester) (nodeTable : Bool) (e : Nat) (d : Word64) : State :=
  let k := schedBuf r nodeTable
  let st := stagedFor k e s.sch.staged
  let s1 := if st.2 then s.set1 PR_EVENT.stage_discard else s
  let s2 := { s1 with sch := { s1.sch with staged := mdel k s1.sch.staged } }
  if nodeTable then s2.commitNode e d st.1 else s2.commitSched e d st.1

/-- SCH_ENTRY_COMMIT (R327): a write of word 0 commits the entry, or is refused with its reason. -/
def execSchEntryCommit (r : Requester) (a : BitVec 40) (d : BitVec 64) (s : State) :
    Host.Outcome State Fault Refusal :=
  if !s.answers sliceIsls then s.done
  else match schedWindow a.toNat with
    | some (n, e, 0) => ((s.wakeForWrite sliceIsls).schCommit r n e d).done
    | _ => s.done

/-- A write of the rate or burst register of a port (R327, R335, R336). -/
def State.schPortWrite (s : State) (q : Nat) (burst : Bool) (d : Nat) : State :=
  if burst then
    let v := (SCH_PORT_BURST.burst_oct q).of d
    if v < 64 ∨ 16777216 < v then s.schRefuse 3 q 4 else s.put (SCH_PORT_BURST.burst_oct q) v
  else
    let v := (SCH_PORT_RATE.rate_kbps q).of d
    if 800000000 < v then s.schRefuse 3 q 4
    else
      let was := s.get (SCH_PORT_RATE.rate_kbps q)
      let s1 := s.put (SCH_PORT_RATE.rate_kbps q) v
      if was = 0 ∧ v ≠ 0 then s1.enableBucket (portBucket q) else s1

/-- SCH_PORT_WRITE (R327): a write of SCH_PORT_RATE_q or SCH_PORT_BURST_q out of range is refused, else it is taken. -/
def execSchPortWrite (q : Port) (burst : Bool) (d : BitVec 32) (s : State) : Host.Outcome State Fault Refusal :=
  if s.answers sliceIsls then ((s.wakeForWrite sliceIsls).schPortWrite q.val burst d.toNat).done else s.done

/-- REFILL_TICK (R333): every bucket gains the credit of one tick. -/
def execRefillTick (s : State) : Host.Outcome State Fault Refusal :=
  if s.tu.running then ((s.sch.buckets.map (·.1)).foldl State.refill s).done else s.done

/-! ## Gate lists -/

/-- A frame queued for a port fails the length check against a list (R341). -/
def State.queuedFails (s : State) (q : Nat) (l : List (Nat × Nat × Nat × Nat)) : Bool :=
  (s.portFlows q).any fun f => (s.queuedOn q f).any fun h => !s.lengthOk q (schedTc (s.sched f)) (s.heldLen h) h.ptidx l

/-- A gate-list command (R341). -/
def State.gateGo (s : State) (q : Nat) : State :=
  let len := s.get (SCH_GATE_CTRL.admin_len q)
  let cyc := s.get (SCH_GATE_CYCLE.ns q)
  let es := s.gateEntries q (1 - s.get (SCH_GATE_STATUS.oper_copy q)) len
  if len = 0 ∨ 128 < len ∨ es.any (fun e => e.2 == 0) ∨ cyc = 0 ∨ 1000000000 < cyc ∨
      s.on (SCH_GATE_STATUS.pending q) then s.schRefuse 2 q 5
  else if s.queuedFails q (layGates cyc 0 0 es) then s.schRefuse 2 q 6
  else
    let g := s.gate q
    (s.setGate q { g with
      adminLen := len, adminCycle := cyc
      adminBase := s.get (SCH_GATE_BASE_S.s q) * 1000000000 + s.get (SCH_GATE_BASE_NS.ns q) }).put
      (SCH_GATE_STATUS.pending q) 1

/-- GATE_LIST_GO (R341): the administrative list is submitted, or refused. -/
def execGateListGo (q : Port) (d : BitVec 32) (s : State) : Host.Outcome State Fault Refusal :=
  if !s.answers sliceIsls then s.done
  else
    let s1 := (s.wakeForWrite sliceIsls).put (SCH_GATE_CTRL.admin_len q.val) ((SCH_GATE_CTRL.admin_len q.val).of d.toNat)
    if q.val < 36 ∧ (SCH_GATE_CTRL.go q.val).of d.toNat = 1 then (s1.gateGo q.val).done else s1.done

/-- The entry in force and its gates. -/
def State.putGateEntry (s : State) (q : Nat) (e : Nat × Nat × Nat × Nat) : State :=
  (s.put (SCH_GATE_STATUS.entry q) e.2.2.2).put (SCH_GATE_STATUS.open_ q) e.2.2.1

/-- The copies of a port's list swap (R338, R341). -/
def State.gateSwap (s : State) (q : Nat) : State :=
  let g := s.gate q
  let s1 := s.setGate q { operLen := g.adminLen, operCycle := g.adminCycle, operBase := g.adminBase }
  let s2 := s1.put (SCH_GATE_STATUS.oper_copy q) (1 - s.get (SCH_GATE_STATUS.oper_copy q))
  let s3 := (s2.put (SCH_GATE_STATUS.pending q) 0).set1 SCH_EVENT.gate_swapped
  match s3.gated q, s3.operGates q with
  | true, e :: _ => s3.putGateEntry q e
  | _, _ => s3

/-- GATE_LIST_SWAP (R341): at the change instant the copies swap. -/
def execGateListSwap (q : Port) (s : State) : Host.Outcome State Fault Refusal :=
  if s.on (SCH_GATE_STATUS.pending q.val) then (s.gateSwap q.val).done else s.done

/-- The window edge of a tree is past: the frames that waited there may wait again (R86). -/
def State.edgePast (s : State) (t : Nat) : State :=
  { s with sch := { s.sch with edgeHeld := s.sch.edgeHeld.filter fun k =>
      k % 2 == 0 || match s.heldAt (k / 2) with | some h => s.flowPort h.flow != some t | none => false } }

/-- GATE_ENTRY_CHANGE (R338, R339): the next entry of the operational list comes into force, the first one at the cycle's end. -/
def execGateEntryChange (q : Port) (s : State) : Host.Outcome State Fault Refusal :=
  if !s.gated q.val then s.done
  else
    let l := s.operGates q.val
    match (l.find? fun e => decide (s.get (SCH_GATE_STATUS.entry q.val) < e.2.2.2)).or l.head? with
    | some e => ((s.putGateEntry q.val e).edgePast q.val).done
    | none => s.done

/-- LAUNCH_TIME_DUE (R344): the launch time of an accepted frame, less the egress latency, has come. -/
def execLaunchTimeDue (slot : Nat) (s : State) : Host.Outcome State Fault Refusal :=
  match s.heldAt slot with
  | some h => (s.setHeld { h with launchDue := true }).done
  | none => s.done

/-! ## The Lens -/

/-- A slot's slice is between Fence and the end of Rejoin (R350). -/
def State.lensAway (s : State) (w : Nat) : Bool :=
  match s.lensSlice w with
  | some n => s.isl (13 + n) == 2
  | none => false

/-- One sampling instant (R348, R350). -/
def State.lensSample (s : State) : State :=
  if s.on LNS_CTRL.freeze then State.inc { s with sch := { s.sch with soj := [] } } LNS_MISSED_CNT.count
  else
    let away := s.sch.lens.filter s.lensAway
    let s1 := (s.sch.lens.filter fun w => !s.lensAway w).foldl State.lensSlot s
    let s2 := { s1 with sch := { s1.sch with soj := [] } }
    if away.isEmpty then s2 else s2.inc LNS_MISSED_CNT.count

/-- LENS_SAMPLE (R348): a sampling instant. -/
def execLensSample (s : State) : Host.Outcome State Fault Refusal :=
  if s.on LNS_CTRL.en then s.lensSample.done else s.done

/-- Word 0 of a Lens slot is written: its maxima and histograms are cleared (R347). -/
def State.lensCommit (s : State) (w : Nat) (d : Word64) : State :=
  let s1 := (s.putWord (lensAddr w) d.toNat).putWord (lensAddr w + 8) 0
  let s2 := (List.range 16).foldl (fun s j => s.putWord (lensHist w + 8 * j) 0) s1
  let l := s2.sch.lens.filter (· != w)
  { s2 with sch := { s2.sch with lens := if entryEn d.toNat then l ++ [w] else l, soj := mdel w s2.sch.soj } }

/-- LENS_SLOT_COMMIT (R347). -/
def execLensSlotCommit (w : Fin 1024) (d : BitVec 64) (s : State) : Host.Outcome State Fault Refusal :=
  if s.answers sliceIsls then ((s.wakeForWrite sliceIsls).lensCommit w.val d).done else s.done

end Sys2Proof.Machine
end

