-- ==== Sys2Proof/Machine/Power.lean ====
section
/-! DEFINITION. The commands of the supply and the device power states (R474 to R493, R535): feeds and rails, the Supply Port,
Standby, wake, and the boot order. -/

namespace Sys2Proof.Machine

/-- The state with the power controller at a step. -/
def State.pwrStep (s : State) (x : PwrStep) : State := { s with pwr := { s.pwr with step := x, retried := false } }

/-- The power controller is at a step. -/
def State.atPwr (s : State) (x : PwrStep) : Bool := decide (s.pwr.step = x)

/-! ## Feeds and rails (R474, R475) -/

/-- FEED_LOSS (R206, R474, R491): a feed has stayed below 4.2 V, or above 19.0 V, for 10 µs. With both lost the device loses power. -/
def execFeedLoss (feedB tooHigh : Bool) (s : State) : Host.Outcome State Fault Refusal :=
  let ok := if feedB then PWR_STATUS.feed_b_ok else PWR_STATUS.feed_a_ok
  if !s.on ok then s.done
  else
    let s1 := ((s.put ok 0).set1 (if feedB then PWR_EVENT.feed_b_lost else PWR_EVENT.feed_a_lost)).inc PWR_FEED_LOSS_CNT.count
    let s2 := (if tooHigh then s1.set1 PWR_EVENT.feed_ov else s1).tlogEvent .pwr (if feedB then 2 else 1) 0
    if s2.on PWR_STATUS.feed_a_ok || s2.on PWR_STATUS.feed_b_ok then s2.done else s2.powerLost.done

/-- FEED_RESTORE (R474, R489): a lost feed has stayed from 4.4 V to 18.5 V for 1 ms. The first of the two starts the boot order. -/
def execFeedRestore (feedB : Bool) (s : State) : Host.Outcome State Fault Refusal :=
  let first := !s.on PWR_STATUS.feed_a_ok && !s.on PWR_STATUS.feed_b_ok
  let s1 := s.set1 (if feedB then PWR_STATUS.feed_b_ok else PWR_STATUS.feed_a_ok)
  (if first then s1.bootGo else s1).done

/-- FEED_SAMPLE (R474): both feed voltages are measured. -/
def execFeedSample (aMv bMv : BitVec 16) (s : State) : Host.Outcome State Fault Refusal :=
  if s.on PWR_STATUS.feed_a_ok || s.on PWR_STATUS.feed_b_ok then
    ((s.put PWR_FEED.vin_a_mv aMv.toNat).put PWR_FEED.vin_b_mv bMv.toNat).done
  else s.done

/-- The rails that Standby turns off or down are power-good. -/
def State.railsUp (s : State) : Bool :=
  let x := s.get PWR_STATUS.state
  x == 1 || x == 2 || s.atPwr .bootClocks || s.atPwr .bootLink || s.atPwr .wakeClocks || s.atPwr .wakeRestore || s.atPwr .wakeResume

/-- The islands that a rail feeds (R475): VHBM those of the stacks (DEDUCED, log 58). -/
def railIslands : Rail → List Nat
  | .vcore => (List.range 27).map (· + 1)
  | .vhbm => [24, 25, 26, 27]
  | _ => []

/-- RAIL_FAULT (R475): a rail has left power-good for 10 µs. VCORE_AON feeds island 0, which is not reset without the device (R14). -/
def execRailFault (rail : Rail) (s : State) : Host.Outcome State Fault Refusal :=
  match rail with
  | .vcoreAon => ((s.deviceReset .none).bootGo.set1 PWR_EVENT.rail_fault).done
  | .vio => (s.set1 PWR_EVENT.rail_fault).done
  | r =>
    if s.railsUp then ((railIslands r).foldl (fun s n => s.resetIsland n 4) (s.set1 PWR_EVENT.rail_fault)).done
    else s.done

/-! ## The Supply Port (R480, R481) -/

/-- A waiting tree after a negotiation for a set point (R478, R481): one that needs this set point is granted, or fails with it; another
is judged afresh. -/
def State.afterNeg (ok : Bool) (sp : Nat) (s : State) (t : Nat) : State :=
  let e := s.est + s.grantedLoad + s.treeLoad t
  if s.cap < e ∨ s.pwr.neg ≠ .none then s
  else if s.raisePoint e = sp then (if ok then s.grantTree t else s.lightFail t)
  else s.judgeTree t

/-- A negotiation ends, acknowledged or failed (R480, R481, R486, R489). -/
def State.negEnd (s : State) (ok : Bool) : State :=
  let why := s.pwr.neg
  let sp := s.pwr.negSet
  let s1 := (s.put PWR_SUP_STATUS.result (if ok then 1 else 2)).put PWR_STATUS.sup_ok (if ok then 1 else 0)
  let s2 := if ok then s1 else (s1.set1 PWR_EVENT.sup_fail).inc PWR_SUP_FAIL_CNT.count
  let s3 : State := { s2 with pwr := { s2.pwr with neg := .none, negRetried := false, inForce := if ok then sp else 0 } }
  match why with
  | .boot => if s3.atPwr .bootSupply then s3.pwrStep .bootRails else s3
  | .wake => if s3.atPwr .wakeSupply then (if ok then s3.pwrStep .wakeRails else s3.wakeFail 1) else s3
  | _ => s3.pwr.waiting.foldl (State.afterNeg ok sp) s3

/-- SUPPLY_VOUT_POLL (R480): READ_VOUT in 10 mV units; a value within 3 % of the set point is the acknowledgement. -/
def execSupplyVoutPoll (vout : BitVec 14) (s : State) : Host.Outcome State Fault Refusal :=
  if s.pwr.neg = .none then s.done
  else
    let s1 := s.supplyRead vout.toNat
    let want := 10 * s.pwr.negSet
    if ((vout.toNat : Int) - (want : Int)).natAbs * 100 ≤ 3 * want then (s1.negEnd true).done else s1.done

/-- A negotiation has had no acknowledgement within 5 ms: it is run once more, and then fails (R480). -/
def State.negTimeout (s : State) : State :=
  if s.pwr.neg = .none then s
  else if s.pwr.negRetried then s.negEnd false
  else
    let s1 := s.supplyWrite s.pwr.negSet
    { s1 with pwr := { s1.pwr with negRetried := true } }

/-- SUPPLY_NEG_TIMEOUT (R480). -/
def execSupplyNegTimeout (s : State) : Host.Outcome State Fault Refusal := s.negTimeout.done

/-- LOAD_LOWER (R481): est has stayed at or below thr_w − 10 W for 1 s; v_low is requested, with no wait. -/
def execLoadLower (s : State) : Host.Outcome State Fault Refusal :=
  if s.on PWR_SUP_CFG.en ∧ s.pwr.neg = .none ∧ s.est ≤ 10 * (s.get PWR_SUP_CFG.thr_w - 10) then
    let s1 := s.supplyWrite (s.get PWR_SUP_CFG.v_low)
    State.done { s1 with pwr := { s1.pwr with inForce := s.get PWR_SUP_CFG.v_low } }
  else s.done

/-! ## Standby (R484) -/

/-- A Standby request by a requester (R484): a policy core's is ignored. -/
def State.standbyRequest (s : State) (r : Nat) : State :=
  if r ≠ 0 then s
  else
    let x := s.get PWR_STATUS.state
    if x = 5 then s.set1 PWR_EVENT.stby_refused
    else if x ≠ 1 then s
    else if !s.allDark || s.on SIL_STATUS.busy then s.set1 PWR_EVENT.stby_refused
    else
      let s1 := (s.put PWR_STATUS.state 2).pwrStep .stop
      { s1 with pwr := { s1.pwr with ingressOff := true }, link := { s1.link with wakeHeld := 0 } }

/-- STANDBY_REQUEST (R484, R492). -/
def execStandbyRequest (r : Requester) (s : State) : Host.Outcome State Fault Refusal := (s.standbyRequest r.val).done

/-- STANDBY_STOP_END (R484). -/
def execStandbyStopEnd (s : State) : Host.Outcome State Fault Refusal :=
  if s.atPwr .stop then (s.pwrStep .drain).done else s.done

/-- STANDBY_DRAIN_END (R484): JNL_USED reads 0. -/
def execStandbyDrainEnd (s : State) : Host.Outcome State Fault Refusal :=
  if s.atPwr .drain ∧ s.slotsUsed = [] then (s.pwrStep .save).done else s.done

/-- STANDBY_DRAIN_TIMEOUT (R484): ingress resumes, and the device stays in Run. -/
def execStandbyDrainTimeout (s : State) : Host.Outcome State Fault Refusal :=
  if s.atPwr .drain then
    let s1 := ((s.put PWR_STATUS.state 1).set1 PWR_EVENT.stby_abort).pwrStep .none
    State.done { s1 with pwr := { s1.pwr with ingressOff := false }, link := { s1.link with wakeHeld := 0 } }
  else s.done

/-- STANDBY_SAVE_END (R195, R375, R484): the interlock is released and keys are overwritten. -/
def execStandbySaveEnd (s : State) : Host.Outcome State Fault Refusal :=
  if s.atPwr .save then
    let s1 := (s.protOff.keyWipe).pwrStep .off
    State.done { s1 with pwr := { s1.pwr with structuredBefore := s.structured } }
  else s.done

/-- STANDBY_OFF_END (R450, R484): the device is in Standby; a wake event held on the way starts the wake. -/
def execStandbyOffEnd (s : State) : Host.Outcome State Fault Refusal :=
  if s.atPwr .off then
    let held := s.link.wakeHeld
    let s1 := (s.standbyOff.put PWR_STATUS.state 3).inc PWR_STBY_CNT.count
    let s2 : State := { s1 with link := { s1.link with wakeHeld := 0 } }
    (if held = 0 then s2 else s2.wakeStart held).done
  else s.done

/-! ## Wake (R486 to R488) -/

/-- WAKE_RAILS_GOOD (R486): the clock start-up begins. -/
def execWakeRailsGood (s : State) : Host.Outcome State Fault Refusal :=
  if s.atPwr .wakeRails then ((s.pwrStep .wakeClocks).clocksStart).done else s.done

/-- Every register on the SerDes chiplets at its reset value, the configuration bank being lost (R488). -/
def State.chipletRegs (s : State) : State :=
  regRows.foldl (fun s r =>
    if r.owner = .chiplet then
      (List.range r.n1).foldl (fun s i => (List.range r.n2).foldl (fun s j =>
        (r.fields i j).foldl (fun s e => if e.2 == .w1cs then s else s.rst e.1) s) s) s
    else s) s

/-- The configuration bank mismatches in Restore (R488): the device ends Unstructured. -/
def State.configLost (s : State) : State :=
  let s1 := (((s.setBit (MGT_RET_FAIL.banks 4) 27).tlog 0x08 .mgt 155).resetRegs 23).buildingOff.chipletRegs
  let s2 := (List.range 12).foldl (fun s k => s.put (SIL_IMAGE_HASH.hash k) 0) (s1.put SIL_STATUS.state 0)
  (s2.leaveOff 23).setBit WP_ALERT.sources 2

/-- The Restore step of a wake (R483, R486): islands are in Run again as the structure before Standby had them, and the banks named fail
their check. -/
def State.wakeRestore (s : State) (bad : List Nat) : State :=
  if bad.contains 155 then s.configLost
  else if s.pwr.structuredBefore then
    let s1 := ((List.range 27).map (· + 1)).foldl State.leaveOff s
    ((bad.foldl State.bankFail s1).banksFail bad).timeStart
  else s.leaveOff 23

/-- WAKE_RESTORE_END (R486, R488). -/
def execWakeRestoreEnd (badBanks : List (Fin 156)) (s : State) : Host.Outcome State Fault Refusal :=
  if s.atPwr .wakeRestore then ((s.wakeRestore (badBanks.map (·.val))).pwrStep .wakeResume).done else s.done

/-- WAKE_RESUME_END (R486): the device is in Run, and the link begins R426. -/
def execWakeResumeEnd (s : State) : Host.Outcome State Fault Refusal :=
  if s.atPwr .wakeResume then
    let s1 := ((s.put PWR_STATUS.state 1).set1 PWR_EVENT.wake_done).inc PWR_WAKE_CNT.count
    let s2 := s1.pwrStep .none
    State.done { s2 with pwr := { s2.pwr with ingressOff := false } }
  else s.done

/-- WAKE_STEP_TIMEOUT (R486, R487): the step is run once more, and then the wake fails with its cause. -/
def execWakeStepTimeout (s : State) : Host.Outcome State Fault Refusal :=
  match s.pwr.step with
  | .wakeSupply => s.negTimeout.done
  | .wakeClocks => s.clockTimeout.done
  | .wakeRails => (if s.pwr.retried then s.wakeFail 2 else { s with pwr := { s.pwr with retried := true } }).done
  | .wakeRestore => (if s.pwr.retried then s.wakeFail 6 else { s with pwr := { s.pwr with retried := true } }).done
  | _ => s.done

/-! ## Boot (R489) and RESET_N (R535) -/

/-- BOOT_FEED_END (R489): VCORE_AON and VIO are power-good. -/
def execBootFeedEnd (s : State) : Host.Outcome State Fault Refusal :=
  if s.atPwr .feed then (s.pwrStep .island0).done else s.done

/-- BOOT_ISLAND0_END (R446, R480, R489, R533): island 0 leaves reset, and the straps WAKE_AD0, WAKE_AD1 and PROT_PRIO, bits 0 to 2, are
sampled; the Supply step begins. -/
def execBootIsland0End (straps : BitVec 3) (s : State) : Host.Outcome State Fault Refusal :=
  if s.atPwr .island0 then
    let ad := 0x58 + straps.toNat % 4
    let s1 := ((s.put WP_CFG.mgmt_addr ad).put WP_CFG.wake_addr (ad + 8)).put MGT_PROT_STATUS.prio (straps.toNat / 4)
    let r := State.raise (s1.pwrStep .bootSupply) .boot s1.darkEst
    (if r.2 then r.1 else r.1.pwrStep .bootRails).done
  else s.done

/-- BOOT_RAILS_GOOD (R489): every rail except VHBM is power-good; the clock start-up begins. -/
def execBootRailsGood (s : State) : Host.Outcome State Fault Refusal :=
  if s.atPwr .bootRails then ((s.pwrStep .bootClocks).clocksStart).done else s.done

/-- BOOT_STEP_TIMEOUT (R489). -/
def execBootStepTimeout (s : State) : Host.Outcome State Fault Refusal :=
  match s.pwr.step with
  | .feed => (s.pwrStep .feed).done
  | .island0 => (s.pwrStep .feed).done
  | .bootSupply => s.negTimeout.done
  | .bootRails =>
    (if s.pwr.retried then (s.set1 PWR_EVENT.rail_fault).pwrStep .bootStopped
     else { s with pwr := { s.pwr with retried := true } }).done
  | .bootClocks => s.clockTimeout.done
  | _ => s.done

/-- BOOT_LINK_END (R47, R449, R489): island 23 is in Run and LINK begins R426; the device is Unstructured. -/
def execBootLinkEnd (s : State) : Host.Outcome State Fault Refusal :=
  if s.atPwr .bootLink then
    ((((s.leaveOff 23).put PWR_STATUS.state 1).setBit WP_ALERT.sources 2).pwrStep .none).done
  else s.done

/-- RESET_N_ASSERT (R489, R535): RESET_N has been low for 10 µs. -/
def execResetNAssert (s : State) : Host.Outcome State Fault Refusal :=
  (State.deviceReset { s with pwr := { s.pwr with resetN := true } } .resetHeld).done

/-- RESET_N_RELEASE (R489, R535): RESET_N rises, and the boot order runs from its start once a feed is there. -/
def execResetNRelease (s : State) : Host.Outcome State Fault Refusal :=
  if s.pwr.resetN then (State.bootGo { s with pwr := { s.pwr with resetN := false } }).done else s.done

end Sys2Proof.Machine
end

