-- ==== Sys2Proof/Machine/Reliability.lean ====
section
/-! DEFINITION. The commands of reliability, spares and policy cores: error correction (R496 to R499), the Trouble Log (R500), parts and
spares (R503 to R508), cores and firmware (R509 to R511), work queues and send rings (R513 to R516). -/

namespace Sys2Proof.Machine

/-! ## Stored words (R496 to R499) -/

/-- The threshold of R499. -/
def State.ceThreshold (s : State) : Nat := max 2 (s.get REL_CE_CFG.threshold)

/-- A correctable error in a group (R496, R499). -/
def State.ceError (s : State) (g : Nat) : State :=
  let n := min 65535 (s.get (REL_CE_LEVEL.value g) + 1)
  let s1 := (s.inc REL_CE_CNT.count).put (REL_CE_LEVEL.value g) n
  if s1.ceThreshold ≤ n ∧ !s1.rel.disarmed.contains g then
    { s1.setBit REL_CE_SUMMARY.value g with rel := { s1.rel with disarmed := g :: s1.rel.disarmed } }
  else s1

/-- An uncorrectable word (R496): it becomes poison and is counted and recorded. -/
def State.ueError (s : State) (g a : Nat) : State :=
  let w := g + a % 2 ^ 24 * 256
  let s1 := if 0x1000000000 ≤ a then s.poisonWord (a / 8 * 8) else s
  (((s1.inc REL_UE_CNT.count).put REL_UE_LAST.last w).set1 REL_EVENT.ue).tlog 0x03 .rel w

/-- The part of class 0x3 or 0x6 that a word lies in, with the uncorrectable reads in 1 s at which it has failed (R507). -/
def State.uePart (s : State) (a : Nat) : Option (Nat × Nat × Nat) :=
  if hbmBase ≤ a then some (3, s.dataPc ((a - hbmBase) / 2048 % 256) ((a - hbmBase) % 2048 / 256), 4)
  else if 0x1020000000 ≤ a ∧ a < 0x1020800000 then some (6, s.get (FWD_BANK_MAP.phys ((a - 0x1020000000) / 1048576)), 8)
  else none

/-- An uncorrectable read counts against its part, which fails when there have been enough of them within 1 s (R507). -/
def State.ueCount (s : State) (a : Nat) : State :=
  match s.uePart a with
  | none => s
  | some (c, p, n) =>
    let l := ((mgetD (c * 4096 + p) [] s.rel.ueUs).filter fun u => decide (s.us < u + 1000000)) ++ [s.us]
    if n ≤ l.length then State.failPart { s with rel := { s.rel with ueUs := mdel (c * 4096 + p) s.rel.ueUs } } c p
    else { s with rel := { s.rel with ueUs := mset (c * 4096 + p) l s.rel.ueUs } }

/-- The word is stored and marked as poison (R497). -/
def State.readsPoison (s : State) (a : Nat) : Bool := decide (0x1000000000 ≤ a) && s.poisoned (a / 8 * 8)

/-- SCRUB_READ (R496 to R498, R507): the scrubber reads a word of a group; `working` says that it holds an island's working state. A
poisoned word reads as poison, whatever the error. -/
def execScrubRead (g : Fin 32) (a : BitVec 40) (ecc : Ecc) (working : Bool) (s : State) : Host.Outcome State Fault Refusal :=
  if s.readsPoison a.toNat then (s.inc REL_POISON_RD_CNT.count).done
  else match ecc with
  | .ok => s.done
  | .correctable => (s.ceError g.val).done
  | .uncorrectable =>
    let s1 := (s.ueError g.val a.toNat).ueCount a.toNat
    if working then (s1.resetIsland g.val 4).done else s1.done

/-- A group's level falls by one at a leak instant, and the group is armed again at half the threshold (R499). -/
def State.leakGroup (s : State) (g : Nat) : State :=
  let n := s.get (REL_CE_LEVEL.value g) - 1
  let s1 := s.put (REL_CE_LEVEL.value g) n
  if n ≤ s.ceThreshold / 2 then { s1 with rel := { s1.rel with disarmed := s1.rel.disarmed.filter (· != g) } } else s1

/-- CE_LEAK (R499): a leak instant. -/
def execCeLeak (s : State) : Host.Outcome State Fault Refusal := ((List.range 32).foldl State.leakGroup s).done

/-! ## The Trouble Log (R500) -/

/-- The Trouble Log is emptied (R500). -/
def State.tlogClear (s : State) : State :=
  let s1 := (s.put REL_TLOG_HEAD.head 0).put REL_TLOG_HEAD.wrapped 0
  { s1 with rel := { s1.rel with tlog := [], tlogSeq := 0 } }

/-- TLOG_CLEAR (R500): the log is emptied. -/
def execTlogClear (s : State) : Host.Outcome State Fault Refusal := s.tlogClear.done

/-- Word w of a Trouble Log entry (R500); an entry not written reads 0. -/
def tlogWord (e : Option TlogEntry) (w : Nat) : Nat :=
  match e with
  | none => 0
  | some x => match w with
    | 0 => x.seq % 65536 * 65536 + x.kind * 256 + x.source
    | 1 => x.arg
    | 2 => x.timeUs % 2 ^ 32
    | _ => x.timeUs / 2 ^ 32 % 2 ^ 32

/-- Word 0 of entry e is read by requester r, which latches its other words (R500). -/
def State.tlogRead0 (s : State) (r e : Nat) : State × Nat :=
  let x := mget e s.rel.tlog
  let l := match x with
    | some y => mset (r * 64 + e) y s.rel.tlogLatch
    | none => mdel (r * 64 + e) s.rel.tlogLatch
  ({ s with rel := { s.rel with tlogLatch := l } }, tlogWord x 0)

/-- TLOG_WORD0_READ (R500). -/
def execTlogWord0Read (r : Requester) (e : Fin 64) (s : State) : Host.Outcome State Fault Refusal :=
  let x := s.tlogRead0 r.val e.val
  (x.1.answer r.val 0 [BitVec.ofNat 64 x.2]).done

/-! ## Parts and spares -/

/-- The wear monitor that shows a part (R518). -/
def State.wearOf (s : State) (c part : Nat) : Option Nat :=
  match c with
  | 1 => some (24 + slicePart (part / 32 % 2) (s.get (REL_SLICE_MAP.slice (part / 32 % 2) (part % 32))))
  | 3 => if part < 128 then some (96 + part) else none
  | 6 => if part < 9 then some (364 + part) else none
  | 7 => if part < 24 then some part else none
  | 0xF => if part < 156 then some (224 + part) else none
  | _ => none

/-- The wear threshold of a class in percent (R65, R503); 90 for the SRAM banks with no spare. -/
def State.wearThr (s : State) (c : Nat) : Nat := if c = 0xF then 90 else (mgetD c {} s.struct.spare).wearThr

/-- WEAR_THRESHOLD (R503): a part reaches the wear threshold of its class. -/
def execWearThreshold (cls : BitVec 4) (part : BitVec 12) (s : State) : Host.Outcome State Fault Refusal :=
  let c := cls.toNat
  let s1 := match s.wearOf c part.toNat with
    | some k => s.put (REL_WEAR.wear_pct k) (max (s.get (REL_WEAR.wear_pct k)) (s.wearThr c))
    | none => s
  (s1.wornPart c part.toNat).done

/-- PART_FAILURE (R505 to R508): a part of a spare class is declared failed. -/
def execPartFailure (cls : BitVec 4) (part : BitVec 12) (s : State) : Host.Outcome State Fault Refusal :=
  (s.failPart cls.toNat part.toNat).done

/-- The fields of a write to REL_SWAP_CMD. -/
def State.swapCmd (s : State) (d : Nat) : State :=
  ((s.put REL_SWAP_CMD.op (REL_SWAP_CMD.op.of d)).put REL_SWAP_CMD.class_ (REL_SWAP_CMD.class_.of d)).put REL_SWAP_CMD.part
    (REL_SWAP_CMD.part.of d)

/-- The substitution that REL_SWAP_CMD began is under way, or waits for Release: go reads 1 (R9, R75, R505). -/
def State.goRuns (s : State) : Bool :=
  match s.rel.goSwap with
  | none => false
  | some (c, p) => s.sil.deferredSwaps.contains (c, p) || (match c with
    | 1 => s.rel.swaps.any fun w => w.lane == p
    | 3 => s.shm.rebuilding.contains p
    | 5 => s.mir.loading == some (1 - p)
    | 6 => s.fwd.copy.any fun e => s.bankOf p == some e.1
    | 8 => (decide (s.link.swap ≠ .none) && s.link.swapLane == p) || s.link.swapWaiting.contains p
    | _ => false)

/-- The substitution is that of REL_SWAP_CMD. -/
def State.goMark (s : State) (c part : Nat) : State := { s with rel := { s.rel with goSwap := some (c, part) } }

/-- REL_SWAP_CMD is written with go: op 0x1 or 0x2 is carried out, another op ignored (R505, R518); a go that is written while its act
runs is ignored (R9). -/
def State.swapGo (s : State) (d : Nat) : State :=
  let s1 := s.swapCmd d
  let c := REL_SWAP_CMD.class_.of d
  if !bit1 d 31 || s.goRuns then s1
  else if REL_SWAP_CMD.op.of d = 1 then (s1.swapPart c (REL_SWAP_CMD.part.of d)).goMark c (REL_SWAP_CMD.part.of d)
  else if REL_SWAP_CMD.op.of d = 2 then (s1.approveSwap c).goMark c (s.get (REL_SPARE.pending_part (c - 1)))
  else s1

/-- An approve and a host swap of one class land in the same cycle (R512): the approve is carried out first. -/
def State.swapTogether (s : State) (c part : Nat) : State :=
  let s1 := s.swapCmd (part + c * 2 ^ 20 + 2 ^ 24)
  ((s1.approveSwap c).swapPart c part).goMark c part

/-- REL_SWAP_PART (R505): a write of REL_SWAP_CMD with op 0x1. -/
def execRelSwapPart (d : BitVec 32) (s : State) : Host.Outcome State Fault Refusal :=
  (s.swapGo (withBits (withBits d.toNat 24 4 1) 31 1 1)).done

/-- REL_SWAP_APPROVE (R505): a write of REL_SWAP_CMD with op 0x2. -/
def execRelSwapApprove (d : BitVec 32) (s : State) : Host.Outcome State Fault Refusal :=
  (s.swapGo (withBits (withBits d.toNat 24 4 2) 31 1 1)).done

/-- The slice swap of a lane that stands at a step. -/
def State.swapAt (s : State) (lane : Nat) (p : SliceStep) : Option SliceSwap :=
  s.rel.swaps.find? fun w => w.lane == lane && decide (w.step = p)

/-- The state with a slice swap replaced. -/
def State.setSwap (s : State) (w : SliceSwap) : State :=
  { s with rel := { s.rel with swaps := s.rel.swaps.map fun x => if x.lane = w.lane then w else x } }

/-- The state without the slice swap of a lane. -/
def State.dropSwap (s : State) (lane : Nat) : State :=
  { s with rel := { s.rel with swaps := s.rel.swaps.filter fun w => w.lane != lane } }

/-- SLICE_PREPARE_END (R508): the spare is trained; the lane switches at the next tree-frame tick. -/
def execSlicePrepareEnd (lane : Fin 64) (s : State) : Host.Outcome State Fault Refusal :=
  match s.swapAt lane.val .prepare with
  | some w => (s.setSwap { w with step := .switch }).done
  | none => s.done

/-- SLICE_PREPARE_TIMEOUT (R508): the spare is marked failed and the next spare is tried; with none left the loss of R507 stands
where the old slice has failed. -/
def execSlicePrepareTimeout (lane : Fin 64) (s : State) : Host.Outcome State Fault Refusal :=
  match s.swapAt lane.val .prepare with
  | none => s.done
  | some w =>
    let s1 := s.retireSlice (w.lane / 32) w.spare
    match s1.freeSlice (w.lane / 32) with
    | some sl => ((s1.takeSpare 1).setSwap { w with spare := sl }).done
    | none =>
      let s2 := (s1.dropSwap w.lane).set1 REL_EVENT.exhausted
      if w.failed then ((s2.spareLoss 1 w.lane).lossOf 1 w.lane).done else s2.done

/-- SLICE_REBIND_END (R508): the receive direction of a tree lane is rebound, and the swap ends. -/
def execSliceRebindEnd (lane : Fin 64) (s : State) : Host.Outcome State Fault Refusal :=
  match s.swapAt lane.val .upstream with
  | some w => (s.dropSwap w.lane).done
  | none => s.done

/-! ## Policy cores and firmware (R509 to R511) -/

/-- A core crashes (R509, R526): it restarts, and is retired at its third crash within 60 s. -/
def State.crashCore (s : State) (c reason : Nat) : State :=
  if s.get (POL_CORE.state c) ≠ 0 then s
  else
    let l := ((mgetD c [] s.rel.crashUs).filter fun u => decide (s.us < u + 60000000)) ++ [s.us]
    let s1 := ((s.inc POL_CRASH_CNT.count).tlog 0x0A .pol (c + reason * 16)).put (POL_CORE.last_reason c) reason |>.set1 MGT_INT_AUX.pol_crash
    let s2 : State := { s1.put (POL_CORE.crashes c) (min 15 l.length) with rel := { s1.rel with crashUs := mset c l s1.rel.crashUs } }
    if 3 ≤ l.length then s2.failPart 4 c else s2.put (POL_CORE.state c) 2

/-- POL_WATCHDOG_EXPIRY (R509): reason 0x1. -/
def execPolWatchdogExpiry (c : Fin 10) (s : State) : Host.Outcome State Fault Refusal := (s.crashCore c.val 1).done

/-- POL_FATAL_TRAP (R509): reason 0x2. -/
def execPolFatalTrap (c : Fin 10) (s : State) : Host.Outcome State Fault Refusal := (s.crashCore c.val 2).done

/-- POL_CORE_RESTARTED (R509, R510): a core has restarted and takes back its queue; a firmware load goes on to the next core. -/
def execPolCoreRestarted (c : Fin 10) (s : State) : Host.Outcome State Fault Refusal :=
  if s.get (POL_CORE.state c.val) ≠ 2 then s.done
  else
    let s1 := s.put (POL_CORE.state c.val) 0
    if s1.rel.fwLoading ∧ s1.rel.fwTurn.head? = some c.val then
      (State.fwNext { s1 with rel := { s1.rel with fwTurn := s1.rel.fwTurn.drop 1 } }).done
    else s1.done

/-- n octets of the staged firmware image from an offset (R510). -/
def State.fwImg (s : State) (o n : Nat) : List Byte := s.bytesAt (s.hbmReg POL_FW_BASE.value + o) n

/-- A number in the staged firmware image. -/
def State.fwN (s : State) (o n : Nat) : Nat := ofOctets (s.fwImg o n)

/-- What the checks of a firmware image find: 0, or an error code of R54, R72 and R510. -/
def State.fwErr (s : State) : Nat :=
  let len := s.get POL_FW_LEN.value
  let sig := s.fwN 36 4
  if s.fwN 0 4 ≠ 0x4E424657 then 1
  else if s.fwN 4 2 ≠ 1 then 2
  else if s.fwN 7 1 ≠ s.get MGT_IDENTITY.rev then 3
  else if s.fwN 8 4 ≠ len ∨ 16777216 < len ∨ sig + 200 ≠ len then 4
  else if 3 < s.fwN 13 1 then 7
  else match s.sigErr (s.fwN 13 1) (Config.sha384 (s.fwImg 0 sig)) (s.fwImg sig 200) with
    | some e => e
    | none => if s.fwN 14 2 < s.get SIL_FUSE_SVN.min_svn then 0xA else 0

/-- POL_FW_LOAD (R510): a firmware image is checked and, if good, each core restarts from it in turn. -/
def State.fwLoad (s : State) : State :=
  if !s.structured || s.rel.fwLoading then s
  else match s.fwErr with
    | 0 =>
      let s1 := ((s.put POL_FW_STATUS.svn (s.fwN 14 2)).put POL_FW_STATUS.error 0).set1 POL_FW_STATUS.running
      let s2 := s1.set1 POL_FW_STATUS.busy
      State.fwNext { s2 with rel := { s2.rel with
        fwLoading := true, fwTurn := (List.range 10).filter fun c => s2.get (POL_CORE.state c) == 0 } }
    | e => (s.put POL_FW_STATUS.error e).set1 MGT_INT_AUX.fw_load_failed

/-- POL_FW_LOAD (R510). -/
def execPolFwLoad (s : State) : Host.Outcome State Fault Refusal := s.fwLoad.done

/-! ## Work queues and send rings (R515, R516) -/

/-- The written entry of a queue with the lowest seq (R515). -/
def State.wqOldest (s : State) (c : Nat) : Option (Nat × WqEntry) :=
  (s.rel.wq.filter fun e => e.1 / 4096 == c && decide (e.2.state = .written)).foldl (fun b e =>
    match b with
    | some x => if e.2.seq < x.2.seq then some e else some x
    | none => some e) none

/-- A read of POL_WQ_TAKE_c (R515): the word read, and the entry taken. -/
def State.wqTake (s : State) (c : Nat) : State × Nat :=
  match s.wqOldest c with
  | some (k, e) => ({ s with rel := { s.rel with wq := mset k { e with state := .taken } s.rel.wq } }, 2 ^ 31 + k % 4096)
  | none => (s, 0)

/-- WQ_TAKE (R515). -/
def execWqTake (r : Requester) (c : Fin 10) (s : State) : Host.Outcome State Fault Refusal :=
  let x := s.wqTake c.val
  (x.1.answer r.val 0 [BitVec.ofNat 64 x.2]).done

/-- An entry of a queue that stands in a state becomes free. -/
def State.wqFree (s : State) (c e : Nat) (st : WqState) : Option State :=
  match mget (wqKey c e) s.rel.wq with
  | some x => if x.state = st then some { s with rel := { s.rel with wq := mdel (wqKey c e) s.rel.wq } } else none
  | none => none

/-- A write to POL_WQ_DONE_c frees the taken entry named (R515). -/
def State.wqDone (s : State) (c d : Nat) : State := (s.wqFree c (d % 4096) .taken).getD s

/-- WQ_DONE (R515). -/
def execWqDone (c : Fin 10) (d : BitVec 32) (s : State) : Host.Outcome State Fault Refusal := (s.wqDone c.val d.toNat).done

/-- WQ_ITEM_AGED (R515, R20): the deadline of a written entry passes; the default actions of R20 leave the state as it is. -/
def execWqItemAged (c : Fin 10) (e : BitVec 12) (s : State) : Host.Outcome State Fault Refusal :=
  match s.wqFree c.val e.toNat .written with
  | some s1 => (s1.inc POL_WQ_AGED_CNT.count).done
  | none => s.done

/-- Word 1 of an exception frame is in range (R442). -/
def excWordOk (w len : Nat) : Bool :=
  decide (60 ≤ bitsOf w 46 14 ∧ bitsOf w 46 14 ≤ 16380) && decide (bitsOf w 46 14 = len) && !bit1 w 60 &&
    (!bit1 w 61 || decide (bitsOf w 0 30 < 1000000000))

/-- The launch time of an exception frame, if its word 1 carries one (R442), resolved as an AGR window start is (R158). -/
def State.excLaunch (s : State) (w : Nat) : Option Nat :=
  if bit1 w 61 then some (s.agrStart (bitsOf w 30 16) (bitsOf w 0 30)) else none

/-- An exception frame enters the Prism of a slice with its FCS appended (R236, R442, R516). -/
def State.injectExc (s : State) (w : Nat) (frame : List Byte) (o : Origin) (sl : Nat) : State :=
  let s1 := s.arrive (frame ++ fcsOctets frame) o none sl
  { s1 with pr := { s1.pr with
      frames := s1.pr.frames.map fun f => if f.id = s.pr.nextId then { f with launch := s.excLaunch w } else f } }

/-- The address of an entry of a send ring (R516). -/
def State.txAddr (s : State) (c sl e : Nat) : Nat :=
  s.hbmReg POL_TX_BASE.base + ((4 * c + sl) * max 1 (s.get POL_RING_CFG.tx_size) + e) * 16448

/-- SEND_RING_ENTRY (R516): hardware takes the next entry of a send ring. -/
def execSendRingEntry (c : Fin 10) (sl : Slice) (s : State) : Host.Outcome State Fault Refusal :=
  let e := s.get (POL_TX_CONS.index c.val sl.val)
  if e = s.get (POL_TX_PROD.index c.val sl.val) then s.done
  else
    let a := s.txAddr c.val sl.val e
    let w := s.tword a
    let len := bitsOf w 46 14
    let s1 := s.put (POL_TX_CONS.index c.val sl.val) ((e + 1) % max 1 (s.get POL_RING_CFG.tx_size))
    let resv := (s.bytesAt (a + 8) 24).any (· != 0)
    if excWordOk w len ∧ !resv then (s1.injectExc w (s.bytesAt (a + 32) len) (.core c.val sl.val) sl.val).done
    else (s1.inc POL_TX_BAD_CNT.count).done

end Sys2Proof.Machine
end

