-- ==== Sys2Proof/Machine/Views.lean ====
section
/-! DEFINITION. What a read of a register returns (R9): the fields that show what the device does at the moment are computed from
the state, all others stand in State.fld. -/

namespace Sys2Proof.Machine

/-- MGT_PROT_US_LIGHT: upstream light on the protected trees while this device does not hold (R201); the light itself is an open
value. -/
def State.usLight (s : State) : Nat := if s.holdsLock then 0 else s.freeVal &&& bitSum s.protTrees

/-- The calibration banks with an Unwritten record (BC_STATUS, R227). -/
def State.unwrittenBanks (s : State) : Nat :=
  bitSum ((List.range 8).filter fun k => s.rx.any fun e => e.1 / 1024 == k && decide (e.2.state = .unwritten))

/-- The terminals of a tree that a burst profile serves (BC_PROF.terms): Calibrated ones with it; on profile 3 all that use it. -/
def State.profTerms (s : State) (t p : Nat) : Nat :=
  if p = 3 then ((s.termsOf t).filter fun e => decide (e.2.state = .operation) && s.giveProfile t e.1 == 3).length
  else (s.rx.filter fun e => e.1 / 256 == t && decide (e.2.state = .calibrated) && e.2.prof.toNat == p).length

/-- Key slots in a state that a test picks (CIP_STATUS). -/
def State.slotsIn (s : State) (p : SaState → Bool) : Nat := (s.kv.slots.filter fun e => p e.2.state).length

/-- Frames that wait for a token in a slice (PR_SLICE_STATUS). -/
def State.waitingIn (s : State) (sl : Nat) : Nat :=
  (s.pr.frames.filter fun f => decide (f.stage = .token) && f.slice == sl).length

/-- A Standby entry runs (R484). -/
def State.standbyRuns (s : State) : Bool := s.atPwr .stop || s.atPwr .drain || s.atPwr .save || s.atPwr .off

/-- A field of the tree blocks (R99, R117, R113). -/
def State.viewTe (s : State) (n : RName) (i : Nat) (f : Fld) : Nat :=
  match n with
  | .TE_STATUS =>
    if f.lo = 8 then s.activeCount i
    else if f.lo = 5 then (s.laserPermit i).toNat
    else if f.lo = 4 then (s.txdis i).toNat
    else s.get f
  | .TE_RNG_STATUS => if f.lo = 8 then s.heldCount i else s.get f
  | .TE_CS_CTRL => (s.tree i).sfcLoadPending.toNat
  | _ => s.get f

/-- A field of the Grant Engine or the Burst Calibrator (R148, R229, R231). -/
def State.viewGe (s : State) (n : RName) (i j : Nat) (f : Fld) : Nat :=
  match n with
  | .GE_STATUS => if f.lo = 16 then s.ge.agr.length else s.get f
  | .GE_TREE_STAT => if f.lo = 24 then (if (s.treeEntry i).enabled then s.wordOct i else 0) else if f.lo = 12 then (if (s.treeEntry i).enabled then s.ovhMax i else 0) else s.guarCount i
  | .GE_TREE_COMMIT => s.committed i
  | .BC_STATUS => s.unwrittenBanks
  | .BC_TREE_STAT => if f.lo = 0 then s.needMax i else s.get f
  | .BC_PEND => (s.bc.reqs.filter fun r => r.tree == i).length
  | .BC_PROF => if f.lo = 23 then s.profTerms i j else s.get f
  | _ => s.get f

/-- A field of the Prisms, FWD, the Shelf Manager, the Journal or the ciphers (R268, R289, R317, R323, R382). -/
def State.viewPr (s : State) (n : RName) (i j : Nat) (f : Fld) : Nat :=
  match n with
  | .PR_CTRL => if f.lo = 1 then s.get PR_GEN_STATUS.draining else s.get f
  | .PR_GEN_STATUS => if f.lo = 8 then s.inflight else s.get f
  | .PR_SLICE_STATUS => if f.lo = 16 then min 2047 (s.waitingIn i) else s.tokensFree i
  | .FWD_STATUS => if f.lo = 0 then s.fwdEntries.length else s.get f
  | .FWD_NOW => s.fwdNow
  | .SHM_SHARED_FREE => (s.sharedFree i).toNat
  | .SHM_RECIRC_FREE => s.recircFree i
  | .SHM_USE => s.usedBy i j
  | .JNL_USED => s.slotsUsed.length
  | .CIP_STATUS =>
    if f.lo = 16 then s.slotsIn fun x => decide (x = .keyWait) else s.slotsIn fun x => decide (x ≠ .empty)
  | _ => s.get f

/-- The power controller does not run yet: the Island 0 step of the boot order has not ended (R489). The estimate reads 0 until then
(DEDUCED, log 156). -/
def State.preIsland0 (s : State) : Bool :=
  s.get PWR_STATUS.state == 0 && (s.atPwr .none || s.atPwr .resetHeld || s.atPwr .feed || s.atPwr .island0)

/-- A field of the Time Unit, the links, power or MGT (R201, R401, R432, R477, R523). -/
def State.viewSys (s : State) (n : RName) (i : Nat) (f : Fld) : Nat :=
  match n with
  | .MGT_INT_SUMMARY => s.summary
  | .MGT_INT_TREE => s.intTrees
  | .MGT_PROT_US_LIGHT => s.usLight
  | .MGT_PROT_CTRL => if f.lo = 0 then (decide (s.prot.step ≠ .none)).toNat else (s.prot.releaseAtTick || s.prot.offDelay).toNat
  | .MGT_OPT_CMD => if f.lo = 31 then s.get (MGT_OPT_STATUS.busy i) else s.get f
  | .SIL_CTRL =>
    if f.lo = 0 then (decide (s.sil.step ≠ .idle)).toNat
    else if f.lo = 1 then (s.sil.unstructPending || (s.on SIL_STATUS.busy && decide (s.sil.step = .idle))).toNat
    else s.get f
  | .MIR_CTRL =>
    if f.lo = 2 then (s.mir.forced || s.mir.checking).toNat else if f.lo = 1 then s.mir.loading.isSome.toNat else s.get f
  | .TU_STATUS =>
    if f.lo = 3 then (decide (s.remain ≠ 0)).toNat
    else if f.lo = 2 then (decide (s.tu.f ≠ s.freqTarget)).toNat
    else s.get f
  | .TU_CTRL => if f.lo = 1 then s.tu.absPending.isSome.toNat else s.get f
  | .TU_TIME_NS => s.todNs % 1000000000
  | .TU_TIME_S => s.todNs / 1000000000
  | .TU_LOCAL => s.localNs
  | .UL_LANE_STATUS => if f.lo = 29 then (s.up 22 && s.hasSlice i).toNat else s.get f
  | .BENCH_CTRL => if f.lo = 0 then (s.benchSt i).inject.toNat else s.get f
  | .LM_STATUS => if f.lo = 0 then s.link.unacked.length else s.get f
  | .LM_CTRL => if f.lo = 31 then (decide (s.link.swap ≠ .none)).toNat else s.get f
  | .LM_CREDIT => if f.lo = 16 then mgetD i 0 s.link.txAvail else s.get f
  | .PWR_BUDGET => if f.lo = 16 then s.cap else if s.preIsland0 then 0 else s.est
  | .PWR_CTRL => s.standbyRuns.toNat
  | .REL_SWAP_CMD => if f.lo = 31 then s.goRuns.toNat else s.get f
  | .POL_FW_CTRL => s.get POL_FW_STATUS.busy
  | .POL_CORE =>
    if f.lo = 0 then min 15 ((mgetD i [] s.rel.crashUs).filter fun u => decide (s.us < u + 60000000)).length else s.get f
  | _ => s.get f

/-- The registers whose fields viewTe computes. -/
def RName.isTe (n : RName) : Bool := n == .TE_STATUS || n == .TE_RNG_STATUS || n == .TE_CS_CTRL

/-- The registers whose fields viewGe computes. -/
def RName.isGe (n : RName) : Bool :=
  n == .GE_STATUS || n == .GE_TREE_STAT || n == .GE_TREE_COMMIT || n == .BC_STATUS || n == .BC_TREE_STAT || n == .BC_PEND ||
    n == .BC_PROF

/-- The registers whose fields viewPr computes. -/
def RName.isPr (n : RName) : Bool :=
  n == .PR_CTRL || n == .PR_GEN_STATUS || n == .PR_SLICE_STATUS || n == .FWD_STATUS || n == .FWD_NOW || n == .SHM_SHARED_FREE ||
    n == .SHM_RECIRC_FREE || n == .SHM_USE || n == .JNL_USED || n == .CIP_STATUS

/-- What a field reads as, apart from its access type. -/
def State.view (s : State) (n : RName) (i j : Nat) (f : Fld) : Nat :=
  if n.isTe then s.viewTe n i f
  else if n.isGe then s.viewGe n i j f
  else if n.isPr then s.viewPr n i j f
  else s.viewSys n i f

/-- What a field reads as: a WO field reads 0 (R9). -/
def State.fieldRead (s : State) (h : Hit) (e : Fld × Acc) : Nat :=
  if e.2 = .wo then 0 else s.view h.row.name h.i h.j e.1 % 2 ^ e.1.width

/-- The whole value of a register, both halves of a pair; reserved bits read 0 (R12). -/
def State.regValue (s : State) (h : Hit) : Nat :=
  (h.row.fields h.i h.j).foldl (fun w e => w + s.fieldRead h e * 2 ^ e.1.lo) 0

end Sys2Proof.Machine
end

