-- ==== Sys2Proof/Machine/Registers.lean ====
section
/-! DEFINITION. Register access (R9, R38, R439, R521, R522, R548): what a read answers and does, and what a write does, the
writes that a rule gives an effect of their own included. -/

namespace Sys2Proof.Machine

/-! ## Reads -/

/-- The address of a register. -/
def Hit.addr (h : Hit) : Nat := h.row.base + h.i * h.row.s1 + h.j * h.row.s2

/-- The key of a requester's latch for the pair at an address (R522). -/
def latchKey (r a : Nat) : Nat := a * 16 + r

/-- The half of a value that a hit names. -/
def Hit.half (h : Hit) (v : Nat) : Nat := if h.hi then v / 2 ^ 32 % 2 ^ 32 else v % 2 ^ 32

/-- The seconds that a read of a nanosecond register latches (R401): the group's seconds register and its value. -/
def State.todGroup (s : State) (n : RName) : Option (Nat × Nat) :=
  match n with
  | .TU_TIME_NS => some (0x90000014, s.todNs / 1000000000)
  | .TU_PPS_IN_NS => some (0x9000004C, s.get TU_PPS_IN_S.value)
  | .TU_TOD_RES_NS => some (0x90000074, s.get TU_TOD_RES_S.value)
  | _ => none

/-- A seconds register of a time-of-day group (R401). -/
def RName.isTodS (n : RName) : Bool := n == .TU_TIME_S || n == .TU_PPS_IN_S || n == .TU_TOD_RES_S || n == .TU_TXTS_S

/-- The RC fields of a register are cleared by its read (R9). -/
def State.readClears (s : State) (h : Hit) : State :=
  (h.row.fields h.i h.j).foldl (fun s e => if e.2 = .rc then s.put e.1 0 else s) s

/-- A read of a pair (R522): LO latches the upper half for the requester, HI returns what was latched. -/
def State.pairRead (s : State) (r : Nat) (h : Hit) : State × Nat :=
  let v := s.regValue h
  let k := latchKey r h.addr
  if h.row.name.isTodS then (s, h.half ((mget k s.todLatch).getD v))
  else if h.hi then (s, (mget k s.latch).getD (v / 2 ^ 32 % 2 ^ 32))
  else ({ s with latch := mset k (v / 2 ^ 32 % 2 ^ 32) s.latch }, v % 2 ^ 32)

/-- A read of a register by a requester: the state after it and the word read. -/
def State.readReg (s : State) (r : Nat) (h : Hit) : State × Nat :=
  match h.row.name with
  | .TU_TXTS_TAG => s.txtsRead h.i
  | .TU_TOD_RX => s.todRxRead
  | .POL_WQ_TAKE => s.wqTake h.i
  | .MGT_PROT_US_LIGHT => (s.drawn, s.usLight)
  | n =>
    if h.row.wide then s.pairRead r h
    else match s.todGroup n with
      | some (a, v) => ({ s with todLatch := mset (latchKey r a) v s.todLatch }, s.regValue h)
      | none => (s.readClears h, s.regValue h)

/-! ## Writes -/

/-- The W1C and W1CS fields of a register are cleared where a data word has a 1 (R9). -/
def State.clearW1c (s : State) (d : Nat) : List (Fld × Acc) → State
  | [] => s
  | (f, a) :: r =>
    State.clearW1c (if a = .w1c ∨ a = .w1cs then s.put f (s.get f - (s.get f &&& f.of d)) else s) d r

/-- A write of a register whose fields have no rule of their own (R9). -/
def State.plainWrite (s : State) (h : Hit) (d : Nat) : State :=
  let fs := h.row.fields h.i h.j
  (s.putRw d fs).clearW1c d fs

/-- A pair that holds an HBM address, in the layout of LM_HRX_BASE: bits [11:0] read 0 (R454, R517, R519). -/
def RName.isBase (n : RName) : Bool :=
  n == .LM_HRX_BASE || n == .POL_WQ_BASE || n == .POL_RX_BASE || n == .POL_TX_BASE || n == .POL_FW_BASE

/-- A write of one half of a writable pair takes effect when it is written (R522). -/
def State.pairWrite (s : State) (h : Hit) (d : Nat) : State :=
  let v := if h.row.name.isBase && !h.hi then d / 4096 * 4096 else d
  (h.row.fields h.i h.j).foldl (fun s e =>
    if e.2 = .rw then s.put e.1 (withBits (s.get e.1) (if h.hi then 32 else 0) 32 v) else s) s

/-- A start bit of a WSC field in a data word. -/
def startBit (f : Fld) (d : Nat) : Bool := f.of d == 1

/-- A power of two from 16 to 4,096. -/
def ringSize (n : Nat) : Bool := [16, 32, 64, 128, 256, 512, 1024, 2048, 4096].contains n

/-- Every frame ring of every core is empty (POL_RING_CFG). -/
def State.polRingsEmpty (s : State) : Bool :=
  (List.range 10).all fun c =>
    s.get (POL_RX_PROD.index c) == s.get (POL_RX_CONS.index c) &&
      (List.range 4).all fun k => s.get (POL_TX_PROD.index c k) == s.get (POL_TX_CONS.index c k)

/-- A write of POL_RING_CFG: ignored unless every ring is empty and both fields hold a power of two from 16 to 4,096. -/
def State.ringCfgWrite (s : State) (d : Nat) : State :=
  let tx := POL_RING_CFG.tx_size.of d
  let rx := POL_RING_CFG.rx_size.of d
  if s.polRingsEmpty && ringSize tx && ringSize rx then (s.put POL_RING_CFG.tx_size tx).put POL_RING_CFG.rx_size rx else s

/-- A write of LM_HRX_SIZE: ignored unless PROD equals CONS and the value is a power of two from 16 to 4,096. -/
def State.hrxSizeWrite (s : State) (d : Nat) : State :=
  let n := LM_HRX_SIZE.value.of d
  if s.get LM_HRX_PROD.value = s.get LM_HRX_CONS.value ∧ ringSize n then s.put LM_HRX_SIZE.value n else s

/-- A write of TE_CTRL (R101, R102, R104). A reserved value leaves state_req as it was, where the spec gives no outcome (DESIGN CHOICE,
log 141). A wake that a register write starts finds every retention bank good; one that does not is
TREE_WAKE with its banks (log 61). -/
def State.teCtrlWrite (s : State) (t d : Nat) : State :=
  let s1 := match (TE_CTRL.state_req t).of d with
    | 0 => if s.get (TE_CTRL.state_req t) = 0 then s else s.darkWrite t
    | 1 => if s.get (TE_CTRL.state_req t) = 1 then s else s.lightWrite t
    | _ => s
  if startBit (TE_CTRL.wake t) d then s1.wakeTree t [] else s1

/-- A write of TE_TRUNK: a change of active queues a ToD refresh (R397). -/
def State.trunkWrite (s : State) (t d : Nat) : State :=
  let was := s.get (TE_TRUNK.active t)
  let s1 := (s.put (TE_TRUNK.active t) ((TE_TRUNK.active t).of d)).put (TE_TRUNK.rt_ps_per_m t) ((TE_TRUNK.rt_ps_per_m t).of d)
  if s1.get (TE_TRUNK.active t) ≠ was then s1.todRefresh t else s1

/-- A write of SCH_PORT_CFG_q: the gates of the port follow gate_en (R338). -/
def State.schCfgWrite (s : State) (h : Hit) (d : Nat) : State := (s.plainWrite h d).gateRefresh h.i

/-- Writes of MGT and Structure Image registers. -/
def State.writeMgt (s : State) (r : Nat) (h : Hit) (d : Nat) : State :=
  match h.row.name with
  | .MGT_ISLAND_RST =>
    (List.range 28).foldl (fun s n =>
      if 1 ≤ n ∧ bit1 d n ∧ ¬(n = 1 ∧ r ≠ 0) then s.resetIsland n (if r = 0 then 1 else 2) else s) s
  | .MGT_IDLE_TIMER => if Config.idleCapable h.i then s.plainWrite h d else s
  | .MGT_OPT_CMD => s.optWrite h.i d
  | .MGT_PROT_CFG => s.protCfg d
  | .MGT_PROT_CTRL =>
    if startBit MGT_PROT_CTRL.release d then
      if s.protIs 2 || !startBit MGT_PROT_CTRL.take d then s.protRelease1 else s
    else if startBit MGT_PROT_CTRL.take d then s.protTake else s
  | .SIL_CTRL =>
    let s1 := if startBit SIL_CTRL.load d then s.silLoad else s
    let s2 := if startBit SIL_CTRL.unstructure d then s1.silUnstructure else s1
    let s3 := if startBit SIL_CTRL.burn_svn d then s2.silBurn else s2
    s3.silRevoke (SIL_CTRL.revoke.of d)
  | _ => s.plainWrite h d

/-- A write of BC_TREE_CFG_n: the margin is held against profile 3, and with cal_en the requests of the tree's terminals are raised (R222,
R226, R229). -/
def State.bcTreeCfg (s : State) (h : Hit) (d : Nat) : State := ((s.plainWrite h d).p3Check h.i).raiseTree h.i

/-- Writes of tree registers. -/
def State.writeTe (s : State) (h : Hit) (d : Nat) : State :=
  match h.row.name with
  | .TE_CTRL => s.teCtrlWrite h.i d
  | .TE_BRST_CFG => s.brstWrite h.i d
  | .TE_KEY_SWITCH => s.keySwitchWrite h.i d
  | .TE_CS_CTRL => if startBit (TE_CS_CTRL.sfc_load h.i) d then s.sfcLoad h.i else s
  | .TE_TDD_CFG => s.tddWrite h.i d
  | .TE_TRUNK => s.trunkWrite h.i d
  | .TE_TERM_CMD => s.termCmdWrite h.i d
  | _ => s.plainWrite h d

/-- Writes of the Grant Engine, MIRROR and the Burst Calibrator. -/
def State.writeGe (s : State) (h : Hit) (d : Nat) : State :=
  match h.row.name with
  | .GE_MAP_CTRL => s.runAheadWrite d
  | .GE_TREE_CFG => s.geCfgWrite h.i d
  | .GE_TREE_RES => s.resWrite h.i d
  | .GE_TREE_CALRES => s.calResWrite h.i d
  | .MIR_CTRL =>
    let s1 := s.put MIR_CTRL.gap_mode (MIR_CTRL.gap_mode.of d)
    let s2 := if startBit MIR_CTRL.swap d then s1.mirSwap else s1
    if startBit MIR_CTRL.force_check d then s2.mirForce else s2
  | .BC_CMD =>
    let t := BC_CMD.tree.of d
    let o := BC_CMD.onu.of d
    let s1 := s.bcCmd (BC_CMD.cmd.of d) t o
    if !startBit BC_CMD.go d then s1
    else match BC_CMD.cmd.of d with
      | 1 => s1.recalibrate t o
      | 2 => s1.forgetCal t o
      | _ => s1.set1 BC_EVENT.cmd_refused
  | .BC_TERM_TEMP => s.termTempWrite d
  | .BC_DEF => s.bcDef h.i d
  | .BC_PROF => s.profWrite h.i h.j d
  | .BC_TREE_CFG => s.bcTreeCfg h d
  | _ => s.plainWrite h d

/-- Writes of the Prisms, FWD, the schedulers and the Key Vault. -/
def State.writePr (s : State) (h : Hit) (d : Nat) : State :=
  match h.row.name with
  | .PR_CTRL =>
    let s1 := s.put PR_CTRL.en (PR_CTRL.en.of d)
    if startBit PR_CTRL.swap d then s1.genSwap else s1
  | .PR_HASH_SEED => if s.on PR_GEN_STATUS.draining then s.set1 PR_EVENT.gen_write_refused else s.plainWrite h d
  | .PR_KPROF => if h.hi then s.kprofWrite h.i d else s.pairLoWrite h.i d
  | .PR_HPROF => if h.hi then s.hprofWrite h.i d else s.pairLoWrite (8 + h.i) d
  | .FWD_CTRL =>
    let s1 := s.put FWD_CTRL.en (FWD_CTRL.en.of d)
    if startBit FWD_CTRL.sweep_now d then s1.sweepIf {} else s1
  | .FWD_CMD =>
    if startBit (FWD_CMD.go h.i) d then s.fwdGo h.i ((FWD_CMD.op h.i).of d) d
    else s.fwdCmdWrite h.i ((FWD_CMD.op h.i).of d) d
  | .SCH_PORT_CFG => s.schCfgWrite h d
  | .SCH_PORT_RATE => s.schPortWrite h.i false d
  | .SCH_PORT_BURST => s.schPortWrite h.i true d
  | .SCH_GATE_CTRL =>
    let s1 := s.put (SCH_GATE_CTRL.admin_len h.i) ((SCH_GATE_CTRL.admin_len h.i).of d)
    if h.i < 36 ∧ startBit (SCH_GATE_CTRL.go h.i) d then s1.gateGo h.i else s1
  | .KV_CMD =>
    if startBit (KV_CMD.go h.i) d then s.kvGo h.i ((KV_CMD.op h.i).of d) ((KV_CMD.slot h.i).of d) else s.plainWrite h d
  | .KV_BLOB => s.put (KV_BLOB.blob h.i h.j) d
  | _ => s.plainWrite h d

/-- Writes of the Time Unit, the uplinks, the Benches and the link. -/
def State.writeIo (s : State) (r : Nat) (h : Hit) (d : Nat) : State :=
  match h.row.name with
  | .TU_CTRL =>
    let s1 := s.put TU_CTRL.step_abs (TU_CTRL.step_abs.of d)
    let s2 := if startBit TU_CTRL.step d then s1.tuStep (s1.on TU_CTRL.step_abs) else s1
    let s3 := if startBit TU_CTRL.rearm d then s2.tuRearm r else s2
    if startBit TU_CTRL.align d then s3.tuAlign else s3
  | .TU_OFFSET => s.tuOffset d
  | .TU_TOD_REQ =>
    if startBit TU_TOD_REQ.go d then s.todRequest d else s.plainWrite h d
  | .UL_PORT_CFG => s.portAdmin h.i d
  | .BENCH_CFG => s.benchWrite h.i d
  | .BENCH_CTRL =>
    let s1 := if startBit (BENCH_CTRL.clear h.i) d then s.benchClear h.i else s
    if startBit (BENCH_CTRL.inject h.i) d then s1.benchInject h.i else s1
  | .LM_CTRL =>
    let s1 := s.put LM_CTRL.swap_lane (LM_CTRL.swap_lane.of d)
    let s2 := if startBit LM_CTRL.swap_go d then s1.swapLane (s1.get LM_CTRL.swap_lane) else s1
    if startBit LM_CTRL.retrain d then s2.linkDown else s2
  | .LM_HRX_SIZE => s.hrxSizeWrite d
  | _ => s.plainWrite h d

/-- Writes of clocks, power, policy cores and reliability. -/
def State.writeSys (s : State) (r : Nat) (h : Hit) (d : Nat) : State :=
  match h.row.name with
  | .CLK_SRC_CFG => s.clkSrcWrite d
  | .CLK_REF_CFG => s.clkRefWrite d
  | .CLK_MON_CFG => (s.plainWrite h d).clkSettle
  | .PWR_CTRL => if startBit PWR_CTRL.standby d then s.standbyRequest r else s
  | .PWR_BUDGET_CFG => ((s.plainWrite h d).judgeTrees).shed
  | .POL_RING_CFG => s.ringCfgWrite d
  | .POL_WQ_DONE => s.wqDone h.i d
  | .POL_FW_CTRL => if startBit POL_FW_CTRL.load d then s.fwLoad else s
  | .REL_SWAP_CMD => s.swapGo d
  | .REL_TLOG_CTRL => if startBit REL_TLOG_CTRL.clear d then s.tlogClear else s
  | _ => s.plainWrite h d

/-- A write of a register by a requester. -/
def State.writeReg (s : State) (r : Nat) (h : Hit) (d : Nat) : State :=
  let n := h.row.name
  if h.row.wide && n != .PR_KPROF && n != .PR_HPROF then s.pairWrite h d
  else
    let b := h.row.base
    if b < 0x10000000 then s.writeMgt r h d
    else if b < 0x30000000 then s.writeTe h d
    else if b < 0x40000000 then s.writeGe h d
    else if b < 0x90000000 then s.writePr h d
    else if b < 0xC0000000 then s.writeIo r h d
    else s.writeSys r h d

/-! ## Access -/

/-- The SIL staging window (R520). -/
def inStaging (a : Nat) : Bool := decide (0x01100000 ≤ a) && decide (a < 0x01200000)

/-- A word of the Trouble Log: the entry and the word (R500). -/
def tlogAt (a : Nat) : Option (Nat × Nat) :=
  if 0xD0001000 ≤ a ∧ a < 0xD0001400 then some ((a - 0xD0001000) / 16, a % 16 / 4) else none

/-- A read of a word of the Trouble Log: word 0 latches the others for the requester (R500). -/
def State.tlogRead (s : State) (r e w : Nat) : State × Nat :=
  if w = 0 then s.tlogRead0 r e else (s, tlogWord ((mget (r * 64 + e) s.rel.tlogLatch).or (mget e s.rel.tlog)) w)

/-- A 32-bit access has the address that R439 asks for. -/
def ok32 (a : Nat) : Bool := a % 4 == 0 && decide (a < 0x1000000000)

/-- A 32-bit read by a requester (R38, R439, R521, R548): the state after it, the status and the word. -/
def State.read32 (s : State) (r a : Nat) : State × Nat × Nat :=
  if !ok32 a then (s, 3, 0)
  else if inStaging a then (s, 0, ofOctets (s.bytesAt a 4))
  else match tlogAt a with
    | some (e, w) => let x := s.tlogRead r e w; (x.1, 0, x.2)
    | none => match findReg a with
      | none => (s.unmapped r a, 2, 0)
      | some h =>
        if !s.answers h.holders then (s, 1, 0)
        else let x := (s.wakeForRead h.holders).readReg r h; (x.1, 0, x.2 % 2 ^ 32)

/-- A 32-bit write by a requester (R38, R439, R521, R548): the state after it and the status. -/
def State.write32 (s : State) (r a d : Nat) : State × Nat :=
  if !ok32 a then (s, 3)
  else if inStaging a then (s.stageWrite (a - 0x01100000) (octetsBE 4 d), 0)
  else match tlogAt a with
    | some _ => (s, 0)
    | none => match findReg a with
      | none => (s.unmapped r a, 2)
      | some h => if !s.answers h.holders then (s, 1) else ((s.wakeForWrite h.holders).writeReg r h d, 0)

/-- The state after a read with its answer recorded. -/
def State.answerRead (x : State × Nat × Nat) (r : Nat) : State := x.1.answer r x.2.1 [BitVec.ofNat 64 x.2.2]

/-- The state after a write with its answer recorded. -/
def State.answerWrite (x : State × Nat) (r : Nat) : State := x.1.answer r x.2 []

/-- REGISTER_WRITE (R9, R12, R38, R522, R548): a requester writes a register. -/
def execRegisterWrite (r : Requester) (a : BitVec 40) (d : BitVec 32) (s : State) : Host.Outcome State Fault Refusal :=
  (State.answerWrite (s.write32 r.val a.toNat d.toNat) r.val).done

/-- READ_CLEAR (R9, R11): a requester reads a register, and its RC fields are cleared after the read. -/
def execReadClear (r : Requester) (a : BitVec 40) (s : State) : Host.Outcome State Fault Refusal :=
  (State.answerRead (s.read32 r.val a.toNat) r.val).done

/-- PAIR_LO_READ (R522): a requester reads a half of a pair; LO latches the upper half. -/
def execPairLoRead (r : Requester) (a : BitVec 40) (s : State) : Host.Outcome State Fault Refusal :=
  (State.answerRead (s.read32 r.val a.toNat) r.val).done

end Sys2Proof.Machine
end

