-- ==== Sys2Proof/Machine/Windows.lean ====
section
/-! DEFINITION. The table windows and the HBM window (R520): which entry and word an address names, what a 64-bit read returns
and what a 64-bit write does. -/

namespace Sys2Proof.Machine

/-- What an address of a 64-bit window names (R520): the entry's indexes and the word. -/
inductive Win where
  | port (t i : Nat)
  | term (t onu w : Nat)
  | alloc (t i w : Nat)
  | fallback (t w : Nat)
  | frer (i w : Nat)
  | rx (t onu w : Nat)
  | prism (f : Nat) (t : PTable) (e w : Nat)
  | fwd (w : Nat)
  | domain
  | group
  | sched (node : Bool) (e w : Nat)
  | gate (q a : Nat)
  | lensHist
  | lensSlot (k w : Nat)
  | cipher (f : Nat)
  | saMap (w : Nat)
  | keySlot (k w : Nat)
  | hbm (la : Nat)
  deriving DecidableEq, Repr

/-- The regions of R520 that an address may lie in, as base and end. A range of R440 lies wholly in one of them. -/
def winRegions : List (Nat × Nat) :=
  [(0x1000000000, 0x1000100000), (0x1000100000, 0x1000120000), (0x1000200000, 0x1000280000), (0x1000300000, 0x1000320000),
   (0x1000340000, 0x1000348000), (0x1000380000, 0x10003A0000), (0x1010000000, 0x101A000000), (0x1020000000, 0x1020800000),
   (0x1021000000, 0x1021100000), (0x1022000000, 0x1022080000), (0x1030000000, 0x1030200000), (0x1030200000, 0x1030280000),
   (0x1030300000, 0x1030313000), (0x1030400000, 0x1030420000), (0x1030500000, 0x1030504000), (0x1040000000, 0x1040080000),
   (0x1040100000, 0x1040140000), (0x1040200000, 0x1040220000), (0x8000000000, 0xA000000000)]

/-- The number of the region that an address lies in. -/
def regionOf (a : Nat) : Option Nat :=
  (List.range winRegions.length).find? fun k => match winRegions[k]? with
    | some e => decide (e.1 ≤ a) && decide (a < e.2)
    | none => false

/-- What the word at an 8-aligned address of a region is. -/
def winIn (k o : Nat) : Option Win :=
  match k with
  | 0 => some (.port (o / 0x8000) (o % 0x8000 / 8))
  | 1 => some (.term (o / 0x1000) (o % 0x1000 / 16) (o % 16 / 8))
  | 2 => some (.alloc (o / 0x4000) (o % 0x4000 / 32) (o % 32 / 8))
  | 3 => if o % 0x1000 / 8 < 442 then some (.fallback (o / 0x1000) (o % 0x1000 / 8)) else none
  | 4 => some (.frer (o / 32) (o % 32 / 8))
  | 5 => some (.rx (o / 0x1000) (o % 0x1000 / 16) (o % 16 / 8))
  | 6 => (prismEntry (o % 0x2000000)).map fun x => .prism (o / 0x2000000) x.1 x.2.1 x.2.2
  | 7 => some (.fwd (o % 32 / 8))
  | 8 => some .domain
  | 9 => some .group
  | 10 => some (.sched false (o / 32) (o % 32 / 8))
  | 11 => some (.sched true (o / 32) (o % 32 / 8))
  | 12 => some (.gate (o / 0x800) (o % 0x800 / 0x400))
  | 13 => some .lensHist
  | 14 => some (.lensSlot (o / 16) (o % 16 / 8))
  | 15 => some (.cipher (o / 8))
  | 16 => some (.saMap (o / 8))
  | 17 => some (.keySlot (o / 32) (o % 32 / 8))
  | 18 => some (.hbm o)
  | _ => none

/-- What the word at an 8-aligned address is, none where the address is unmapped (R520). -/
def findWin (a : Nat) : Option Win :=
  match regionOf a with
  | none => none
  | some k => match winRegions[k]? with
    | some e => winIn k (a - e.1)
    | none => none

/-- The islands that hold a word (R38, R244, R548). DEDUCED (log 62): the HBM window is answered by SHELF, gate lists and the Lens
by the slices, a Fallback Map by its tree island. -/
def Win.holders (w : Win) : List Nat :=
  match w with
  | .port t _ => [treeIsl t]
  | .term t _ _ => [treeIsl t]
  | .fallback t _ => [treeIsl t]
  | .alloc _ _ _ => [10]
  | .frer _ _ => [22]
  | .rx _ _ _ => [12]
  | .prism f _ _ _ => [13 + f % 4]
  | .sched _ _ _ => sliceIsls
  | .gate _ _ => sliceIsls
  | .lensHist => sliceIsls
  | .lensSlot _ _ => sliceIsls
  | .cipher _ => [20]
  | .saMap _ => [20]
  | .keySlot _ _ => [20]
  | .fwd _ => [17]
  | .domain => [17]
  | .group => [17]
  | .hbm _ => [17]

/-! ## Reads -/

/-- The word with the listed fields at 1, as lowest bit and width. -/
def fieldsMask (l : List (Nat × Nat)) : Nat := l.foldl (fun m f => m + (2 ^ f.2 - 1) * 2 ^ f.1) 0

/-- Every bit of a word. -/
def allBits : Nat := 2 ^ 64 - 1

/-- The bits of a Prism word that are not reserved (R246 to R252). -/
def PTable.mask (t : PTable) (w : Nat) : Nat :=
  match t, w with
  | .p0, 0 => fieldsMask [(61, 3), (0, 14)]
  | .p0, _ => fieldsMask [(48, 16), (0, 33)]
  | .p1, _ => fieldsMask [(61, 3), (40, 20), (0, 15)]
  | .p2, 0 => fieldsMask [(58, 6), (0, 15)]
  | .p2, 7 => 0
  | .p3, 0 => fieldsMask [(51, 10), (61, 3), (0, 15)]
  | .p3, n => if n ≤ 17 then allBits else 0
  | .p4, 0 => fieldsMask [(57, 7), (54, 2), (34, 16), (26, 8)]
  | .p4, 1 => fieldsMask [(47, 17), (34, 12)]
  | .ind, _ => fieldsMask [(63, 1), (32, 28), (31, 1), (0, 28)]
  | .grp, _ => fieldsMask [(63, 1), (18, 40), (0, 3)]
  | _, _ => allBits

/-- The bits of a word held in memory that are not reserved; reserved bits read 0 (R12). -/
def Win.mask (w : Win) : Nat :=
  match w with
  | .port _ _ => fieldsMask [(63, 1), (57, 3), (40, 8), (0, 16)]
  | .alloc _ _ 0 => fieldsMask [(59, 5), (48, 8), (32, 14), (24, 6)]
  | .alloc _ _ 1 => fieldsMask [(4, 60)]
  | .alloc _ _ 2 => fieldsMask [(36, 28)]
  | .frer _ 0 => fieldsMask [(62, 2), (0, 60)]
  | .frer _ 1 => fieldsMask [(40, 24)]
  | .prism _ t _ n => t.mask n
  | .fwd 1 => fieldsMask [(58, 6), (12, 44)]
  | .fwd 2 => fieldsMask [(12, 52)]
  | .domain => fieldsMask [(62, 2), (32, 10), (30, 2), (0, 10)]
  | .group => fieldsMask [(63, 1), (14, 42)]
  | .sched false _ 0 => fieldsMask [(57, 7), (0, 56)]
  | .sched false _ 1 => fieldsMask [(39, 25), (0, 24)]
  | .sched true _ 0 => fieldsMask [(42, 22), (0, 30)]
  | .sched true _ 1 => fieldsMask [(39, 25)]
  | .gate _ _ => fieldsMask [(32, 8), (0, 30)]
  | .lensSlot _ 0 => fieldsMask [(13, 51)]
  | .cipher _ => fieldsMask [(34, 30)]
  | _ => allBits

/-- Words 2 and 3 of a scheduling or node entry: what is queued, and the bucket's balance in octets (R325, R326). -/
def State.schedView (s : State) (node : Bool) (e w : Nat) : Nat :=
  let b : Bucket := mgetD (if node then nodeBucket e else flowBucket e) {} s.sch.buckets
  if w = 2 then
    let fs := if node then s.nodeFlows e else [e]
    let frames := fs.foldl (fun a f => a + (s.flowQueue f).length) 0
    let octets := if node then s.nodeDepth e else s.flowDepth e
    min frames (2 ^ 24 - 1) <<< 40 ||| octets % 2 ^ 40
  else toBits (b.bal / 1000000) 32

/-- A word of a stream of the recovery table, its read-only fields included (R205). -/
def State.frerView (s : State) (i w : Nat) : Nat :=
  let x := s.frerSt i
  match w with
  | 0 => s.word (frerAddr i 0) &&& (Win.frer i 0).mask
  | 1 => (s.word (frerAddr i 1) &&& (Win.frer i 1).mask) ||| x.recovSeq % 65536 <<< 24
  | 2 => min x.passed 0xFFFFFFFF <<< 32 ||| min x.discarded 0xFFFFFFFF
  | _ => min x.outOfOrder 0xFFFFFFFF <<< 32 ||| min x.rogue 0xFFFF <<< 16 ||| min x.resets 0xFFFF

/-- Four entries of the SA map (R358). -/
def State.saWord (s : State) (w : Nat) : Nat :=
  (List.range 4).foldl (fun v j => v * 65536 + (match mget (4 * w + j) s.kv.saMap with
    | some k => 0x8000 + k % 4096
    | none => 0)) 0

/-- A word of the HBM window (R293 to R295, R308): the Journal copies as their records stand, memory elsewhere. -/
def State.hbmWord (s : State) (la : Nat) : Nat :=
  let j := 32 * s.jnlSlots
  let copy := if la < j then s.jnl.copyA else s.jnl.copyB
  if la < 2 * j then
    match mget (la % j / 32) copy with
    | some r => fieldAt r.octets (la % 32) 8
    | none => ofOctets ((List.range 8).map fun i => s.hbmOctet (la + i))
  else ofOctets ((List.range 8).map fun i => s.hbmOctet (la + i))

/-- The word holds its data in memory, where poison may mark it (R497). -/
def Win.stored (w : Win) : Bool :=
  match w with
  | .port _ _ => true
  | .frer _ n => decide (n < 2)
  | .prism _ _ _ _ => true
  | .fwd _ => true
  | .domain => true
  | .group => true
  | .sched _ _ n => decide (n < 2)
  | .gate _ _ => true
  | .lensHist => true
  | .lensSlot _ _ => true
  | .cipher _ => true
  | .hbm _ => true
  | _ => false

/-- The address in memory of a word: slice 0 for a read of s = 4 (R244). -/
def Win.cell (w : Win) (a : Nat) : Nat :=
  match w with
  | .prism f _ _ _ => if f = 4 then a - 0x8000000 else a
  | _ => a

/-- The data of a word that is not poison. -/
def State.winData (s : State) (w : Win) (a : Nat) : Nat :=
  match w with
  | .term t o n => ((s.term t o).wordAt n).toNat
  | .alloc t i n => ((s.alloc t i).wordAt n).toNat &&& w.mask
  | .fallback t n => ((s.fb t).wordAt t n).toNat
  | .frer i n => s.frerView i n
  | .rx t o n => (s.rxProf t o).wordAt n
  | .sched node e n => if n < 2 then s.word a &&& w.mask else s.schedView node e n
  | .saMap n => s.saWord n
  | .keySlot k n => (s.saSlot k).wordAt n
  | .hbm la => s.hbmWord la
  | _ => s.word (w.cell a) &&& w.mask

/-- The window shows a receive profile that is Unwritten: its words are poison (R213, R227). -/
def State.unwrittenRx (s : State) (w : Win) : Bool :=
  match w with
  | .rx t o _ => decide ((s.rxProf t o).state = .unwritten)
  | _ => false

/-- A read of a word that answers: the state after it, the status and the word. Poison is counted and answered with status 0x4
(R438, R497). -/
def State.readWin (s : State) (w : Win) (a : Nat) : State × Nat × Nat :=
  let s1 := match w with
    | .hbm la => s.readDegraded la 8
    | _ => s
  if (w.stored && s1.poisoned (w.cell a)) || s1.unwrittenRx w then (s1.inc REL_POISON_RD_CNT.count, 4, 0) else (s1, 0, s1.winData w a)

/-! ## Writes -/

/-- The descriptor and table regions of the HBM window, which alone writes reach (R293, R294). -/
def State.hbmWritable (s : State) (la : Nat) : Bool :=
  decide (s.jnlSlots * 64 + 1048576 ≤ la) && decide (la < s.struct.tableMib * 1048576)

/-- A write of a gate list entry: the copy in use is not written (R339). -/
def State.gateWrite (s : State) (q c a d : Nat) : State :=
  if c = s.get (SCH_GATE_STATUS.oper_copy q) then s.set1 SCH_EVENT.cfg_refused else s.putWord a d

/-- A write of a Prism word (R244, R256): word 0 commits, others are staged, read-only words are ignored. -/
def State.prismWrite (s : State) (r : Requester) (f : Nat) (t : PTable) (e w : Nat) (d : Word64) : State :=
  (s.prismSlices f).foldl (fun s sl =>
    let s1 := s.ungate (13 + sl)
    if w = 0 then s1.prismCommit r sl t e d else if t.ro w then s1 else s1.prismStage r sl e w d) s

/-- A write of a word of an allocation descriptor (R146). -/
def State.allocWrite (s : State) (t i w : Nat) (d : Word64) : State :=
  match w with
  | 0 => s.commit t i d
  | 1 => s.modAlloc t i fun a => { a with s1 := d }
  | 2 => s.modAlloc t i fun a => { a with s2 := d }
  | _ => s

/-- A write of a word of a scheduling or node entry (R327). -/
def State.schedWrite (s : State) (r : Requester) (node : Bool) (e w : Nat) (d : Word64) : State :=
  match w with
  | 0 => s.schCommit r node e d
  | 1 => s.schStage r node e 1 d
  | _ => s

/-- What a 64-bit write does, its holders answering; read-only words complete with no effect (R439). -/
def State.writeWin (s : State) (r : Requester) (w : Win) (a : Nat) (d : Word64) : State :=
  match w with
  | .port _ _ => s.putWord a d.toNat
  | .term t o n => s.termWrite t o n d
  | .alloc t i n => s.allocWrite t i n d
  | .fallback _ _ => s
  | .frer _ n => if n < 2 then s.putWord a d.toNat else s
  | .rx _ _ _ => s
  | .prism f t e n => s.prismWrite r f t e n d
  | .fwd _ => s.fwdWinWrite r.val a d.toNat
  | .domain => s.fwdWinWrite r.val a d.toNat
  | .group => s.fwdWinWrite r.val a d.toNat
  | .sched node e n => s.schedWrite r node e n d
  | .gate q c => s.gateWrite q c a d.toNat
  | .lensHist => s
  | .lensSlot k n => if n = 0 then s.lensCommit k d else s
  | .cipher f => s.cipherWrite f d.toNat
  | .saMap _ => s
  | .keySlot _ _ => s
  | .hbm la => if s.hbmWritable la then s.putWord a d.toNat else s

/-- The holders let a write through: a write to s = 4 needs every slice (R244, R548). -/
def State.writeAnswers (s : State) (w : Win) : Bool :=
  match w with
  | .prism f _ _ _ => if f = 4 then sliceIsls.all s.up else s.answers w.holders
  | _ => s.answers w.holders

/-- A 64-bit access has the address that R439 asks for. -/
def ok64 (a : Nat) : Bool := a % 8 == 0 && decide (0x1000000000 ≤ a)

/-- A 64-bit read by a requester (R38, R439, R521, R548): the state after it, the status and the word. -/
def State.read64 (s : State) (r a : Nat) : State × Nat × Nat :=
  if !ok64 a then (s, 3, 0)
  else match findWin a with
    | none => (s.unmapped r a, 2, 0)
    | some w => if !s.answers w.holders then (s, 1, 0) else (s.wakeForRead w.holders).readWin w a

/-- A 64-bit write by a requester (R38, R439, R521, R548): the state after it and the status. -/
def State.write64 (s : State) (r : Requester) (a : Nat) (d : Word64) : State × Nat :=
  if !ok64 a then (s, 3)
  else match findWin a with
    | none => (s.unmapped r.val a, 2)
    | some w => if !s.writeAnswers w then (s, 1) else ((s.wakeForWrite w.holders).writeWin r w a d, 0)

end Sys2Proof.Machine
end

