-- ==== Sys2Proof/Machine/Link.lean ====
section
/-! DEFINITION. Register, table and DMA requests (R434, R438 to R441) and exception frames from the host (R442). -/

namespace Sys2Proof.Machine

/-! ## Taking a request into execution -/

/-- The device holds the response credits that a request needs, those of messages that already wait apart (R434). While the link is
not Up the response is discarded and needs none (R427). -/
def State.holdsCredits (s : State) (pool cost : Nat) : Bool :=
  let waiting := (s.link.txq.filter fun m => m.pool == pool).foldl (fun a m => a + m.cost) 0
  !s.linkUp || decide (waiting + cost ≤ mgetD pool 0 s.link.txAvail)

/-- A request with ord = 1 finds no earlier request of the other pool before it (R441). -/
def State.ordOk (s : State) (q : LReq) : Bool :=
  !ordOf (q.body.getD 0 0) || !(s.link.rxq.any fun x => x.pool == 1 - q.pool && decide (x.order < q.order))

/-- A request of a pool is taken into execution: the first that waits, when the command is that request, its ord lets it pass and
its response credits are there; none while it has to wait. With no request waiting the command is the request itself, with
tag 0 (DESIGN CHOICE, log 64). -/
def State.takeReq (s : State) (pool cost : Nat) (p : LReq → Bool) : Option (State × Nat) :=
  match s.headReq pool with
  | none => if s.holdsCredits pool cost then some (s, 0) else none
  | some q =>
    if p q && s.ordOk q && s.holdsCredits pool cost then some (s.popReq q, tagOf (q.body.getD 0 0)) else none

/-- The request that waits is of an opcode and address. -/
def LReq.isOp (q : LReq) (op a : Nat) : Bool := opcodeOf (q.body.getD 0 0) == op && addrOf (q.body.getD 0 0) == a

/-- The end of a request: its response is sent, the answer recorded, and malformed requests that follow it are answered. -/
def State.finishReq (s : State) (pool tag status : Nat) (data : List Word64) : State :=
  ((s.respondLink pool tag status data).answer 0 status data).answerBads

/-! ## Register and table requests (R439) -/

/-- A read request of the host, with the access it makes. -/
def State.hostRead (s : State) (op a : Nat) (rd : State → State × Nat × Nat) : State :=
  match s.takeReq 0 1 fun q => q.isOp op a with
  | none => s
  | some (s1, tag) =>
    let x := rd s1
    x.1.finishReq 0 tag x.2.1 [BitVec.ofNat 64 x.2.2]

/-- A write request of the host, with the access it makes; `d` is word 1 of its body. -/
def State.hostWrite (s : State) (op a : Nat) (d : Word64) (wr : State → State × Nat) : State :=
  match s.takeReq 0 1 fun q => q.isOp op a && q.body.getD 1 0 == d with
  | none => s
  | some (s1, tag) =>
    let x := wr s1
    x.1.finishReq 0 tag x.2 []

/-- RD32 (R439): a 32-bit read; a policy core makes it over its own port. -/
def execRd32 (r : Requester) (a : BitVec 40) (s : State) : Host.Outcome State Fault Refusal :=
  if r.val = 0 then (s.hostRead 1 a.toNat fun s => s.read32 0 a.toNat).done
  else (State.answerRead (s.read32 r.val a.toNat) r.val).done

/-- WR32 (R439). -/
def execWr32 (r : Requester) (a : BitVec 40) (d : BitVec 32) (s : State) : Host.Outcome State Fault Refusal :=
  if r.val = 0 then (s.hostWrite 2 a.toNat (d.setWidth 64) fun s => s.write32 0 a.toNat d.toNat).done
  else (State.answerWrite (s.write32 r.val a.toNat d.toNat) r.val).done

/-- RD64 (R439). -/
def execRd64 (r : Requester) (a : BitVec 40) (s : State) : Host.Outcome State Fault Refusal :=
  if r.val = 0 then (s.hostRead 3 a.toNat fun s => s.read64 0 a.toNat).done
  else (State.answerRead (s.read64 r.val a.toNat) r.val).done

/-- WR64 (R439). -/
def execWr64 (r : Requester) (a : BitVec 40) (d : BitVec 64) (s : State) : Host.Outcome State Fault Refusal :=
  if r.val = 0 then (s.hostWrite 4 a.toNat d fun s => s.write64 r a.toNat d).done
  else (State.answerWrite (s.write64 r a.toNat d) r.val).done

/-! ## DMA and fills (R440) -/

/-- A range lies wholly in the staging window, one table window or the HBM window (R440). -/
def inOneRegion (a n : Nat) : Bool :=
  (inStaging a && inStaging (a + n - 1)) || ((regionOf a).isSome && regionOf a == regionOf (a + n - 1))

/-- The conditions of R440 on a range, with the longest length allowed. -/
def dmaOk (a n most : Nat) : Bool :=
  a % 8 == 0 && n % 8 == 0 && decide (8 ≤ n) && decide (n ≤ most) && inOneRegion a n

/-- One word of a DMA write. -/
def State.dmaPut (s : State) (a : Nat) (d : Word64) : State × Nat :=
  if inStaging a then (s.stageWrite (a - 0x01100000) (octetsBE 8 d.toNat), 0) else s.write64 0 a d

/-- The words of a DMA write in order, up to the first that fails. -/
def State.dmaPuts (s : State) : List (Nat × Word64) → State × Nat
  | [] => (s, 0)
  | (a, d) :: r =>
    let x := s.dmaPut a d
    if x.2 = 0 then State.dmaPuts x.1 r else x

/-- One word of a DMA read. -/
def State.dmaGet (s : State) (a : Nat) : State × Nat × Nat :=
  if inStaging a then (s, 0, ofOctets (s.bytesAt a 8)) else s.read64 0 a

/-- The words of a DMA read in order, up to the first that fails. -/
def State.dmaGets (s : State) (a : Nat) : Nat → State × Nat × List Word64
  | 0 => (s, 0, [])
  | n + 1 =>
    let x := s.dmaGet a
    if x.2.1 = 0 then
      let y := State.dmaGets x.1 (a + 8) n
      (y.1, y.2.1, BitVec.ofNat 64 x.2.2 :: y.2.2)
    else (x.1, x.2.1, [])

/-- A DMA write that is in range is carried out as 64-bit writes, ascending or descending, up to a number of words (R440, R452). -/
def State.dmaWrite (s : State) (a : Nat) (rev : Bool) (words : List Word64) (most : Nat) : State × Nat :=
  let l := (List.range words.length).map fun i => (a + 8 * i, words.getD i 0)
  s.dmaPuts ((if rev then l.reverse else l).take most)

/-- A DMA or fill is done: its response is sent, but not where LINK resets while it runs (R452). -/
def State.finishDma (s : State) (tag status : Nat) (data : List Word64) : State :=
  match s.link.caught with
  | some _ => { s with link := { s.link with caught := none } }
  | none => s.finishReq 1 tag status data

/-- A waiting request is a DMA write of an address, direction and words. -/
def LReq.isDmaWr (q : LReq) (a : Nat) (rev : Bool) (words : List Word64) : Bool :=
  q.isOp 0x10 a && bit1 (q.body.getD 0 0).toNat 46 == rev && q.body.drop 2 == words

/-- A waiting request is a DMA read of an address and length. -/
def LReq.isDmaRd (q : LReq) (a n : Nat) : Bool := q.isOp 0x11 a && bitsOf (q.body.getD 1 0).toNat 0 32 == n

/-- A waiting request is a fill of an address, length and pattern. -/
def LReq.isFill (q : LReq) (a n : Nat) (pattern : Word64) : Bool :=
  q.isOp 0x12 a && bitsOf (q.body.getD 1 0).toNat 0 40 == n && q.body.getD 2 0 == pattern

/-- The length that a DMA write names: that of the request that waits, or of its words when none does. -/
def State.dmaWrLen (s : State) (words : List Word64) : Nat :=
  match s.headReq 1 with
  | some q => bitsOf (q.body.getD 1 0).toNat 0 32
  | none => 8 * words.length

/-- DMA_WR (R440, R441). -/
def execDmaWr (a : BitVec 40) (rev : Bool) (words : List (BitVec 64)) (s : State) : Host.Outcome State Fault Refusal :=
  match s.takeReq 1 1 fun q => q.isDmaWr a.toNat rev words with
  | none => s.done
  | some (s1, tag) =>
    if dmaOk a.toNat (s.dmaWrLen words) 8192 then
      let x := s1.dmaWrite a.toNat rev words (s1.link.caught.getD words.length)
      (x.1.finishDma tag x.2 []).done
    else (s1.finishDma tag 3 []).done

/-- DMA_RD (R440, R441). A read that fails answers words of 0; one whose length is not allowed, none (DESIGN CHOICE, log 63). -/
def execDmaRd (a : BitVec 40) (n : BitVec 32) (s : State) : Host.Outcome State Fault Refusal :=
  let ok := dmaOk a.toNat n.toNat 8192
  let words := if n.toNat % 8 = 0 ∧ n.toNat ≤ 8192 then n.toNat / 8 else 0
  match s.takeReq 1 (ceilDiv (1 + words) 8) fun q => q.isDmaRd a.toNat n.toNat with
  | none => s.done
  | some (s1, tag) =>
    if ok then
      let x := s1.dmaGets a.toNat (min words (s1.link.caught.getD words))
      (x.1.finishDma tag x.2.1 (if x.2.1 = 0 then x.2.2 else List.replicate words 0)).done
    else (s1.finishDma tag 3 (List.replicate words 0)).done

/-- A fill writes a word of a staged or shadowed table whole and commits it at once (R440). -/
def State.fillWin (s : State) (r : Requester) (w : Win) (a : Nat) (d : Word64) : State :=
  match w with
  | .prism f t e (n + 1) =>
    if t.ro (n + 1) then s
    else (s.prismSlices f).foldl (fun s sl =>
      let b := prismBase sl + e
      let w0 := BitVec.ofNat 64 (s.word b)
      if s.commitOk sl t b w0 [(n + 1, d)] then (s.ungate (13 + sl)).putWord (b + 8 * (n + 1)) d.toNat
      else s.set1 PR_EVENT.gen_write_refused) s
  | .sched false e 1 => s.commitSched e (BitVec.ofNat 64 (s.sched e)) [(1, d)]
  | .sched true e 1 => s.commitNode e (BitVec.ofNat 64 (s.node e)) [(1, d)]
  | .alloc t i 1 => (s.modAlloc t i fun x => { x with s1 := d, s2 := x.w2 }).commit t i (s.alloc t i).w0
  | .alloc t i 2 => (s.modAlloc t i fun x => { x with s1 := x.w1, s2 := d }).commit t i (s.alloc t i).w0
  | .alloc t i 0 => (s.modAlloc t i fun x => { x with s1 := x.w1, s2 := x.w2 }).commit t i d
  | _ => s.writeWin r w a d

/-- One word of a fill: the state and the status. -/
def State.fillPut (s : State) (a : Nat) (d : Word64) : State × Nat :=
  if inStaging a then s.dmaPut a d
  else match findWin a with
    | none => (s.unmapped 0 a, 2)
    | some w => if !s.writeAnswers w then (s, 1) else ((s.wakeForWrite w.holders).fillWin 0 w a d, 0)

/-- The words of a fill in ascending order, up to the first that fails. -/
def State.fillWords (s : State) (a : Nat) (d : Word64) : Nat → State × Nat
  | 0 => (s, 0)
  | n + 1 =>
    let x := s.fillPut a d
    if x.2 = 0 then State.fillWords x.1 (a + 8) d n else x

/-- FILL (R440): the pattern is written to every word of the range, 8 octets to 64 GiB. -/
def execFill (a : BitVec 40) (n : BitVec 40) (pattern : BitVec 64) (s : State) : Host.Outcome State Fault Refusal :=
  match s.takeReq 1 1 fun q => q.isFill a.toNat n.toNat pattern with
  | none => s.done
  | some (s1, tag) =>
    if dmaOk a.toNat n.toNat (2 ^ 36) then
      let x := s1.fillWords a.toNat pattern (min (n.toNat / 8) (s1.link.caught.getD (n.toNat / 8)))
      (x.1.finishDma tag x.2 []).done
    else (s1.finishDma tag 3 []).done

/-! ## Exception frames (R442) -/

/-- The octets that words spell. -/
def wordOctets (l : List Word64) : List Byte := l.flatMap fun w => octetsBE 8 w.toNat

/-- A waiting EXC_TX message holds word 1 and the octets of a frame. -/
def LReq.isExc (q : LReq) (w : Word64) (octets : List Byte) : Bool :=
  q.body.getD 1 0 == w && (wordOctets (q.body.drop 2)).take octets.length == octets &&
    q.body.length == 2 + ceilDiv octets.length 8

/-- An exception frame enters the Prism of its slice, or is discarded and counted (R442). -/
def State.excTx (s : State) (w : Nat) (octets : List Byte) : State :=
  if excWordOk w octets.length then s.injectExc w octets (.host (bitsOf w 62 2)) (bitsOf w 62 2)
  else s.inc LM_EXC_BAD_CNT.count

/-- EXC_TX (R434, R442): the frame of the message that waits, or of the command when none waits; a reserved bit of the header at 1
discards it. -/
def execExcTx (word1 : BitVec 64) (octets : List (BitVec 8)) (s : State) : Host.Outcome State Fault Refusal :=
  match s.headReq 2 with
  | none => (s.excTx word1.toNat octets).done
  | some q =>
    if q.isExc word1 octets then
      let s1 := s.popReq q
      (if bitsOf (q.body.getD 0 0).toNat 40 6 = 0 then s1.excTx word1.toNat octets else s1.inc LM_EXC_BAD_CNT.count).done
    else s.done

end Sys2Proof.Machine
end

