-- ==== Sys2Proof/Machine/Dispatch.lean ====
section
/-! DEFINITION. The meaning of every command: one arm per constructor of Instr, each one call. -/

namespace Sys2Proof.Machine

/-- What a command does to everything but the queue. -/
def exec (i : Instr) (s : State) : Host.Outcome State Fault Refusal :=
  match i with
  | .registerWrite r a d => Sys2Proof.Machine.execRegisterWrite r a d s
  | .readClear r a => Sys2Proof.Machine.execReadClear r a s
  | .pairLoRead r a => Sys2Proof.Machine.execPairLoRead r a s
  | .islandTransfer src dst load parityBad => Sys2Proof.Machine.execIslandTransfer src dst load parityBad s
  | .parityRetry src dst parityBad => Sys2Proof.Machine.execParityRetry src dst parityBad s
  | .crossingTimeout src dst => Sys2Proof.Machine.execCrossingTimeout src dst s
  | .islandResetRequest by_ n => Sys2Proof.Machine.execIslandResetRequest by_ n s
  | .islandWatchdog n => Sys2Proof.Machine.execIslandWatchdog n s
  | .resetFenceEnd n => Sys2Proof.Machine.execResetFenceEnd n s
  | .resetFenceTimeout n => Sys2Proof.Machine.execResetFenceTimeout n s
  | .resetAssertEnd n => Sys2Proof.Machine.execResetAssertEnd n s
  | .resetRestoreEnd n badBanks badPcs => Sys2Proof.Machine.execResetRestoreEnd n badBanks badPcs s
  | .resetStepTimeout n => Sys2Proof.Machine.execResetStepTimeout n s
  | .resetRejoinEnd n => Sys2Proof.Machine.execResetRejoinEnd n s
  | .idleTimerExpiry n => Sys2Proof.Machine.execIdleTimerExpiry n s
  | .gateAcknowledge n portBusy => Sys2Proof.Machine.execGateAcknowledge n portBusy s
  | .gateRequestTimeout n => Sys2Proof.Machine.execGateRequestTimeout n s
  | .islandUngate n => Sys2Proof.Machine.execIslandUngate n s
  | .silLoad => Sys2Proof.Machine.execSilLoad s
  | .loadParseEnd => Sys2Proof.Machine.execLoadParseEnd s
  | .loadVerifyEnd => Sys2Proof.Machine.execLoadVerifyEnd s
  | .loadCheckEnd => Sys2Proof.Machine.execLoadCheckEnd s
  | .loadApplyEnd => Sys2Proof.Machine.execLoadApplyEnd s
  | .loadStepTimeout swapped => Sys2Proof.Machine.execLoadStepTimeout swapped s
  | .silUnstructure => Sys2Proof.Machine.execSilUnstructure s
  | .silBurnSvn => Sys2Proof.Machine.execSilBurnSvn s
  | .silRevoke slots => Sys2Proof.Machine.execSilRevoke slots s
  | .stageWrite off octets => Sys2Proof.Machine.execStageWrite off octets s
  | .treeFrameTick => Sys2Proof.Machine.execTreeFrameTick s
  | .sfcLoadCmd t => Sys2Proof.Machine.execSfcLoadCmd t s
  | .csBufferDry t => Sys2Proof.Machine.execCsBufferDry t s
  | .csFillDeadline t => Sys2Proof.Machine.execCsFillDeadline t s
  | .upstreamBurstDue t cands => Sys2Proof.Machine.execUpstreamBurstDue t cands s
  | .burstWindowClose t => Sys2Proof.Machine.execBurstWindowClose t s
  | .reassemblyTimeout t onu port => Sys2Proof.Machine.execReassemblyTimeout t onu port s
  | .brstCfgWrite t d => Sys2Proof.Machine.execBrstCfgWrite t d s
  | .treeLightRequest t => Sys2Proof.Machine.execTreeLightRequest t s
  | .treePowerGrant t => Sys2Proof.Machine.execTreePowerGrant t s
  | .treePowerTimeout t => Sys2Proof.Machine.execTreePowerTimeout t s
  | .treeLaserEnd t => Sys2Proof.Machine.execTreeLaserEnd t s
  | .treeDarkRequest t => Sys2Proof.Machine.execTreeDarkRequest t s
  | .treeStopEnd t => Sys2Proof.Machine.execTreeStopEnd t s
  | .treeDrainEnd t => Sys2Proof.Machine.execTreeDrainEnd t s
  | .dozeIdleExpiry t => Sys2Proof.Machine.execDozeIdleExpiry t s
  | .treeWake t badBanks => Sys2Proof.Machine.execTreeWake t badBanks s
  | .dozeDiscExpiry x => Sys2Proof.Machine.execDozeDiscExpiry x s
  | .keySwitchCmd t d => Sys2Proof.Machine.execKeySwitchCmd t d s
  | .optTransaction b d => Sys2Proof.Machine.execOptTransaction b d s
  | .optTransactionEnd b nackAt read => Sys2Proof.Machine.execOptTransactionEnd b nackAt read s
  | .optStretchTimeout x => Sys2Proof.Machine.execOptStretchTimeout x s
  | .snAcquisitionCycle t => Sys2Proof.Machine.execSnAcquisitionCycle t s
  | .snResponse t serial delayNs arrivalNs hecFails msg => Sys2Proof.Machine.execSnResponse t serial delayNs arrivalNs hecFails msg s
  | .rangingPlaceTimeout t onu => Sys2Proof.Machine.execRangingPlaceTimeout t onu s
  | .registrationBurst t onu delimBits => Sys2Proof.Machine.execRegistrationBurst t onu delimBits s
  | .rangeWindowTimeout t onu => Sys2Proof.Machine.execRangeWindowTimeout t onu s
  | .rangingTimeAck t onu => Sys2Proof.Machine.execRangingTimeAck t onu s
  | .equaliseTimeout t onu => Sys2Proof.Machine.execEqualiseTimeout t onu s
  | .termApprove t onu => Sys2Proof.Machine.execTermApprove t onu s
  | .approveTimeout t onu => Sys2Proof.Machine.execApproveTimeout t onu s
  | .termDeregister t onu duplicate => Sys2Proof.Machine.execTermDeregister t onu duplicate s
  | .termInserviceRanging t onu => Sys2Proof.Machine.execTermInserviceRanging t onu s
  | .treeReactivate t => Sys2Proof.Machine.execTreeReactivate t s
  | .holdExpiry t onu => Sys2Proof.Machine.execHoldExpiry t onu s
  | .quarantineExpiry t onu => Sys2Proof.Machine.execQuarantineExpiry t onu s
  | .ploamReceived t onu kind micOk body => Sys2Proof.Machine.execPloamReceived t onu kind micOk body s
  | .terminalRecordWrite t onu word d => Sys2Proof.Machine.execTerminalRecordWrite t onu word d s
  | .tddCfgWrite t d => Sys2Proof.Machine.execTddCfgWrite t d s
  | .allocShadowWrite t ix second d => Sys2Proof.Machine.execAllocShadowWrite t ix second d s
  | .allocCommit t ix d => Sys2Proof.Machine.execAllocCommit t ix d s
  | .treeResWrite t reg d => Sys2Proof.Machine.execTreeResWrite t reg d s
  | .runAheadWrite d => Sys2Proof.Machine.execRunAheadWrite d s
  | .mapBuildBegin => Sys2Proof.Machine.execMapBuildBegin s
  | .mapBuildEnd us diffs => Sys2Proof.Machine.execMapBuildEnd us diffs s
  | .mapCutoff => Sys2Proof.Machine.execMapCutoff s
  | .mapSeal unacked => Sys2Proof.Machine.execMapSeal unacked s
  | .agrFrame => Sys2Proof.Machine.execAgrFrame s
  | .agrWindowEnd t reqId => Sys2Proof.Machine.execAgrWindowEnd t reqId s
  | .grantPolicyDigest => Sys2Proof.Machine.execGrantPolicyDigest s
  | .builtinCheckEnd geOk mirOk => Sys2Proof.Machine.execBuiltinCheckEnd geOk mirOk s
  | .builtinCheckTimeout geDone mirDone => Sys2Proof.Machine.execBuiltinCheckTimeout geDone mirDone s
  | .mirrorRetireEnd => Sys2Proof.Machine.execMirrorRetireEnd s
  | .mirrorRetireTimeout => Sys2Proof.Machine.execMirrorRetireTimeout s
  | .mirrorSwapCmd => Sys2Proof.Machine.execMirrorSwapCmd s
  | .mirrorForceCheck => Sys2Proof.Machine.execMirrorForceCheck s
  | .protTakeCmd => Sys2Proof.Machine.execProtTakeCmd s
  | .protAutoTake => Sys2Proof.Machine.execProtAutoTake s
  | .protAssertEnd => Sys2Proof.Machine.execProtAssertEnd s
  | .protConfirmEnd => Sys2Proof.Machine.execProtConfirmEnd s
  | .switchoverLaserEnd => Sys2Proof.Machine.execSwitchoverLaserEnd s
  | .protConflict => Sys2Proof.Machine.execProtConflict s
  | .protReleaseCmd => Sys2Proof.Machine.execProtReleaseCmd s
  | .protUplinkRelease => Sys2Proof.Machine.execProtUplinkRelease s
  | .protOffDelayEnd => Sys2Proof.Machine.execProtOffDelayEnd s
  | .protHoldInChange level => Sys2Proof.Machine.execProtHoldInChange level s
  | .protCfgWrite d => Sys2Proof.Machine.execProtCfgWrite d s
  | .frerResetTimer strm => Sys2Proof.Machine.execFrerResetTimer strm s
  | .burstProfileWrite t p d => Sys2Proof.Machine.execBurstProfileWrite t p d s
  | .laneTempSample t temp => Sys2Proof.Machine.execLaneTempSample t temp s
  | .termTempReport d => Sys2Proof.Machine.execTermTempReport d s
  | .calRecalibrate t onu => Sys2Proof.Machine.execCalRecalibrate t onu s
  | .calForget t onu => Sys2Proof.Machine.execCalForget t onu s
  | .bcDefWrite t d => Sys2Proof.Machine.execBcDefWrite t d s
  | .frameStaged => Sys2Proof.Machine.execFrameStaged s
  | .prismPassEnd ids => Sys2Proof.Machine.execPrismPassEnd ids s
  | .recircTokenGrant sl => Sys2Proof.Machine.execRecircTokenGrant sl s
  | .genSwap => Sys2Proof.Machine.execGenSwap s
  | .genDrainTimeout => Sys2Proof.Machine.execGenDrainTimeout s
  | .prismStageWrite r a d => Sys2Proof.Machine.execPrismStageWrite r a d s
  | .prismEntryCommit r a d => Sys2Proof.Machine.execPrismEntryCommit r a d s
  | .kprofWrite k hi => Sys2Proof.Machine.execKprofWrite k hi s
  | .fwdInsert r d => Sys2Proof.Machine.execFwdInsert r d s
  | .fwdUpdate r d => Sys2Proof.Machine.execFwdUpdate r d s
  | .fwdDelete r d => Sys2Proof.Machine.execFwdDelete r d s
  | .fwdRead r d => Sys2Proof.Machine.execFwdRead r d s
  | .fwdLock r d => Sys2Proof.Machine.execFwdLock r d s
  | .fwdUnlock r d => Sys2Proof.Machine.execFwdUnlock r d s
  | .fwdLockTimeout idx => Sys2Proof.Machine.execFwdLockTimeout idx s
  | .fwdWindowWrite r a d => Sys2Proof.Machine.execFwdWindowWrite r a d s
  | .fwdSweepPeriod x => Sys2Proof.Machine.execFwdSweepPeriod x s
  | .fwdSweepNow x => Sys2Proof.Machine.execFwdSweepNow x s
  | .fwdBankCopyEnd => Sys2Proof.Machine.execFwdBankCopyEnd s
  | .bufferSpill ids => Sys2Proof.Machine.execBufferSpill ids s
  | .journalCommitAck x => Sys2Proof.Machine.execJournalCommitAck x s
  | .departureComplete q => Sys2Proof.Machine.execDepartureComplete q s
  | .deliveryMark q => Sys2Proof.Machine.execDeliveryMark q s
  | .jnlCopyEnd copyB => Sys2Proof.Machine.execJnlCopyEnd copyB s
  | .jnlCloseEnd copyB => Sys2Proof.Machine.execJnlCloseEnd copyB s
  | .jnlCloseTimeout copyB => Sys2Proof.Machine.execJnlCloseTimeout copyB s
  | .pcDeclaredFailed p => Sys2Proof.Machine.execPcDeclaredFailed p s
  | .pcRebuildEnd => Sys2Proof.Machine.execPcRebuildEnd s
  | .pcRebuildTimeout => Sys2Proof.Machine.execPcRebuildTimeout s
  | .capacityCut => Sys2Proof.Machine.execCapacityCut s
  | .schStageWrite r a d => Sys2Proof.Machine.execSchStageWrite r a d s
  | .schEntryCommit r a d => Sys2Proof.Machine.execSchEntryCommit r a d s
  | .schPortWrite q burst d => Sys2Proof.Machine.execSchPortWrite q burst d s
  | .portSelect q => Sys2Proof.Machine.execPortSelect q s
  | .refillTick => Sys2Proof.Machine.execRefillTick s
  | .gateListGo q d => Sys2Proof.Machine.execGateListGo q d s
  | .gateListSwap q => Sys2Proof.Machine.execGateListSwap q s
  | .gateEntryChange q => Sys2Proof.Machine.execGateEntryChange q s
  | .launchTimeDue slot => Sys2Proof.Machine.execLaunchTimeDue slot s
  | .lensSample => Sys2Proof.Machine.execLensSample s
  | .lensSlotCommit w d => Sys2Proof.Machine.execLensSlotCommit w d s
  | .flowCipherWrite f d => Sys2Proof.Machine.execFlowCipherWrite f d s
  | .kvInstallSaBlob r d => Sys2Proof.Machine.execKvInstallSaBlob r d s
  | .kvInstallDerived r d => Sys2Proof.Machine.execKvInstallDerived r d s
  | .kvDeleteSa r d => Sys2Proof.Machine.execKvDeleteSa r d s
  | .kvInstallRoot r d => Sys2Proof.Machine.execKvInstallRoot r d s
  | .kvDeleteRoot r d => Sys2Proof.Machine.execKvDeleteRoot r d s
  | .kvInstallKek r d => Sys2Proof.Machine.execKvInstallKek r d s
  | .kvTreeUnicastKey r d => Sys2Proof.Machine.execKvTreeUnicastKey r d s
  | .kvGenBroadcastKey r d => Sys2Proof.Machine.execKvGenBroadcastKey r d s
  | .kvExportBroadcastKey r d => Sys2Proof.Machine.execKvExportBroadcastKey r d s
  | .kvZeroise r d => Sys2Proof.Machine.execKvZeroise r d s
  | .kvCmdTimeout => Sys2Proof.Machine.execKvCmdTimeout s
  | .kvCommandEnd => Sys2Proof.Machine.execKvCommandEnd s
  | .entropyHealthFail => Sys2Proof.Machine.execEntropyHealthFail s
  | .entropySourceRecovered => Sys2Proof.Machine.execEntropySourceRecovered s
  | .drbgReseed => Sys2Proof.Machine.execDrbgReseed s
  | .tuAlign => Sys2Proof.Machine.execTuAlign s
  | .tuStep d => Sys2Proof.Machine.execTuStep d s
  | .tuAbsStepEffect => Sys2Proof.Machine.execTuAbsStepEffect s
  | .tuRearm r => Sys2Proof.Machine.execTuRearm r s
  | .tuOffsetWrite d => Sys2Proof.Machine.execTuOffsetWrite d s
  | .txtsRead r p => Sys2Proof.Machine.execTxtsRead r p s
  | .todRequest d => Sys2Proof.Machine.execTodRequest d s
  | .ppsOutEdge => Sys2Proof.Machine.execPpsOutEdge s
  | .ppsOutPulseEnd => Sys2Proof.Machine.execPpsOutPulseEnd s
  | .ppsInEdge falling widthNs => Sys2Proof.Machine.execPpsInEdge falling widthNs s
  | .todTxMessage => Sys2Proof.Machine.execTodTxMessage s
  | .todRxOctet o => Sys2Proof.Machine.execTodRxOctet o s
  | .todRxRead r => Sys2Proof.Machine.execTodRxRead r s
  | .tuSlewEnd => Sys2Proof.Machine.execTuSlewEnd s
  | .freqRampEnd => Sys2Proof.Machine.execFreqRampEnd s
  | .uplinkFrameRx p octets => Sys2Proof.Machine.execUplinkFrameRx p octets s
  | .portRawUp p skewNs => Sys2Proof.Machine.execPortRawUp p skewNs s
  | .portRawDown p => Sys2Proof.Machine.execPortRawDown p s
  | .portUpTimer p => Sys2Proof.Machine.execPortUpTimer p s
  | .portDownTimer p => Sys2Proof.Machine.execPortDownTimer p s
  | .portAdminWrite p d => Sys2Proof.Machine.execPortAdminWrite p d s
  | .swapHoldTimeout p => Sys2Proof.Machine.execSwapHoldTimeout p s
  | .benchEnable ix d => Sys2Proof.Machine.execBenchEnable ix d s
  | .benchClear ix => Sys2Proof.Machine.execBenchClear ix s
  | .benchInject ix => Sys2Proof.Machine.execBenchInject ix s
  | .benchCheckerLock ix => Sys2Proof.Machine.execBenchCheckerLock ix s
  | .benchCheckerLockLoss ix => Sys2Proof.Machine.execBenchCheckerLockLoss ix s
  | .linkSignalDetect lanes width => Sys2Proof.Machine.execLinkSignalDetect lanes width s
  | .linkLaneLock width map => Sys2Proof.Machine.execLinkLaneLock width map s
  | .linkDeskewEnd skewNs => Sys2Proof.Machine.execLinkDeskewEnd skewNs s
  | .linkSofLock => Sys2Proof.Machine.execLinkSofLock s
  | .initBlock pool credits => Sys2Proof.Machine.execInitBlock pool credits s
  | .linkUp => Sys2Proof.Machine.execLinkUp s
  | .linkTrainTimeout => Sys2Proof.Machine.execLinkTrainTimeout s
  | .linkDown txBad => Sys2Proof.Machine.execLinkDown txBad s
  | .linkRetrain => Sys2Proof.Machine.execLinkRetrain s
  | .ackBlock nak seq => Sys2Proof.Machine.execAckBlock nak seq s
  | .creditBlock pool n => Sys2Proof.Machine.execCreditBlock pool n s
  | .messageReceived pool seq crcOk body => Sys2Proof.Machine.execMessageReceived pool seq crcOk body s
  | .replayTimeout => Sys2Proof.Machine.execReplayTimeout s
  | .sofTick => Sys2Proof.Machine.execSofTick s
  | .markerColumn bipBad badBlocks => Sys2Proof.Machine.execMarkerColumn bipBad badBlocks s
  | .laneSwapGo d => Sys2Proof.Machine.execLaneSwapGo d s
  | .laneSwapPrepareEnd => Sys2Proof.Machine.execLaneSwapPrepareEnd s
  | .rd32 r a => Sys2Proof.Machine.execRd32 r a s
  | .wr32 r a d => Sys2Proof.Machine.execWr32 r a d s
  | .rd64 r a => Sys2Proof.Machine.execRd64 r a s
  | .wr64 r a d => Sys2Proof.Machine.execWr64 r a d s
  | .dmaWr a rev words => Sys2Proof.Machine.execDmaWr a rev words s
  | .dmaRd a n => Sys2Proof.Machine.execDmaRd a n s
  | .fill a n pattern => Sys2Proof.Machine.execFill a n pattern s
  | .excTx word1 octets => Sys2Proof.Machine.execExcTx word1 octets s
  | .intResend => Sys2Proof.Machine.execIntResend s
  | .beaconSof wake number blocks => Sys2Proof.Machine.execBeaconSof wake number blocks s
  | .wakeAddressWrite => Sys2Proof.Machine.execWakeAddressWrite s
  | .wpGetStatus => Sys2Proof.Machine.execWpGetStatus s
  | .wpClearAlert octets => Sys2Proof.Machine.execWpClearAlert octets s
  | .linkDownAlert => Sys2Proof.Machine.execLinkDownAlert s
  | .stabilityCountEnd src mioCycles => Sys2Proof.Machine.execStabilityCountEnd src mioCycles s
  | .lossMonitorTrip src => Sys2Proof.Machine.execLossMonitorTrip src s
  | .freqMonitorWindow refa refb xtal => Sys2Proof.Machine.execFreqMonitorWindow refa refb xtal s
  | .requalifyWaitEnd src => Sys2Proof.Machine.execRequalifyWaitEnd src s
  | .trimWindow count => Sys2Proof.Machine.execTrimWindow count s
  | .spllLock => Sys2Proof.Machine.execSpllLock s
  | .derivedPllLock => Sys2Proof.Machine.execDerivedPllLock s
  | .clockStepTimeout => Sys2Proof.Machine.execClockStepTimeout s
  | .resetHoldRetry => Sys2Proof.Machine.execResetHoldRetry s
  | .dividerRampStep n => Sys2Proof.Machine.execDividerRampStep n s
  | .fixedIslandRelease n => Sys2Proof.Machine.execFixedIslandRelease n s
  | .relockTimeout => Sys2Proof.Machine.execRelockTimeout s
  | .revertiveSwitch => Sys2Proof.Machine.execRevertiveSwitch s
  | .clkSrcWrite d => Sys2Proof.Machine.execClkSrcWrite d s
  | .feedLoss feedB tooHigh => Sys2Proof.Machine.execFeedLoss feedB tooHigh s
  | .feedRestore feedB => Sys2Proof.Machine.execFeedRestore feedB s
  | .feedSample aMv bMv => Sys2Proof.Machine.execFeedSample aMv bMv s
  | .railFault rail => Sys2Proof.Machine.execRailFault rail s
  | .supplyVoutPoll vout => Sys2Proof.Machine.execSupplyVoutPoll vout s
  | .supplyNegTimeout => Sys2Proof.Machine.execSupplyNegTimeout s
  | .loadLower => Sys2Proof.Machine.execLoadLower s
  | .standbyRequest r => Sys2Proof.Machine.execStandbyRequest r s
  | .standbyStopEnd => Sys2Proof.Machine.execStandbyStopEnd s
  | .standbyDrainEnd => Sys2Proof.Machine.execStandbyDrainEnd s
  | .standbyDrainTimeout => Sys2Proof.Machine.execStandbyDrainTimeout s
  | .standbySaveEnd => Sys2Proof.Machine.execStandbySaveEnd s
  | .standbyOffEnd => Sys2Proof.Machine.execStandbyOffEnd s
  | .wakeRailsGood => Sys2Proof.Machine.execWakeRailsGood s
  | .wakeRestoreEnd badBanks => Sys2Proof.Machine.execWakeRestoreEnd badBanks s
  | .wakeResumeEnd => Sys2Proof.Machine.execWakeResumeEnd s
  | .wakeStepTimeout => Sys2Proof.Machine.execWakeStepTimeout s
  | .bootFeedEnd => Sys2Proof.Machine.execBootFeedEnd s
  | .bootIsland0End straps => Sys2Proof.Machine.execBootIsland0End straps s
  | .bootRailsGood => Sys2Proof.Machine.execBootRailsGood s
  | .bootStepTimeout => Sys2Proof.Machine.execBootStepTimeout s
  | .bootLinkEnd => Sys2Proof.Machine.execBootLinkEnd s
  | .resetNAssert => Sys2Proof.Machine.execResetNAssert s
  | .resetNRelease => Sys2Proof.Machine.execResetNRelease s
  | .scrubRead g a ecc working => Sys2Proof.Machine.execScrubRead g a ecc working s
  | .ceLeak => Sys2Proof.Machine.execCeLeak s
  | .tlogClear => Sys2Proof.Machine.execTlogClear s
  | .tlogWord0Read r e => Sys2Proof.Machine.execTlogWord0Read r e s
  | .wearThreshold cls part => Sys2Proof.Machine.execWearThreshold cls part s
  | .partFailure cls part => Sys2Proof.Machine.execPartFailure cls part s
  | .relSwapPart d => Sys2Proof.Machine.execRelSwapPart d s
  | .relSwapApprove d => Sys2Proof.Machine.execRelSwapApprove d s
  | .slicePrepareEnd lane => Sys2Proof.Machine.execSlicePrepareEnd lane s
  | .slicePrepareTimeout lane => Sys2Proof.Machine.execSlicePrepareTimeout lane s
  | .sliceRebindEnd lane => Sys2Proof.Machine.execSliceRebindEnd lane s
  | .polWatchdogExpiry c => Sys2Proof.Machine.execPolWatchdogExpiry c s
  | .polFatalTrap c => Sys2Proof.Machine.execPolFatalTrap c s
  | .polCoreRestarted c => Sys2Proof.Machine.execPolCoreRestarted c s
  | .polFwLoad => Sys2Proof.Machine.execPolFwLoad s
  | .wqTake r c => Sys2Proof.Machine.execWqTake r c s
  | .wqDone c d => Sys2Proof.Machine.execWqDone c d s
  | .wqItemAged c e => Sys2Proof.Machine.execWqItemAged c e s
  | .sendRingEntry c sl => Sys2Proof.Machine.execSendRingEntry c sl s

end Sys2Proof.Machine
end

