-- ==== Sys2Proof/Machine/Tap.lean ====
section
/-! DEFINITION. The test access port (R4, R538, R540, R541): the TAP controller of IEEE 1149.1, the instructions it supports, the
chain of boundary cells, and what drives each ball. PRESUMED (log 126): what the standard itself prescribes of the controller. -/

namespace Sys2Proof.Machine

/-- The successor of a controller state at a rising edge of TCK with TMS. -/
def TapState.next (x : TapState) (tms : Bool) : TapState :=
  match x with
  | .reset => if tms then .reset else .idle
  | .idle => if tms then .selectDr else .idle
  | .selectDr => if tms then .selectIr else .captureDr
  | .captureDr => if tms then .exit1Dr else .shiftDr
  | .shiftDr => if tms then .exit1Dr else .shiftDr
  | .exit1Dr => if tms then .updateDr else .pauseDr
  | .pauseDr => if tms then .exit2Dr else .pauseDr
  | .exit2Dr => if tms then .updateDr else .shiftDr
  | .updateDr => if tms then .selectDr else .idle
  | .selectIr => if tms then .reset else .captureIr
  | .captureIr => if tms then .exit1Ir else .shiftIr
  | .shiftIr => if tms then .exit1Ir else .shiftIr
  | .exit1Ir => if tms then .updateIr else .pauseIr
  | .pauseIr => if tms then .exit2Ir else .pauseIr
  | .exit2Ir => if tms then .updateIr else .shiftIr
  | .updateIr => if tms then .selectDr else .idle

/-- The device identification register (R540): version 0x1, part 0x0CB2, manufacturer 0x0E5, and a 1. -/
def tapIdcode : Nat := 0x1 <<< 28 ||| 0x0CB2 <<< 12 ||| 0x0E5 <<< 1 ||| 1

/-- The instructions with a code of their own. -/
def tapInstrs : List TapInstr := [.idcode, .sample, .extest, .clamp, .highz]

/-- The instruction that a code selects (R540): a code of no other instruction selects BYPASS, the code of all ones among them. -/
def tapDecode (code : Nat) : TapInstr :=
  if code = 2 ^ Config.tapIrLen - 1 then .bypass
  else match tapInstrs.find? fun i => Config.tapCode i.ctorIdx == code with
    | some i => i
    | none => .bypass

/-- Every CMOS ball of R531 but the five of the TAP, in the order of the chain (R540; DESIGN CHOICE, log 126: in the table's order). -/
def scanChain : List Ball :=
  ((List.range 32).flatMap fun t => [Ball.brst t, Ball.txdis t]) ++ ((List.range 8).flatMap fun b => [Ball.optScl b, Ball.optSda b]) ++
    [.wakeScl, .wakeSda, .alertN, .wakeAd0, .wakeAd1, .supScl, .supSda, .ppsIn, .ppsOut, .todTx, .todRx, .resetN, .protHoldOut,
      .protHoldIn, .protPrio]

/-- The boundary cell of a ball observes only (R541). -/
def Ball.observeOnly : Ball → Bool
  | .txdis _ => true
  | .brst _ => true
  | .protHoldOut => true
  | _ => false

/-- The device drives the ball: push-pull and open-drain balls (R538). -/
def Ball.isOutput : Ball → Bool
  | .ppsIn => false
  | .todRx => false
  | .resetN => false
  | .protHoldIn => false
  | .protPrio => false
  | .wakeAd0 => false
  | .wakeAd1 => false
  | _ => true

/-- What drives a ball: the function the other chapters give it, the cell of the chain, or nothing. -/
inductive Drive where
  | function | cell (level : Bool) | highZ
  deriving DecidableEq, Repr

/-- The latched output of a cell. -/
def Tap.cellOut (x : Tap) (b : Ball) : Bool := (x.latched[scanChain.findIdx fun c => c == b]?).getD false

/-- What drives a ball under the instruction in force (R541): balls whose cells observe only keep the values of R99, R97 and R193.
Before VIO is power-good no ball is driven (R534). -/
def State.ballDrive (s : State) (b : Ball) : Drive :=
  if !s.vioGood then .highZ
  else if b.observeOnly || !b.isOutput then .function
  else match s.tap.instr with
    | .extest => .cell (s.tap.cellOut b)
    | .clamp => .cell (s.tap.cellOut b)
    | .highz => .highZ
    | _ => .function

/-- The level of a TXDIS ball (R99, R534): asserted is the level that TE_TX_CFG.txdis_pol names. -/
def State.txdisLevel (s : State) (t : Nat) : Bool := s.txdis t != s.on (TE_TX_CFG.txdis_pol t)

/-- The level of a ball as SAMPLE/PRELOAD and EXTEST capture it, open where no state of the model holds it; BRST is low until the
sequencer drives it (R534). -/
def State.ballLevel (s : State) (b : Ball) (i : Nat) : Bool :=
  match b with
  | .txdis t => s.txdisLevel t
  | .brst t => decide (2 ≤ s.treeState t) && bit1 s.freeVal i
  | .resetN => !s.pwr.resetN
  | .protHoldOut => s.on MGT_PROT_STATUS.hold_out
  | .protHoldIn => s.on MGT_PROT_STATUS.hold_in
  | .ppsOut => s.tu.ppsHigh && s.on TU_PPS_CFG.out_en && s.on TU_STATUS.time_set
  | .alertN => s.get WP_ALERT.sources &&& s.get WP_ALERT_MASK.sources == 0
  | _ => bit1 s.freeVal i

/-- What Capture-DR loads (R540): IDCODE the identification register, SAMPLE/PRELOAD and EXTEST the cells, the others one bit. -/
def State.tapCapture (s : State) : List Bool :=
  match s.tap.instr with
  | .idcode => (List.range 32).map (bit1 tapIdcode)
  | .sample => scanChain.zipIdx.map fun e => s.ballLevel e.1 e.2
  | .extest => scanChain.zipIdx.map fun e => s.ballLevel e.1 e.2
  | _ => [false]

/-- A register of the TAP shifts one place towards TDO. -/
def tapShift (l : List Bool) (tdi : Bool) : List Bool := l.drop 1 ++ [tdi]

/-- What a rising edge does in the state it finds. -/
def State.tapRise (s : State) (tdi : Bool) : State :=
  match s.tap.st with
  | .captureDr => { s.drawn with tap := { s.tap with dr := s.tapCapture } }
  | .shiftDr => { s with tap := { s.tap with dr := tapShift s.tap.dr tdi } }
  | .captureIr => { s with tap := { s.tap with ir := true :: List.replicate (Config.tapIrLen - 1) false } }
  | .shiftIr => { s with tap := { s.tap with ir := tapShift s.tap.ir tdi } }
  | _ => s

/-- The number that a register's bits spell, the bit next to TDO least significant. -/
def tapVal (l : List Bool) : Nat := l.foldr (fun b a => a * 2 + b.toNat) 0

/-- What the falling edge does in the state reached: the update states act, Test-Logic-Reset selects IDCODE, and TDO is driven in the
Shift states alone (R538). -/
def Tap.fall (x : Tap) : Tap :=
  let y : Tap := match x.st with
    | .reset => { x with instr := .idcode }
    | .updateIr => { x with instr := tapDecode (tapVal x.ir) }
    | .updateDr => if x.instr = .sample ∨ x.instr = .extest then { x with latched := x.dr } else x
    | _ => x
  { y with tdo := match x.st with
    | .shiftDr => x.dr.head?
    | .shiftIr => x.ir.head?
    | _ => none }

/-- One period of TCK, its rising and its falling edge, with TMS and TDI. TRST_N low holds the controller in Test-Logic-Reset (R540). -/
def State.tapClock (s : State) (tms tdi : Bool) : State :=
  if s.tap.trstLow then s
  else
    let s1 := s.tapRise tdi
    { s1 with tap := Tap.fall { s1.tap with st := s.tap.st.next tms } }

/-- TRST_N changes level; low resets the controller (R540). -/
def State.tapTrst (s : State) (low : Bool) : State :=
  { s with tap := if low then { s.tap with trstLow := true, st := .reset, instr := .idcode, tdo := none }
    else { s.tap with trstLow := false } }

end Sys2Proof.Machine
end

