-- ==== Sys2Proof/Machine/Inputs.lean ====
section
/-! DEFINITION. What inputs that have no row of the command table do (DESIGN CHOICE, log 127: a step takes the front one while no
command waits). -/

namespace Sys2Proof.Machine

/-- The effect of an input. -/
def State.input (s : State) (x : Input) : State :=
  match x with
  | .hbmRequest m c n => s.hbmRequest m.val c.val n
  | .hbmRound m => s.hbmRound m.val
  | .tapClock tms tdi => s.tapClock tms tdi
  | .tapReset low => s.tapTrst low
  | .fwPloam t onu kind body => s.fwMessage t.val onu.toNat kind body
  | .serialDisabled t sn off => s.serialOff t.val sn off
  | .mirrorUpset t i age out => s.mirUpset t.val i.val age.toNat out.toNat
  | .fwdCatch r => s.fwdCatch r.val
  | .benchBits i rx => s.benchBits i.val rx
  | .laneMarker k good pcs => s.laneMarker k.val good pcs.toNat
  | .laneSignal k present => s.put (UL_LANE_STATUS.signal k.val) present.toNat
  | .fecReceived p n => s.fecReceived p.val n
  | .fecSent p => s.fecSent p.val
  | .wpTransfer a l again => s.wpTransfer a l again
  | .linkColumn => s.linkColumn
  | .linkBlock i sync p => s.rxBlock i.val sync.toNat (octetsBE 8 p.toNat)
  | .dmaCatch n => { s with link := { s.link with caught := some n } }
  | .voutMode m => { s with pwr := { s.pwr with voutMode := m } }
  | .wakeEvents m => s.wakeEvents m.toNat
  | .partsFail l => s.partsFail (l.map fun e => (e.1.toNat, e.2.toNat))
  | .wearMeasured k p => s.put (REL_WEAR.wear_pct k.val) (min 100 p.toNat)
  | .coreMemError c => s.crashCore c.val 3
  | .swapTogether c p => s.swapTogether c.toNat p.toNat

end Sys2Proof.Machine
end

