-- ==== Sys2Proof/Machine/Tick.lean ====
section
/-! DEFINITION. What passes with one microsecond of the MGT clock, whatever is commanded (R390, R464, R500). -/

namespace Sys2Proof.Machine

/-- CLK_HOLDOVER.seconds: the whole seconds since holdover began, saturating (R464). -/
def State.holdoverTick (s : State) : State :=
  if s.on CLK_HOLDOVER.active then
    let n := s.clk.holdUs + 1
    State.put { s with clk := { s.clk with holdUs := n } } CLK_HOLDOVER.seconds (min (n / 1000000) (2 ^ 24 - 1))
  else s

/-- One microsecond passes: the MGT count, the local count and the time of day advance, and a holdover grows older (DESIGN CHOICE,
log 1). -/
def State.tick (s : State) : State := (State.timeTick { s with us := s.us + 1 }).holdoverTick

end Sys2Proof.Machine
end

