-- ==== Sys2Proof/Machine/Step.lean ====
section
/-! DEFINITION. One step of the block: the command at the front of the queue, with no command waiting the front input, and with
neither one microsecond. -/

namespace Sys2Proof.Machine

/-- The step: the front command runs with the queue's rest (first in, first out); on an empty queue the front input takes effect
(DESIGN CHOICE, log 127), and with none waiting either one microsecond passes (DESIGN CHOICE, log 1). -/
def step (s : State) : Host.Outcome State Fault Refusal :=
  match s.pending with
  | c :: rest => exec c { s with pending := rest }
  | [] => match s.inputs with
    | x :: rest => (State.input { s with inputs := rest } x).done
    | [] => .next s.tick

/-- The state with the command that a table word spells at the front of its queue; the table gives no row any bits, so no word
spells one. -/
def State.withFetchWord (s : State) (nbits w : Nat) : State :=
  match decodeTableWord nbits w with
  | some c => { s with pending := c :: s.pending }
  | none => s

end Sys2Proof.Machine
end

