-- ==== Sys2Proof/Safety.lean ====
section
/-! DEFINITION. The terms in which claims speak of safe runs: states reached without a stop, settled states, and states that
differ in key material only. -/

namespace Sys2Proof

/-- A state reachable in n steps from s without a stop. -/
def RunsTo (n : Nat) (s t : Machine.State) : Prop := core.run n s = .next t

namespace Machine

/-- The interrupt logic and the trim loop have seen the state as it stands: the summaries last seen are the masked summaries
(R444, R513), and the trim loop knows whether it has a source (R461). -/
def State.Settled (s : State) : Prop :=
  s.link.lastMasked = s.hostMasked ∧ s.rel.lastPol = s.polMasked ∧ s.clk.trimOk = s.trimUsable

/-- The same key slot without its key and salt. -/
def SaSlot.noKey (x : SaSlot) : SaSlot := { x with key := 0, salt := 0 }

/-- The same tree-layer key slot without its key. -/
def KeySlot.noKey (x : KeySlot) : KeySlot := { x with key := 0 }

/-- The same tree record without its tree-layer keys. -/
def TreeSt.noKeys (x : TreeSt) : TreeSt :=
  { x with ukeys := x.ukeys.map fun e => (e.1, e.2.noKey), bkeys := x.bkeys.map fun e => (e.1, e.2.noKey) }

/-- The same state with every key that the device holds replaced by 0: SA keys and salts, root keys, terminal key-encryption keys and
tree-layer keys. -/
def State.noKeys (s : State) : State :=
  { s with
    kv := { s.kv with
      slots := s.kv.slots.map fun e => (e.1, e.2.noKey)
      roots := s.kv.roots.map fun e => (e.1, 0)
      keks := s.kv.keks.map fun e => (e.1, 0) }
    trees := s.trees.map fun e => (e.1, e.2.noKeys) }

end Machine

end Sys2Proof
end

