-- ==== Sys2Proof/Certificates/Slice0/Obligations.lean ====
section
/-! DEFINITION. The statements about the block, as propositions, in the terms of the model; each names the rules that it follows. -/

open Sys2Proof Sys2Proof.Machine

/-! ## The block as a machine -/

/-- A step with commands waiting runs the front one, on the state whose queue is the rest. -/
def Obligations.StepRunsFrontCommand : Prop :=
  ∀ (c : Instr) (rest : List Instr) (s : State), s.pending = c :: rest → step s = exec c { s with pending := rest }

/-- A step with no command waiting is the front input, with the rest of the inputs, settled (the model's choice, DESIGN CHOICE, log 127);
with no input waiting either it is one microsecond of the MGT clock (DESIGN CHOICE, log 1): the microsecond count advances by one, and
nothing changes but the count, the time keeper of R390, the fields TU_REMAIN.offset_ns and CLK_HOLDOVER.seconds and the microseconds of
a holdover. -/
def Obligations.EmptyQueueStepIsOneMicrosecond : Prop :=
  (∀ (s : State) (x : Input) (rest : List Input), s.pending = [] → s.inputs = x :: rest →
    step s = .next (State.input { s with inputs := rest } x).settle) ∧
  ∀ s : State, s.pending = [] → s.inputs = [] → ∃ f u h, step s = .next { s with us := s.us + 1, fld := f, tu := u, clk := { s.clk with holdUs := h } } ∧
    ∀ x : Fld, x.key ≠ TU_REMAIN.offset_ns.key → x.key ≠ CLK_HOLDOVER.seconds.key →
      mgetD x.key 0 f = mgetD x.key 0 s.fld

/-- No command stops the block: on every state each of the 274 commands answers a next state, and that state is one that the trim loop and
the interrupt logic have looked at. -/
def Obligations.EveryCommandAnswersANextState : Prop :=
  ∀ (c : Instr) (s : State), ∃ u : State, exec c s = .next u.settle

/-- Every step keeps the state settled: the masked summaries that the interrupt logic last saw are the masked summaries as they stand, for
host software (R444) and for policy firmware (R513), and the trim loop knows whether it has a source (R461). -/
def Obligations.EveryStepKeepsTheStateSettled : Prop :=
  ∀ s t : State, s.Settled → step s = .next t → t.Settled

/-- The state after reset is settled. -/
def Obligations.ResetStateIsSettled : Prop := State.reset.Settled

/-- After reset every register field holds its reset value (those that the spec does not give are the model's choice: PRESUMED or DESIGN
CHOICE, logs 5, 6, 65, 66), no command and no input waits, no memory is written, and every island but island 0 reads 0b11, Off (R13,
R36). -/
def Obligations.ResetHoldsTheResetValues : Prop :=
  (∀ f : Fld, State.reset.get f = f.rst) ∧ State.reset.pending = [] ∧ State.reset.inputs = [] ∧ State.reset.mem = [] ∧ State.reset.poison = [] ∧
    State.reset.isl 0 = 0 ∧ (∀ n : Nat, 0 < n → State.reset.isl n = 3 ∧ State.reset.isOff n = true) ∧
    State.reset.structured = false ∧ State.reset.linkUp = false

/-- What follows every command leaves alone: every field but trim_locked, trim_lost and those of the work queues, every part of the state
but the link's sender, the work queues and the trim loop's two records, and every octet outside the work queue entries. -/
def Obligations.SettlingLeavesTheRestAlone : Prop :=
  ∀ s : State, ∃ f m w n lp q u x a p e lm o g,
    s.settle = { s with
      fld := f, mem := m
      clk := { s.clk with trimOk := o, trimGood := g }
      rel := { s.rel with wq := w, wqSeq := n, lastPol := lp }
      link := { s.link with txq := q, unacked := u, nextTx := x, txAvail := a, altPool2 := p, line := e, lastMasked := lm } } ∧
    (∀ y : Fld, y.key ≠ CLK_STATUS.trim_locked.key → y.key ≠ CLK_EVENT.trim_lost.key → y.key ≠ POL_WQ_FULL_CNT.count.key →
      (∀ c < 10, y.key ≠ (POL_WQ_PROD.index c).key) → s.settle.get y = s.get y) ∧
    (∀ y, (∀ c < 10, ∀ e < 4096, y < s.wqAddr c e ∨ s.wqAddr c e + 4160 ≤ y) → memGet y m = memGet y s.mem)

/-! ## Register access -/

/-- From R521: over its own port a policy core reads 0 at an unmapped address and a write there does nothing but the count MGT_UNMAPPED_CNT,
which saturates (R11), and the record MGT_UNMAPPED_LAST of the address and requester, answered with status 0x2 (R438). -/
def Obligations.UnmappedAccessIsCountedAndRecorded : Prop :=
  ∀ (r : Requester) (a : BitVec 40) (s : State), r.val ≠ 0 →
    (ok32 a.toNat = true → inStaging a.toNat = false → tlogAt a.toNat = none → findReg a.toNat = none →
      exec (.rd32 r a) s = .next (((s.unmapped r.val a.toNat).answer r.val 2 [0]).settle) ∧
      ∀ d, exec (.wr32 r a d) s = .next (((s.unmapped r.val a.toNat).answer r.val 2 []).settle)) ∧
    (ok64 a.toNat = true → findWin a.toNat = none →
      exec (.rd64 r a) s = .next (((s.unmapped r.val a.toNat).answer r.val 2 [0]).settle) ∧
      ∀ d, exec (.wr64 r a d) s = .next (((s.unmapped r.val a.toNat).answer r.val 2 []).settle)) ∧
    (s.unmapped r.val a.toNat).get MGT_UNMAPPED_CNT.count = min (s.get MGT_UNMAPPED_CNT.count + 1) (2 ^ 32 - 1) ∧
    (s.unmapped r.val a.toNat).get MGT_UNMAPPED_LAST.last = a.toNat + r.val * 2 ^ 40 ∧
    (∀ x : Fld, x.key ≠ MGT_UNMAPPED_CNT.count.key → x.key ≠ MGT_UNMAPPED_LAST.last.key →
      (s.unmapped r.val a.toNat).get x = s.get x) ∧
    ∃ f, s.unmapped r.val a.toNat = { s with fld := f }

/-- From R38 and R548: while no island that holds it is in Run or Idle, an access to a register or table word completes with status 0x1 and
read data 0, and changes nothing but the answer. From R439: an address that is not aligned, or in the wrong part of the space for the
size of the access, is answered with status 0x3 and changes nothing but the answer. -/
def Obligations.AnswersWithNoEffect : Prop :=
  (∀ (r : Requester) (a : BitVec 40) (s : State), r.val ≠ 0 →
    (∀ h, ok32 a.toNat = true → inStaging a.toNat = false → tlogAt a.toNat = none → findReg a.toNat = some h →
      h.holders ≠ [] → (∀ n ∈ h.holders, 2 ≤ s.isl n) →
      exec (.rd32 r a) s = .next ((s.answer r.val 1 [0]).settle) ∧
      exec (.readClear r a) s = .next ((s.answer r.val 1 [0]).settle) ∧
      exec (.pairLoRead r a) s = .next ((s.answer r.val 1 [0]).settle) ∧
      (∀ d, exec (.wr32 r a d) s = .next ((s.answer r.val 1 []).settle)) ∧
      ∀ d, exec (.registerWrite r a d) s = .next ((s.answer r.val 1 []).settle)) ∧
    (∀ w, ok64 a.toNat = true → findWin a.toNat = some w → w.holders ≠ [] → (∀ n ∈ w.holders, 2 ≤ s.isl n) →
      exec (.rd64 r a) s = .next ((s.answer r.val 1 [0]).settle) ∧
      ∀ d, (∀ f t e n, w = .prism f t e n → f < 4) → exec (.wr64 r a d) s = .next ((s.answer r.val 1 []).settle))) ∧
  (∀ (r : Requester) (a : BitVec 40) (s : State), r.val ≠ 0 →
    ((a.toNat % 4 ≠ 0 ∨ 0x1000000000 ≤ a.toNat) →
      exec (.rd32 r a) s = .next ((s.answer r.val 3 [0]).settle) ∧
      ∀ d, exec (.wr32 r a d) s = .next ((s.answer r.val 3 []).settle)) ∧
    ((a.toNat % 8 ≠ 0 ∨ a.toNat < 0x1000000000) →
      exec (.rd64 r a) s = .next ((s.answer r.val 3 [0]).settle) ∧
      ∀ d, exec (.wr64 r a d) s = .next ((s.answer r.val 3 []).settle)))

/-- From R9, R38, R548: an access to a mapped register whose holders answer is made after the islands it reaches are ungated (R43), and is
answered OK: a read by REGISTER_WRITE's counterpart READ_CLEAR, PAIR_LO_READ or a policy core's RD32 returns the register's word, and
REGISTER_WRITE or a policy core's WR32 writes it. From R38, R439, R548: an access to a word of a table window whose holders answer is
made after the islands it reaches are ungated (R43): a policy core's RD64 answers with the word, or with status 0x4 and 0 where the word
is poison (R438), and its WR64 follows the rules of the table. Completion: exec answers a next state with its own effect, under the
conditions on the state and the operands that stand before its clauses, for each of readClear, pairLoRead, rd32, registerWrite, wr32,
rd64, wr64. -/
def Obligations.AccessReachesItsRegisterOrWord : Prop :=
  (∀ (r : Requester) (a : BitVec 40) (h : Hit) (s : State),
    ok32 a.toNat = true → inStaging a.toNat = false → tlogAt a.toNat = none → findReg a.toNat = some h →
    (h.holders = [] ∨ ∃ n ∈ h.holders, s.isl n < 2) →
    (let x := (s.wakeForRead h.holders).readReg r.val h
     let t := (x.1.answer r.val 0 [BitVec.ofNat 64 (x.2 % 2 ^ 32)]).settle
     exec (.readClear r a) s = .next t ∧ exec (.pairLoRead r a) s = .next t ∧ (r.val ≠ 0 → exec (.rd32 r a) s = .next t)) ∧
    ∀ d : BitVec 32,
      (let t := (((s.wakeForWrite h.holders).writeReg r.val h d.toNat).answer r.val 0 []).settle
       exec (.registerWrite r a d) s = .next t ∧ (r.val ≠ 0 → exec (.wr32 r a d) s = .next t))) ∧
  (∀ (r : Requester) (a : BitVec 40) (w : Win) (s : State), r.val ≠ 0 → ok64 a.toNat = true → findWin a.toNat = some w →
    (w.holders = [] ∨ ∃ n ∈ w.holders, s.isl n < 2) →
    (let x := (s.wakeForRead w.holders).readWin w a.toNat
     exec (.rd64 r a) s = .next ((x.1.answer r.val x.2.1 [BitVec.ofNat 64 x.2.2]).settle) ∧ (x.2.1 = 0 ∨ x.2 = (4, 0))) ∧
    ∀ d : BitVec 64, s.writeAnswers w = true →
      exec (.wr64 r a d) s = .next ((((s.wakeForWrite w.holders).writeWin r w a.toNat d).answer r.val 0 []).settle))

/-- From R9, for a register whose fields have no rule of their own: a write sets every RW field to its bits of the data word, clears the
bits of W1C and W1CS fields where the word has a 1, and leaves RO, WO and RC fields, and every other register, as they were. From R9:
the read that clears returns the register as it stood, and leaves its RC fields 0 and every other field as it was. -/
def Obligations.RegisterAccessTypes : Prop :=
  (∀ (h : Hit) (d : Nat) (s : State), ((h.row.fields h.i h.j).map fun e => e.1.key).Nodup →
    (∀ e ∈ h.row.fields h.i h.j, 2 ^ e.1.width > s.get e.1) →
    (∀ e ∈ h.row.fields h.i h.j, e.2 = .rw → (s.plainWrite h d).get e.1 = bitsOf d e.1.lo e.1.width) ∧
    (∀ e ∈ h.row.fields h.i h.j, e.2 = .w1c ∨ e.2 = .w1cs →
      (s.plainWrite h d).get e.1 = s.get e.1 - (s.get e.1 &&& bitsOf d e.1.lo e.1.width)) ∧
    (∀ e ∈ h.row.fields h.i h.j, e.2 ≠ .rw → e.2 ≠ .w1c → e.2 ≠ .w1cs → (s.plainWrite h d).get e.1 = s.get e.1) ∧
    (∀ x : Fld, x.key ∉ (h.row.fields h.i h.j).map (fun e => e.1.key) → (s.plainWrite h d).get x = s.get x) ∧
    ∃ f, s.plainWrite h d = { s with fld := f }) ∧
  (∀ (h : Hit) (s : State), ((h.row.fields h.i h.j).map fun e => e.1.key).Nodup →
    (∀ e ∈ h.row.fields h.i h.j, e.2 = .rc → (s.readClears h).get e.1 = 0) ∧
    (∀ x : Fld, (∀ e ∈ h.row.fields h.i h.j, e.2 = .rc → x.key ≠ e.1.key) → (s.readClears h).get x = s.get x) ∧
    ∃ f, s.readClears h = { s with fld := f })

/-- From R522: a read of LO returns bits [31:0] and latches bits [63:32] for its requester; a read of HI returns the latch, whatever has
become of the pair; with no latch, HI returns the current upper half. The latches of other requesters stay. -/
def Obligations.PairReadsFormOneValue : Prop :=
  ∀ (r : Requester) (lo hi : Hit) (s : State), hi = { lo with hi := true } → lo.hi = false → lo.row.name.isTodS = false →
    (s.pairRead r.val lo).2 = s.regValue lo % 2 ^ 32 ∧
    (∀ t : State, t.latch = (s.pairRead r.val lo).1.latch → (t.pairRead r.val hi).2 = s.regValue lo / 2 ^ 32 % 2 ^ 32) ∧
    (mget (latchKey r.val lo.addr) s.latch = none → (s.pairRead r.val hi).2 = s.regValue lo / 2 ^ 32 % 2 ^ 32) ∧
    (∀ (q : Requester) (a : Nat), (q ≠ r ∨ a ≠ lo.addr) → mget (latchKey q.val a) (s.pairRead r.val lo).1.latch = mget (latchKey q.val a) s.latch) ∧
    (s.pairRead r.val hi).1 = s ∧ ∃ l, (s.pairRead r.val lo).1 = { s with latch := l }

/-- No access reads a key: with every key that the device holds replaced by 0 (SA keys and salts, root keys, terminal key-encryption keys,
tree-layer keys), every read of a register or table word, by any requester, answers the same status and data. -/
def Obligations.NoReadReturnsKeyMaterial : Prop :=
  ∀ (s : State) (r : Requester) (a : BitVec 40),
    (s.noKeys.read32 r.val a.toNat).2 = (s.read32 r.val a.toNat).2 ∧ (s.noKeys.read64 r.val a.toNat).2 = (s.read64 r.val a.toNat).2

/-- A 64-bit word of canonical memory reads back what was written, as a number below 2^64, most significant octet first (R7); it is no
poison (R497), octets outside it are as before, and memory stays canonical. -/
def Obligations.AWrittenWordReadsBack : Prop :=
  ∀ (s : State) (a v : Nat), Memory.wf s.mem = true →
    (s.putWord a v).word a = v % 2 ^ 64 ∧ (s.putWord a v).poisoned a = false ∧ Memory.wf (s.putWord a v).mem = true ∧
    (∀ x, (x < a ∨ a + 8 ≤ x) → (s.putWord a v).byteAt x = s.byteAt x) ∧
    (∀ x, (x + 8 ≤ a ∨ a + 8 ≤ x) → (s.putWord a v).word x = s.word x)

/-! ## Requests of the host over the link -/

/-- From R434, R439: a register request of the host at the front of pool 0 that its ord lets pass (R441), with credits for its response, is
executed, answered with its tag, and followed by the answers to the malformed requests behind it. Completion: exec answers a next state
with its own effect, under the conditions on the state and the operands that stand before its clauses, for each of rd32, rd64, wr32,
wr64. -/
def Obligations.HostRegisterRequestIsExecuted : Prop :=
  ∀ (q : LReq) (a : BitVec 40) (s : State), s.headReq 0 = some q → s.ordOk q = true → s.holdsCredits 0 1 = true →
    (q.isOp 1 a.toNat = true →
      exec (.rd32 0 a) s = .next ((let x := (s.popReq q).read32 0 a.toNat
        x.1.finishReq 0 (tagOf (q.body.getD 0 0)) x.2.1 [BitVec.ofNat 64 x.2.2]).settle)) ∧
    (q.isOp 3 a.toNat = true →
      exec (.rd64 0 a) s = .next ((let x := (s.popReq q).read64 0 a.toNat
        x.1.finishReq 0 (tagOf (q.body.getD 0 0)) x.2.1 [BitVec.ofNat 64 x.2.2]).settle)) ∧
    (∀ d : BitVec 32, q.isOp 2 a.toNat = true → q.body.getD 1 0 = d.setWidth 64 →
      exec (.wr32 0 a d) s = .next ((let x := (s.popReq q).write32 0 a.toNat d.toNat
        x.1.finishReq 0 (tagOf (q.body.getD 0 0)) x.2 []).settle)) ∧
    (∀ d : BitVec 64, q.isOp 4 a.toNat = true → q.body.getD 1 0 = d →
      exec (.wr64 0 a d) s = .next ((let x := (s.popReq q).write64 0 a.toNat d
        x.1.finishReq 0 (tagOf (q.body.getD 0 0)) x.2 []).settle))

/-- From R440: a DMA or fill whose range meets its conditions runs word by word, a DMA write descending when rev is set; the answer carries
the status of the first word that fails. EXC_TX gives its frame to the Prism of its slice when its fields are in range (R442). Stated
for a command that is taken into execution: the request at the front of pool 1 with its tag, or, with none waiting, the command itself
with tag 0 (the model's choice, DESIGN CHOICE, log 64). One whose range does not meet the conditions answers status 0x3 with no effect.
A LINK reset that catches it stops it after the words that it has done, and no response is sent (R452). From R440: the words of a DMA
write stop at the first that fails, and the words before it stay written: a write of the words l followed by r, where no word of l
fails, is the write of l and then that of r. Completion: exec answers a next state with its own effect, under the conditions on the
state and the operands that stand before its clauses, for each of dmaWr, dmaRd, fill, excTx. -/
def Obligations.DmaFillAndExceptionFrames : Prop :=
  (∀ (a : BitVec 40) (s : State),
    (∀ rev words s1 tag, s.takeReq 1 1 (fun q => q.isDmaWr a.toNat rev words) = some (s1, tag) →
      (s1.link.caught = none → dmaOk a.toNat (s.dmaWrLen words) 8192 = true →
        exec (.dmaWr a rev words) s = .next ((let x := s1.dmaWrite a.toNat rev words words.length
          x.1.finishDma tag x.2 []).settle)) ∧
      (∀ n, s1.link.caught = some n → dmaOk a.toNat (s.dmaWrLen words) 8192 = true →
        exec (.dmaWr a rev words) s = .next ((let x := s1.dmaWrite a.toNat rev words n; x.1.finishDma tag x.2 []).settle)) ∧
      (dmaOk a.toNat (s.dmaWrLen words) 8192 = false → exec (.dmaWr a rev words) s = .next (s1.finishDma tag 3 []).settle)) ∧
    (∀ (n : BitVec 32) s1 tag, dmaOk a.toNat n.toNat 8192 = true → s1.link.caught = none →
      s.takeReq 1 (ceilDiv (1 + n.toNat / 8) 8) (fun q => q.isDmaRd a.toNat n.toNat) = some (s1, tag) →
      exec (.dmaRd a n) s = .next ((let x := s1.dmaGets a.toNat (n.toNat / 8)
        x.1.finishDma tag x.2.1 (if x.2.1 = 0 then x.2.2 else List.replicate (n.toNat / 8) 0)).settle)) ∧
    (∀ (n : BitVec 40) (v : BitVec 64) s1 tag, s.takeReq 1 1 (fun q => q.isFill a.toNat n.toNat v) = some (s1, tag) →
      (s1.link.caught = none → dmaOk a.toNat n.toNat (2 ^ 36) = true →
        exec (.fill a n v) s = .next ((let x := s1.fillWords a.toNat v (n.toNat / 8); x.1.finishDma tag x.2 []).settle)) ∧
      (dmaOk a.toNat n.toNat (2 ^ 36) = false → exec (.fill a n v) s = .next (s1.finishDma tag 3 []).settle)) ∧
    (∀ (w : BitVec 64) (l : List (BitVec 8)), excWordOk w.toNat l.length = true →
      (s.headReq 2 = none →
        exec (.excTx w l) s = .next ((s.injectExc w.toNat l (.host (bitsOf w.toNat 62 2)) (bitsOf w.toNat 62 2)).settle)) ∧
      ∀ q, s.headReq 2 = some q → q.isExc w l = true → bitsOf (q.body.getD 0 0).toNat 40 6 = 0 → exec (.excTx w l) s = .next
        (((s.popReq q).injectExc w.toNat l (.host (bitsOf w.toNat 62 2)) (bitsOf w.toNat 62 2)).settle)) ∧
    ∀ (t : State) tag st data, (t.link.caught = none → t.finishDma tag st data = t.finishReq 1 tag st data) ∧
      ∀ n, t.link.caught = some n → t.finishDma tag st data = { t with link := { t.link with caught := none } }) ∧
  (∀ (l r : List (Nat × BitVec 64)) (s : State),
    ((s.dmaPuts l).2 = 0 → s.dmaPuts (l ++ r) = (s.dmaPuts l).1.dmaPuts r) ∧
    ((s.dmaPuts l).2 ≠ 0 → s.dmaPuts (l ++ r) = s.dmaPuts l))

/-! ## Islands -/

/-- From R36, R38, R46: a reset asked for by host software, a policy core or an uncorrectable word, by the watchdog (cause 0x3) or by a
crossing that got no acknowledge from an island in Run (cause 0x5, R17) is carried out for an island other than 0 that is not Off and
not being reset: the cause is recorded and counted, the Trouble Log takes an entry of kind 0x01 with the island and the cause, the state
reads 0b10, Fence begins, and the departures and the Journal copy that the island carries are cut short. Asked for an island in Off or
in reset, or by a policy core for POL, nothing changes. Completion: exec answers a next state with its own effect, under the conditions
on the state and the operands that stand before its clauses, for each of islandResetRequest, islandWatchdog, crossingTimeout. -/
def Obligations.IslandResetRequestsBeginFence : Prop :=
  ∀ (n : Isl) (s : State),
    let begun (c : Nat) : State :=
      let e := ((s.put (MGT_RST_CAUSE.cause n.val) c).inc (MGT_RST_CAUSE.count n.val)).tlog 0x01 .mgt (n.val + c * 256)
      let m := (e.modIsl n.val fun x => { x with
        step := .fence, gateReq := false, gateWaits := false, retried := false, heldSummary := BitVec.ofNat 23 (e.holdBits n.val)
        stoppedNs := e.localNs })
      (((m.put (MGT_ISLAND_STATE.island n.val) 2).setBit MGT_ISLAND_RST.req (n.val - 1)).interruptIsland n.val).fenceJournal n.val
    (n ≠ 0 → s.isl n.val ≠ 2 → s.isOff n.val = false →
      exec (.islandResetRequest .host n) s = .next (begun 1).settle ∧
      (n ≠ 1 → exec (.islandResetRequest .policy n) s = .next (begun 2).settle) ∧
      exec (.islandResetRequest .uncorrectable n) s = .next (begun 4).settle ∧
      exec (.islandWatchdog n) s = .next (begun 3).settle ∧
      (s.isl n.val = 0 → ∀ src : Isl, exec (.crossingTimeout src n) s = .next (begun 5).settle)) ∧
    ((n = 0 ∨ s.isl n.val = 2 ∨ s.isOff n.val = true) →
      (∀ b, exec (.islandResetRequest b n) s = .next s.settle) ∧ exec (.islandWatchdog n) s = .next s.settle) ∧
    exec (.islandResetRequest .policy 1) s = .next s.settle ∧
    (s.isl n.val ≠ 0 → ∀ src : Isl, exec (.crossingTimeout src n) s = .next s.settle)

/-- From R36, R37: each step of the reset sequence gives way to the next; the end of Rejoin puts the island in Run, sets its done bit and
clears its request; a step that passes its limit runs the sequence once more (counting and logging no further reset: DESIGN CHOICE, log
122), and a second time leaves the island Failed. The banks of the island that fail their check are out, and a forwarding bank or class
0x6 part among them fails (R506). A Journal copy ends Rejoin so only while its partner is out of service. Completion: exec answers a
next state with its own effect, under the conditions on the state and the operands that stand before its clauses, for each of
resetFenceEnd, resetFenceTimeout, resetAssertEnd, resetRestoreEnd, resetRejoinEnd, resetStepTimeout. -/
def Obligations.ResetSequenceStepsInOrder : Prop :=
  ∀ (n : Isl) (s : State), s.isl n.val = 2 →
    ((s.islSt n.val).step = .fence →
      exec (.resetFenceEnd n) s = .next (s.modIsl n.val fun x => { x with step := .assert }).settle ∧
      exec (.resetFenceTimeout n) s = .next (s.modIsl n.val fun x => { x with step := .assert }).settle) ∧
    ((s.islSt n.val).step = .assert →
      exec (.resetAssertEnd n) s = .next ((s.assertIsland n.val).modIsl n.val fun x => { x with step := .restore }).settle) ∧
    ((s.islSt n.val).step = .restore →
      ∀ banks pcs, exec (.resetRestoreEnd n banks pcs) s = .next (let bad := (banks.map (·.val)).filter fun b => (bankIslands b).contains n.val
        State.banksFail ((s.restoreIsland n.val bad (pcs.map (·.val))).modIsl n.val fun x => { x with step := .rejoin }) bad).settle) ∧
    ((s.islSt n.val).step = .rejoin → (n = 18 ∨ n = 19 → s.inService (n != 19) = false) →
      exec (.resetRejoinEnd n) s = .next (State.rejoinIsland
        ((((s.put (MGT_ISLAND_STATE.island n.val) 0).setBit MGT_RST_DONE.done (n.val - 1)).clrBit MGT_ISLAND_RST.req (n.val - 1)).modIsl n.val
          fun x => { x with step := .none, retried := false, off := false, heldSummary := 0 }) n.val).settle) ∧
    ((s.islSt n.val).step = .restore ∨ (s.islSt n.val).step = .rejoin →
      exec (.resetStepTimeout n) s =
        .next (if (s.islSt n.val).retried then s.failIsland n.val else s.fence n.val true).settle)

/-- From R41 to R45, R465: a quiet island in Run that can enter Idle and whose timer is not 0 is asked to gate, at once or after its divider
ramp; its acknowledge with every port idle puts it in Idle; a request without one is withdrawn, shown and counted; an access ungates an
island in Idle, and no other. Completion: exec answers a next state with its own effect, under the conditions on the state and the
operands that stand before its clauses, for each of idleTimerExpiry, gateAcknowledge, gateRequestTimeout, islandUngate. -/
def Obligations.ClockGatingHandshake : Prop :=
  ∀ (n : Isl) (s : State),
    (s.isl n.val = 0 → Config.idleCapable n.val = true → s.get (MGT_IDLE_TIMER.timer_us n.val) ≠ 0 →
      exec (.idleTimerExpiry n) s = .next
        (if s.get (CLK_ISL_STATUS.ramping n.val) ≠ 0 then s.modIsl n.val fun x => { x with gateWaits := true }
        else s.modIsl n.val fun x => { x with gateReq := true }).settle) ∧
    ((s.isl n.val ≠ 0 ∨ Config.idleCapable n.val = false ∨ s.get (MGT_IDLE_TIMER.timer_us n.val) = 0) →
      exec (.idleTimerExpiry n) s = .next s.settle) ∧
    ((s.islSt n.val).gateReq = true → s.isl n.val = 0 →
      exec (.gateAcknowledge n false) s = .next
        ((s.put (MGT_ISLAND_STATE.island n.val) 1).modIsl n.val fun x => { x with gateReq := false }).settle) ∧
    exec (.gateAcknowledge n true) s = .next s.settle ∧
    ((s.islSt n.val).gateReq = true →
      exec (.gateRequestTimeout n) s = .next
        (((s.modIsl n.val fun x => { x with gateReq := false }).setBit MGT_GATE_REFUSED.refused n.val).inc
          MGT_GATE_REFUSED_CNT.count).settle) ∧
    (s.isl n.val = 1 → exec (.islandUngate n) s = .next (s.put (MGT_ISLAND_STATE.island n.val) 0).settle) ∧
    (s.isl n.val ≠ 1 → exec (.islandUngate n) s = .next s.settle)

/-- From R16, R43, R495: a transfer to an island in Run or Idle ungates it, and without a parity error does no more; a parity error is
counted, recorded, shown and logged with kind 0x04, a frame not accepted is refused with cause 0x09, the departure of an accepted frame
is cut short, and any other transfer is presented again, at most three times in all, the third failure resetting the receiving island
with cause 0x4. Completion: exec answers a next state with its own effect, under the conditions on the state and the operands that stand
before its clauses, for each of islandTransfer, parityRetry. -/
def Obligations.TransfersAndTheirParity : Prop :=
  ∀ (src dst : Isl) (s : State), s.isl dst.val < 2 →
    let awake : State := if s.isl dst.val = 1 then s.put (MGT_ISLAND_STATE.island dst.val) 0 else s
    let bad (u : State) : State :=
      (((u.inc REL_PARITY_CNT.count).put REL_PARITY_LAST.last (src.val + dst.val * 256)).set1 REL_EVENT.parity).tlog 0x04 .rel
        (src.val + dst.val * 256)
    let tries (u : State) (k : Nat) : State :=
      { u with rel := { u.rel with crossRetry := nset (src.val * 32 + dst.val) k u.rel.crossRetry } }
    let tried := mgetD (src.val * 32 + dst.val) 0 s.rel.crossRetry
    (∀ l, exec (.islandTransfer src dst l false) s = .next awake.settle) ∧
    exec (.islandTransfer src dst .other true) s = .next (tries (bad awake) 1).settle ∧
    (∀ id f, (bad awake).frame id = some f →
      exec (.islandTransfer src dst (.frameNotAccepted id) true) s = .next ((bad awake).refuseFrame f 9).genCheck.settle) ∧
    (∀ slot, exec (.islandTransfer src dst (.frameAccepted slot) true) s = .next ((bad awake).interruptIf fun h => h.slot == slot).settle) ∧
    (tried ≠ 0 → exec (.parityRetry src dst false) s = .next (tries s 0).settle) ∧
    (tried = 1 → exec (.parityRetry src dst true) s = .next (tries (bad s) 2).settle) ∧
    (tried = 2 → exec (.parityRetry src dst true) s = .next ((tries (bad s) 0).resetIsland dst.val 4).settle) ∧
    (tried = 0 → ∀ b, exec (.parityRetry src dst b) s = .next s.settle)

/-- From R524: from Fence until Rejoin ends, the summary bit of a block whose source registers lie in one island keeps the value it had at
Fence. -/
def Obligations.SummaryBitIsHeldFromFenceToRejoin : Prop :=
  ∀ (n b : Nat) (s : State), blockIslands b = [n] → s.isl n = 2 → b < 23 → b ≠ 2 →
    bit1 s.summary b = bit1 (s.islSt n).heldSummary.toNat b

/-! ## The Structure Image loader -/

/-- From R76: while SIL_STATUS.busy is 1, a write of the staging window completes with no effect but SIL_EVENT.stage_write_busy, and a write
of 1 to SIL_CTRL.load with none but the count SIL_FAIL_CNT.busy. -/
def Obligations.BusySilIgnoresStagingAndLoad : Prop :=
  ∀ s : State, s.get SIL_STATUS.busy ≠ 0 →
    (∀ off octets, exec (.stageWrite off octets) s = .next (s.put SIL_EVENT.stage_write_busy 1).settle) ∧
    exec .silLoad s = .next (s.put SIL_FAIL_CNT.busy (min (s.get SIL_FAIL_CNT.busy + 1) (2 ^ 16 - 1))).settle

/-- From R68: a load starts in Parse with the state Loading, busy, error 0 and the kind of its image; each of Parse, Verify and Check that
finds nothing wrong gives way to the next step, and changes nothing of the structure in force. R67, R76: staged octets land at their
offset, up to the end of the window. From R68, R70: a step that finds an error, or that passes its limit (error 0x11), ends the load as
failed; Apply is run once more before it fails with 0x0F, the tenants and trees of a partial image that were swapped staying swapped;
the SHED Drawer is swapped in the last act of Apply only. Completion: exec answers a next state with its own effect, under the
conditions on the state and the operands that stand before its clauses, for each of silLoad, loadParseEnd, loadVerifyEnd, loadCheckEnd,
stageWrite, loadStepTimeout. -/
def Obligations.LoadSequenceAndItsFailures : Prop :=
  (∀ s : State,
    (s.get SIL_STATUS.busy = 0 → ∃ t : State, exec .silLoad s = .next t.settle ∧ t.sil = { s.sil with
        step := .parse, applyRetried := false, wasStructured := decide (s.get SIL_STATUS.state = 2) } ∧
      t.get SIL_STATUS.state = 1 ∧ t.get SIL_STATUS.busy = 1 ∧ t.get SIL_STATUS.step = 1 ∧ t.get SIL_STATUS.error = 0 ∧
      t.get SIL_STATUS.partial = (if s.imgFull then 0 else 1) ∧
      ∃ f, t = { s with fld := f, sil := t.sil }) ∧
    (s.sil.step = .parse → s.parseErr = none →
      exec .loadParseEnd s = .next { s.put SIL_STATUS.step 2 with sil := { s.sil with step := .verify } }.settle) ∧
    (s.sil.step = .verify → exec .loadVerifyEnd s = .next (match s.verifyErr with
      | none => { s.put SIL_STATUS.step 3 with sil := { s.sil with step := .check } }
      | some e => s.loadFail e).settle) ∧
    (s.sil.step = .check → s.checkErr s.sil.wasStructured = none →
      exec .loadCheckEnd s = .next { s.put SIL_STATUS.step 4 with sil := { s.sil with step := .apply } }.settle) ∧
    (s.get SIL_STATUS.busy = 0 → ∀ (off : BitVec 20) (octets : List (BitVec 8)), off.toNat + octets.length ≤ 0x100000 →
      exec (.stageWrite off octets) s = .next (s.putBytes (0x01100000 + off.toNat) octets).settle)) ∧
  (∀ s : State,
    (∀ e, s.sil.step = .parse → s.parseErr = some e → exec .loadParseEnd s = .next (s.loadFail e).settle) ∧
    (∀ e, s.sil.step = .check → s.checkErr s.sil.wasStructured = some e → exec .loadCheckEnd s = .next (s.loadFail e).settle) ∧
    (∀ k, (s.sil.step = .parse ∨ s.sil.step = .verify ∨ s.sil.step = .check) →
      exec (.loadStepTimeout k) s = .next (s.loadFail ⟨0x11, 0, 0, 0⟩).settle) ∧
    (∀ k, s.sil.step = .apply → s.get SIL_STATUS.partial = 0 →
      exec (.loadStepTimeout k) s = .next (if s.sil.applyRetried then s.loadFail ⟨0x0F, 0, 0, 0⟩
        else { s with sil := { s.sil with applyRetried := true } }).settle) ∧
    (∀ k, s.sil.step = .apply → s.get SIL_STATUS.partial ≠ 0 →
      let done := ((s.partialItems.filter fun e => e.1 < 2).take k).foldl State.swapItem s
      exec (.loadStepTimeout k) s = .next (if s.sil.applyRetried then done.loadFail ⟨0x0F, 0, 0, 0⟩
        else { done with sil := { done.sil with applyRetried := true } }).settle))

/-- From R48: a load remembers whether the device was Structured at its start; in the Check step a full image passes only where the device
was Unstructured, and a partial image only where it was Structured; the wrong kind fails with error 0x10, whatever else is wrong. -/
def Obligations.WrongKindOfImageIsError10 : Prop :=
  (∀ s : State, (s.imgFull = s.sil.wasStructured) → s.sil.step = .check →
    exec .loadCheckEnd s = .next (s.loadFail ⟨0x10, 0, 0, 0⟩).settle) ∧
  (∀ s : State, (s.imgFull = s.sil.wasStructured) → s.checkErr s.sil.wasStructured ≠ none) ∧
  (∀ s : State, s.get SIL_STATUS.busy = 0 → ∃ t : State, exec .silLoad s = .next t.settle ∧
    t.sil.wasStructured = decide (s.get SIL_STATUS.state = 2))

/-- From R69, R70, R75, R78: with no island that it writes in reset, Apply of a full image builds the structure of the image and that of a
partial image swaps its items in order; Release leaves the device Structured, with the load counted and reported. From R49, R72, R77:
unstructure takes effect in Structured, and waits for the end of a running load; burn_svn in Structured blows fuses up to the svn of the
running image, never down; revoke adds the slots it names but that of the running full image, and changes nothing else. Completion: exec
answers a next state with its own effect, under the conditions on the state and the operands that stand before its clauses, for each of
loadApplyEnd, silUnstructure, silBurnSvn, silRevoke. -/
def Obligations.ApplyUnstructureAndFuses : Prop :=
  (∀ s : State, s.sil.step = .apply → s.applyWaits = false →
    (s.get SIL_STATUS.partial = 0 → exec .loadApplyEnd s = .next s.applyFull.loadRelease.settle) ∧
    (s.get SIL_STATUS.partial ≠ 0 → exec .loadApplyEnd s = .next (s.partialItems.foldl State.swapItem s).loadRelease.settle)) ∧
  (∀ s : State,
    (s.get SIL_STATUS.busy ≠ 0 → exec .silUnstructure s = .next { s with sil := { s.sil with unstructPending := true } }.settle) ∧
    (s.get SIL_STATUS.busy = 0 → s.get SIL_STATUS.state = 2 → exec .silUnstructure s = .next s.unstructure.settle) ∧
    (s.get SIL_STATUS.state = 2 → exec .silBurnSvn s =
      .next (s.put SIL_FUSE_SVN.min_svn (max (s.get SIL_FUSE_SVN.min_svn) (s.get SIL_LOADED.svn))).settle) ∧
    (s.get SIL_STATUS.state ≠ 2 → exec .silBurnSvn s = .next s.settle) ∧
    (s.get SIL_FUSE_KEY.revoked < 16 → ∀ slots : BitVec 4, ∃ t : State, exec (.silRevoke slots) s = .next t.settle ∧ (∃ f, t = { s with fld := f }) ∧
      (∀ x : Fld, x.key ≠ SIL_FUSE_KEY.revoked.key → t.get x = s.get x) ∧
      ∀ j, j < 4 → bit1 (t.get SIL_FUSE_KEY.revoked) j =
        (bit1 (s.get SIL_FUSE_KEY.revoked) j || (slots.toNat.testBit j && !(s.imageRuns && decide (s.get SIL_LOADED.key_slot = j))))))

/-! ## Trees -/

/-- From R80, R82, R108: a tree-frame tick of a running time keeper starts tree frame k + 1 on the trees in ascending number, after the
interlock's releases and the sync of a switch-over, and before the slice switches, the returns to Doze, the band steps, the staleness of
receive profiles and the late and the new calibration requests; at each start the SFC of the tree counts on by one, wrapping at 2^51, or
takes the value of TE_SFC_SET, and a wrap or a load makes every tree-layer key of the tree invalid and sets TE_EVENT.key_wrap.
Completion: exec answers a next state with its own effect for treeFrameTick, under the conditions on the state and the operands that
stand before its clauses. -/
def Obligations.TreeFrameTickAndSuperframeCount : Prop :=
  (∀ s : State, s.tu.running = true →
    let begun : State := State.protSync (State.protRelease { s with
      ge := { s.ge with k := s.ge.k + 1, tickNs := s.lastTickNs }
      terms := s.terms.map fun e => (e.1, holdStep e.2) })
    let sent := (List.range 32).foldl (State.frameStart (s.ge.k + 1)) begun.edgesClear
    let done := ((List.range 32).foldl State.dozeBack sent.sliceSwitches).bandSteps.evalStale
    exec .treeFrameTick s = .next (done.lateReqs 9).tickReqs.settle) ∧
  (∀ (k : Nat) (t : Tree) (s : State), s.sends t.val = false →
    s.frameStart k t.val = (((s.sfcAdvance t.val).keySwitches t.val).mapsPast t.val k false).windowsMissed t.val k ∨
      ((s.sfcAdvance t.val).keySwitches t.val).sends t.val = true) ∧
  (∀ (t : Tree) (s : State), (s.tree t.val).sfcLoadPending = false → s.get (TE_SFC.sfc t.val) < 2 ^ 51 →
    (s.sfcAdvance t.val).get (TE_SFC.sfc t.val) = (s.get (TE_SFC.sfc t.val) + 1) % 2 ^ 51 ∧
    (s.get (TE_SFC.sfc t.val) + 1 < 2 ^ 51 → (s.sfcAdvance t.val).tree t.val = s.tree t.val) ∧
    (s.get (TE_SFC.sfc t.val) + 1 = 2 ^ 51 → (s.sfcAdvance t.val).get (TE_EVENT.key_wrap t.val) = 1 ∧
      (∀ e ∈ ((s.sfcAdvance t.val).tree t.val).ukeys, e.2.valid = false) ∧
      ∀ e ∈ ((s.sfcAdvance t.val).tree t.val).bkeys, e.2.valid = false)) ∧
  (∀ (t : Tree) (s : State), (s.tree t.val).sfcLoadPending = true →
    (s.sfcAdvance t.val).get (TE_SFC.sfc t.val) = s.get (TE_SFC_SET.sfc t.val) % 2 ^ 51 ∧
    ((s.sfcAdvance t.val).tree t.val).sfcLoadPending = false ∧ (s.sfcAdvance t.val).get (TE_EVENT.key_wrap t.val) = 1 ∧
    (∀ e ∈ ((s.sfcAdvance t.val).tree t.val).ukeys, e.2.valid = false) ∧
    ∀ e ∈ ((s.sfcAdvance t.val).tree t.val).bkeys, e.2.valid = false)

/-- From R82, R89 to R91, R95: sfc_load is taken only while TXDIS of the tree is asserted; a fill deadline makes the next frame a fill
frame; a buffer that runs dry cuts the departures of the tree short and counts the frame once; the first expected burst of a receiving
tree that no candidate confirms is a missed one, or lost while the sequencer covers for the engine; while the engine is held in reset
with its buffer not yet dry, bursts are neither received nor counted (DEDUCED, log 138). A half_bits or max_err outside its range acts
with the value written (DESIGN CHOICE, log 136). From R88, R98: a reassembly context that times out is dropped and counted; a write of
TE_BRST_CFG in reset mode has its width cut so that delay and width fit in 20 cycles, with TE_EVENT.brst_clamped, and is taken as it is
otherwise. Completion: exec answers a next state with its own effect, under the conditions on the state and the operands that stand
before its clauses, for each of sfcLoadCmd, csFillDeadline, csBufferDry, upstreamBurstDue, burstWindowClose, reassemblyTimeout,
brstCfgWrite. -/
def Obligations.SequencerReassemblyAndBurstReset : Prop :=
  (∀ (t : Tree) (s : State),
    (s.txdis t.val = true → exec (.sfcLoadCmd t) s = .next (s.modTree t.val fun x => { x with sfcLoadPending := true }).settle) ∧
    (s.txdis t.val = false → exec (.sfcLoadCmd t) s = .next (s.put (TE_EVENT.sfc_load_refused t.val) 1).settle) ∧
    (s.engineSends t.val = true →
      exec (.csFillDeadline t) s = .next (s.modTree t.val fun x => { x with fillNext := true }).settle ∧
      exec (.csBufferDry t) s = .next
        (let d := (((s.passPayload t.val).interrupt t.val).fillRest t.val).modTree t.val fun x => { x with bufferDry := true }
         if (s.tree t.val).fillCounted then d.put (TE_STATUS.cs_filling t.val) 1
         else (((d.inc (TE_CS_FILL_CNT.count t.val)).set1 (TE_EVENT.cs_took_over t.val)).put (TE_STATUS.cs_filling t.val) 1).modTree t.val
           fun x => { x with fillCounted := true }).settle) ∧
    (∀ b r, (s.tree t.val).expected = b :: r → s.receives t.val = true →
      (∀ c, exec (.upstreamBurstDue t c) s = .next (s.burstDue t.val b c).settle) ∧
      exec (.burstWindowClose t) s = .next (s.burstMissed t.val b).settle ∧
      (s.covered t.val = true → ∀ c, s.burstDue t.val b c = s.burstMissed t.val b ∧
        s.burstMissed t.val b = (s.burstDone t.val b).inc (TE_CS_LOST_ALLOC_CNT.count t.val)) ∧
      (s.covered t.val = false → s.deaf t.val = true → s.burstMissed t.val b = s.burstDone t.val b ∧
        ∀ c, s.burstDue t.val b c = s.burstDone t.val b) ∧
      (s.covered t.val = false → s.deaf t.val = false →
        (s.burstMissed t.val b =
          let u := ((s.burstDone t.val b).inc (TE_DELIM_MISS_CNT.count t.val)).noteMiss t.val b.onu
          (if b.kind = .inService ∧ u.operating t.val b.onu then u.inServiceMiss t.val b.onu else u).calMissed b) ∧
        ∀ c : Candidate, s.candOk t.val b c = true → c.hecOk = true →
          let u := (s.incBy (TE_DELIM_FALSE_CNT.count t.val) 0).burstDone t.val b
          s.burstDue t.val b [c] = if c.onu.toNat = b.onu then u.burstIn t.val b c
            else (u.inc (TE_WRONG_ID_CNT.count t.val)).calMissed b))) ∧
  (∀ (t : Tree) (s : State),
    (∀ (onu : BitVec 8) (port : BitVec 16) x, s.reasmAt t.val onu.toNat port.toNat = some x →
      exec (.reassemblyTimeout t onu port) s = .next
        ((s.modTree t.val fun y => { y with reasm := y.reasm.filter fun z => !(z.onu == onu.toNat && z.port == port.toNat) }).inc
          (TE_REASM_TO_CNT.count t.val)).settle) ∧
    (s.isl (treeIsl t.val) < 2 → ∀ d : BitVec 32,
      let w := s.ungate (treeIsl t.val)
      let dl := (TE_BRST_CFG.delay t.val).of d.toNat
      let wd := (TE_BRST_CFG.width t.val).of d.toNat
      let m := (TE_BRST_CFG.mode t.val).of d.toNat
      let u := ((w.put (TE_BRST_CFG.mode t.val) m).put (TE_BRST_CFG.pol t.val) ((TE_BRST_CFG.pol t.val).of d.toNat)).put (TE_BRST_CFG.delay t.val) dl
      (m = 0 → 20 < dl + wd → exec (.brstCfgWrite t d) s =
        .next ((u.put (TE_BRST_CFG.width t.val) (20 - dl)).put (TE_EVENT.brst_clamped t.val) 1).settle) ∧
      ((m ≠ 0 ∨ dl + wd ≤ 20) → exec (.brstCfgWrite t d) s = .next (u.put (TE_BRST_CFG.width t.val) wd).settle)))

/-- From R101: a Dark tree asked for Lit goes to Power and asks for its load; the grant begins Laser, whose end waits for the tick of Sync
or, with the interlock keeping the tree dark, is Lit at once; a Power step that passes its limit asks once more and then fails, with the
tree Dark, TE_EVENT.light_fail and its load no longer asked for (R479). A Bench on the lane of the tree ends (R413). From R93, R100,
R102, R103, R118: a Lit, Active or Doze tree asked for Dark begins Stop, after which its open maps are rebuilt and its queued frames
reported with cause 0x2, and Drain, after which it is Dark; an idle Lit tree that may doze enters Doze; a wake or the discovery timer
leaves it for Lit, its retention banks are checked, and of them those named fail. Completion: exec answers a next state with its own
effect, under the conditions on the state and the operands that stand before its clauses, for each of treeLightRequest, treePowerGrant,
treePowerTimeout, treeLaserEnd, treeDarkRequest, treeStopEnd, treeDrainEnd, dozeIdleExpiry, treeWake, dozeDiscExpiry. -/
def Obligations.TreesFromDarkToLitAndBack : Prop :=
  (∀ (t : Tree) (s : State),
    (s.isl (treeIsl t.val) < 2 → (s.ungate (treeIsl t.val)).laneLost t.val = false → (s.ungate (treeIsl t.val)).loadHolds t.val = false →
      (s.ungate (treeIsl t.val)).treeState t.val = 1 →
      exec (.treeLightRequest t) s = .next ((((((s.ungate (treeIsl t.val)).put (TE_CTRL.state_req t.val) 1).benchEnd (32 + t.val)).put
        (TE_STATUS.state t.val) 5).modTree t.val
        fun x => { x with step := .power, powerRetried := false }).askPower t.val).settle) ∧
    (s.treeState t.val = 5 → (s.tree t.val).step = .power → t.val ∈ s.pwr.granted →
      exec (.treePowerGrant t) s = .next ({ s with pwr := { s.pwr with granted := s.pwr.granted.erase t.val } }.modTree t.val
        fun x => { x with step := .laser }).settle) ∧
    (s.treeState t.val = 5 → (s.tree t.val).step = .power → (s.tree t.val).powerRetried = false →
      exec (.treePowerTimeout t) s = .next ((s.modTree t.val fun x => { x with powerRetried := true }).askPower t.val).settle) ∧
    (s.treeState t.val = 5 → (s.tree t.val).step = .power → (s.tree t.val).powerRetried = true →
      exec (.treePowerTimeout t) s = .next ((((s.put (TE_STATUS.state t.val) 1).modTree t.val
        fun x => { x with step := .none, powerRetried := false }).dropPower t.val).put (TE_EVENT.light_fail t.val) 1).judgeTrees.settle) ∧
    (s.treeState t.val = 5 → (s.tree t.val).step = .laser → s.protBlocked t.val = false →
      exec (.treeLaserEnd t) s = .next (s.modTree t.val fun x => { x with step := .sync }).settle) ∧
    (s.treeState t.val = 5 → (s.tree t.val).step = .laser → s.protBlocked t.val = true →
      exec (.treeLaserEnd t) s = .next ((((s.put (TE_STATUS.state t.val) 2).modTree t.val fun x => { x with step := .none }).litOrActive t.val).rebuildFallback
        t.val).settle)) ∧
  (∀ (t : Tree) (s : State),
    (s.laneLost t.val = false → s.isl (treeIsl t.val) < 2 →
      exec (.treeDarkRequest t) s = .next
        ((((s.ungate (treeIsl t.val)).put (TE_CTRL.state_req t.val) 0).unhold t.val).darkRequest t.val).settle) ∧
    (∀ u : State, 2 ≤ u.treeState t.val → u.treeState t.val ≤ 4 → u.isl (treeIsl t.val) ≠ 2 →
      u.darkRequest t.val = u.darkBegin t.val) ∧
    (s.treeState t.val = 6 → (s.tree t.val).step = .stop →
      exec (.treeStopEnd t) s = .next
        (let u := (s.modTree t.val fun x => { x with step := .drain }).rebuildOpen t.val
         u.undeliverables 2 (u.treeFrames t.val)).settle) ∧
    (s.treeState t.val = 6 → (s.tree t.val).step = .drain → exec (.treeDrainEnd t) s = .next (s.goDark t.val).settle) ∧
    (∀ u : State, (u.goDark t.val).treeState t.val = 1 ∧ (u.goDark t.val).get (TE_STATUS.cs_filling t.val) = 0) ∧
    (s.treeState t.val = 2 → (s.treeEntry t.val).dozeEn = true → s.activeCount t.val = 0 →
      exec (.dozeIdleExpiry t) s = .next ((((s.interrupt t.val).dropExpected t.val).withdrawWhere fun m => m.tree == t.val).put (TE_STATUS.state t.val) 4).settle) ∧
    (s.isl (treeIsl t.val) < 2 → ∀ l : List (Fin 156),
      exec (.treeWake t l) s = .next (((s.ungate (treeIsl t.val)).leaveDoze t.val).dozeChecks (l.map (·.val))).settle) ∧
    (s.treeState t.val = 4 → s.leaveDoze t.val =
      (s.put (TE_STATUS.state t.val) 2).modTree t.val fun x => { x with dozeDisc := false, bankCheck := true }) ∧
    (∀ bad : List Nat, (s.tree t.val).bankCheck = true → State.dozeCheck bad s t.val = (bad.filter (treeBank t.val)).foldl State.bankFail
      ((s.modTree t.val fun x => { x with bankCheck := false }).rebuildFallback t.val)) ∧
    (s.treeState t.val = 4 → s.get (TE_DOZE_CFG.disc_period t.val) ≠ 0 → ∀ l : List (Fin 156),
      exec (.dozeDiscExpiry ⟨t, l⟩) s = .next
        (let u := ((s.leaveDoze t.val).dozeChecks (l.map (·.val))).modTree t.val fun x => { x with dozeDisc := true }
         if u.get (TE_RNG_STATUS.no_discovery t.val) ≠ 0 ∨ u.isLit t.val = false then u else u.placeQuiet t.val).settle))

/-- From R107: a key switch to a valid slot not in use, 8 to 4,095 frames ahead, with none pending for its terminal, is scheduled at SFC +
ahead, and its target is reported; any other is refused with TE_EVENT.key_refused. Completion: exec answers a next state with its own
effect for keySwitchCmd, under the conditions on the state and the operands that stand before its clauses. -/
def Obligations.KeySwitchIsScheduledOrRefused : Prop :=
  ∀ (t : Tree) (d : BitVec 32) (s : State), s.isl (treeIsl t.val) < 2 → (TE_KEY_SWITCH.go t.val).of d.toNat = 1 →
    let a := (TE_KEY_SWITCH.ahead t.val).of d.toNat
    let o := (TE_KEY_SWITCH.terminal t.val).of d.toNat
    let i := (TE_KEY_SWITCH.index t.val).of d.toNat
    let b := (TE_KEY_SWITCH.bcast t.val).of d.toNat
    let w := ((((s.ungate (treeIsl t.val)).put (TE_KEY_SWITCH.ahead t.val) a).put (TE_KEY_SWITCH.terminal t.val) o).put (TE_KEY_SWITCH.index t.val) i).put
      (TE_KEY_SWITCH.bcast t.val) b
    let v := (w.get (TE_SFC.sfc t.val) + a) % 2 ^ 51
    (w.switchRefused t.val o i a (b == 1) = false → exec (.keySwitchCmd t d) s = .next
      (((w.modTree t.val fun x => { x with switches := x.switches ++ [⟨b == 1, o, i, v⟩] }).put (TE_KEY_SWITCH.pending t.val) 1).put
        (TE_KEY_SW_SFC.sfc t.val) v).settle) ∧
    (w.switchRefused t.val o i a (b == 1) = true → exec (.keySwitchCmd t d) s = .next (w.put (TE_EVENT.key_refused t.val) 1).settle) ∧
    ((a < 8 ∨ 4095 < a) → w.switchRefused t.val o i a (b == 1) = true)

/-- From R111: a transaction of an optics bus that is free, enabled and of an allowed length makes it busy; it ends with OK and the octets
read in the buffer from octet 0, with NACK at its octet, or with a stretch timeout, the last two counted as errors. The master drives
the address with W and the octets of the buffer, then, where octets are read, the address with R and an acknowledge of each octet but
the last, and a STOP; after a stretch timeout nine clock pulses and a STOP. Octets read before a timeout are not kept, and a transaction
runs with its fields as they stood when it began (DESIGN CHOICE, log 139). Completion: exec answers a next state with its own effect,
under the conditions on the state and the operands that stand before its clauses, for each of optTransaction, optTransactionEnd,
optStretchTimeout. -/
def Obligations.OpticsTransactions : Prop :=
  ∀ (b : Fin 8) (s : State),
    let ended (r : Nat) (l : List OptWire) : State :=
      ((s.optDrive b.val (l ++ [.stop])).put (MGT_OPT_STATUS.busy b.val) 0).put (MGT_OPT_STATUS.result b.val) r
    (s.get (MGT_OPT_STATUS.busy b.val) = 0 → ∀ d : BitVec 32, (MGT_OPT_CMD.go b.val).of d.toNat = 1 →
      let w := (MGT_OPT_CMD.wr_len b.val).of d.toNat
      let r := (MGT_OPT_CMD.rd_len b.val).of d.toNat
      let u := ((s.put (MGT_OPT_CMD.wr_len b.val) w).put (MGT_OPT_CMD.rd_len b.val) r).put (MGT_OPT_CMD.addr b.val) ((MGT_OPT_CMD.addr b.val).of d.toNat)
      (w ≤ 16 → r ≤ 16 → w + r ≠ 0 → s.get (MGT_OPT_CFG.en b.val) ≠ 0 →
        exec (.optTransaction b d) s = .next (State.put { u with
          opt := mset b.val ⟨(MGT_OPT_CMD.addr b.val).of d.toNat, u.optData b.val w, r, []⟩ u.opt } (MGT_OPT_STATUS.busy b.val) 1).settle) ∧
      ((16 < w ∨ 16 < r ∨ w + r = 0 ∨ s.get (MGT_OPT_CFG.en b.val) = 0) →
        exec (.optTransaction b d) s = .next (u.optFail b.val 4).settle)) ∧
    (s.get (MGT_OPT_STATUS.busy b.val) ≠ 0 →
      (∀ x : OptEnd, exec (.optTransactionEnd b none x) s =
        .next ((ended 1 (s.optBus b.val).steps).optRead b.val (x.octets.take (s.optBus b.val).rd)).settle) ∧
      (∀ j (x : OptEnd), exec (.optTransactionEnd b (some j) x) s =
        .next (((ended 2 ((s.optBus b.val).upTo j.toNat x.readAddr)).inc (MGT_OPT_STATUS.errors b.val)).put (MGT_OPT_STATUS.nack_at b.val)
          j.toNat).settle) ∧
      ∀ n, exec (.optStretchTimeout ⟨b, n⟩) s =
        .next ((ended 3 ((s.optBus b.val).steps.take n ++ [.clocks 9])).inc (MGT_OPT_STATUS.errors b.val)).settle) ∧
    (∀ x : OptBus, x.wr ≠ [] → x.rd = 0 → x.steps =
      .start :: .octet (BitVec.ofNat 8 (2 * x.addr)) :: x.wr.map OptWire.octet) ∧
    ∀ x : OptBus, x.wr = [] → x.rd ≠ 0 → x.steps =
      .start :: .octet (BitVec.ofNat 8 (2 * x.addr + 1)) :: (List.range x.rd).map fun i => OptWire.ack (i + 1 == x.rd)

/-! ## Activation, ranging and terminal commands -/

/-- From R118, R121, R126, R127: the steps of activation. A cycle that runs places its quiet window; a response in an open window counts its
failed candidates and, if one is confirmed, itself, is discarded if it fails its integrity check (R116), and is otherwise handled in the
order of R121: a Held context with its serial number is Acquired again (DEDUCED, log 38: it reads Ranging from the same cycle on),
another holder makes it a duplicate, else it takes a Free context; a Registration in an open ranging window measures RTD and sends EqD,
or deregisters a terminal out of reach with cause 0x3; a missed one is tried again up to rng_retries and then deregistered with cause
0x4; the acknowledged EqD makes the terminal Ranged, and an unacknowledged one is sent once more before cause 0x4. Completion: exec
answers a next state with its own effect, under the conditions on the state and the operands that stand before its clauses, for each of
snAcquisitionCycle, snResponse, rangingPlaceTimeout, registrationBurst, rangeWindowTimeout, rangingTimeAck, equaliseTimeout. -/
def Obligations.ActivationStepsInOrder : Prop :=
  ∀ (t : Tree) (onu : BitVec 8) (s : State),
    (s.cycleRuns t.val = true → exec (.snAcquisitionCycle t) s = .next (s.placeQuiet t.val).settle) ∧
    (∀ (sn : BitVec 64) (dl ar : BitVec 32) (bad : BitVec 8) (msg : SnMessage), s.treeRuns t.val = true → s.inQuiet t.val ar.toNat = true →
      let c := (s.incBy (TE_SN_COLL_CNT.count t.val) bad.toNat).incBy (TE_DELIM_FALSE_CNT.count t.val) bad.toNat
      let u := c.inc (TE_SN_RESP_CNT.count t.val)
      (msg.confirmed = false → exec (.snResponse t sn dl ar bad msg) s = .next c.settle) ∧
      (msg.confirmed = true → msg.micOk = false →
        exec (.snResponse t sn dl ar bad msg) s = .next (u.inc (TE_PLOAM_MIC_CNT.count t.val)).settle) ∧
      (msg.confirmed = true → msg.micOk = true →
        exec (.snResponse t sn dl ar bad msg) s = .next (u.respond t.val sn (ar.toNat - dl.toNat) msg.octets).settle)) ∧
    (∀ (u : State) (sn : BitVec 64) (resp : Nat) (msg : List (BitVec 8)),
      let started (v : State) (o : Nat) : State := v.modTerm t.val o fun x => { x with
        state := .ranging, step := .place, retries := 0, resent := false, respNs := resp, correcting := false, acks := 0, holdFrames := 0 }
      (sn ∈ (u.tree t.val).disabledSn → u.respond t.val sn resp msg = u.responseToFirmware t.val msg) ∧
      (sn ∉ (u.tree t.val).disabledSn →
        (∀ o x, u.holderOf t.val sn = some (o, x) → x.state = .held → u.respond t.val sn resp msg =
          ((((started u o).rebindStale t.val o).assign t.val o).rerangeCheck t.val).tryPlace t.val o) ∧
        (∀ o x, u.holderOf t.val sn = some (o, x) → x.state ≠ .held →
          u.respond t.val sn resp msg = (u.put (TE_RNG_EVENT.dup_serial t.val) 1).responseToFirmware t.val msg) ∧
        (u.holderOf t.val sn = none → u.anyFree t.val = some onu.toNat → u.respond t.val sn resp msg =
          ((started (((u.modTerm t.val onu.toNat fun x => { x with serial := sn }).uncalibrate t.val onu.toNat).dropTemp t.val onu.toNat)
            onu.toNat).assign t.val onu.toNat).tryPlace t.val onu.toNat) ∧
        (u.holderOf t.val sn = none → u.anyFree t.val = none → u.respond t.val sn resp msg = u))) ∧
    ((s.term t.val onu.toNat).step = .place →
      exec (.rangingPlaceTimeout t onu) s = .next ((s.toFree t.val onu.toNat).inc (TE_RNG_FAIL_CNT.count t.val)).settle) ∧
    ((s.term t.val onu.toNat).step = .range → s.rangingOpen t.val onu.toNat = true →
      (s.treeRuns t.val = true → ∀ n : BitVec 25, s.inRangingWindow t.val onu.toNat n.toNat = true →
        let rtd := n.toNat - 8 * s.preOct t.val 3
        (s.rmaxBits t.val < rtd →
          exec (.registrationBurst t onu n) s = .next ((s.dropWindow t.val onu.toNat).dereg t.val onu.toNat 3).settle) ∧
        (rtd ≤ s.rmaxBits t.val → ∃ e, e = s.teqBits t.val - rtd ∧
          exec (.registrationBurst t onu n) s = .next (((s.dropWindow t.val onu.toNat).modTerm t.val onu.toNat fun x => { x with
            rtd := rtd, eqd := e, drift := 0, unknown := false, step := .equalise, resent := false }).sendRanging t.val onu.toNat e).settle)) ∧
      ((s.term t.val onu.toNat).retries < s.get (TE_ACT_CFG.rng_retries t.val) →
        exec (.rangeWindowTimeout t onu) s = .next (((s.dropWindow t.val onu.toNat).modTerm t.val onu.toNat fun x => { x with
          step := .place, retries := x.retries + 1 }).tryPlace t.val onu.toNat).settle) ∧
      (s.get (TE_ACT_CFG.rng_retries t.val) ≤ (s.term t.val onu.toNat).retries →
        exec (.rangeWindowTimeout t onu) s = .next (s.dereg t.val onu.toNat 4).settle)) ∧
    ((s.term t.val onu.toNat).step = .equalise →
      exec (.rangingTimeAck t onu) s =
        .next (s.modTerm t.val onu.toNat fun x => { x.acked with state := .ranged, step := .approve, resent := false }).settle ∧
      exec (.equaliseTimeout t onu) s = .next (if (s.term t.val onu.toNat).resent then s.dereg t.val onu.toNat 4
        else (s.sendRanging t.val onu.toNat (s.term t.val onu.toNat).eqd).modTerm t.val onu.toNat fun x => { x with resent := true, acks := 1 }).settle)

/-- From R126, R131, R132, R134, R141: approve takes a Ranged terminal into Operation, deregister one that is not Free or in Quarantine out
of it, in-service ranging begins for one in Operation, and re-activation runs on a tree; each of these on a tree that is Dark or Off, or
on a terminal in another state, sets TE_RNG_EVENT.cmd_refused and has no other effect. From R114, R116, R122, R126, R131, R136, R144:
the timers of a context (approval, cause 0x5; Held, cause 0x9; Quarantine, which frees it and empties its KEK slot, R371), the upstream
PLOAM messages, a write of its record and of TE_TDD_CFG, whose period must be 1 to 80 slots and divide 8,000. Offsets are used again at
the third tick after the last Acknowledgement outstanding (DESIGN CHOICE, log 145). Completion: exec answers a next state with its own
effect, under the conditions on the state and the operands that stand before its clauses, for each of termApprove, termDeregister,
termInserviceRanging, treeReactivate, approveTimeout, holdExpiry, quarantineExpiry, ploamReceived, terminalRecordWrite, tddCfgWrite. -/
def Obligations.TerminalCommandsTimersAndRecords : Prop :=
  (∀ (t : Tree) (onu : BitVec 8) (s : State), s.isl (treeIsl t.val) < 2 →
    let w (c : Nat) : State := ((s.ungate (treeIsl t.val)).put (TE_TERM_CMD.cmd t.val) c).put (TE_TERM_CMD.onu t.val) onu.toNat
    let refused (u : State) : State := u.put (TE_RNG_EVENT.cmd_refused t.val) 1
    let a := (s.ungate (treeIsl t.val)).put (TE_TERM_CMD.cmd t.val) 4
    (2 ≤ (w 1).treeState t.val → ((w 1).term t.val onu.toNat).state = .ranged →
      exec (.termApprove t onu) s = .next ((w 1).toOperation t.val onu.toNat).settle) ∧
    ((w 1).treeState t.val ≤ 1 ∨ ((w 1).term t.val onu.toNat).state ≠ .ranged →
      exec (.termApprove t onu) s = .next (refused (w 1)).settle) ∧
    (2 ≤ (w 2).treeState t.val → ((w 2).term t.val onu.toNat).state ≠ .free → ((w 2).term t.val onu.toNat).state ≠ .quarantine →
      exec (.termDeregister t onu false) s = .next ((w 2).dereg t.val onu.toNat 1).settle ∧
      exec (.termDeregister t onu true) s = .next ((w 2).dereg t.val onu.toNat 8).settle) ∧
    ((w 2).treeState t.val ≤ 1 ∨ ((w 2).term t.val onu.toNat).state = .free ∨ ((w 2).term t.val onu.toNat).state = .quarantine →
      ∀ b, exec (.termDeregister t onu b) s = .next (refused (w 2)).settle) ∧
    (2 ≤ (w 3).treeState t.val → ((w 3).term t.val onu.toNat).state = .operation →
      exec (.termInserviceRanging t onu) s = .next
        (((w 3).modTerm t.val onu.toNat fun x => { x with inService := true, isTries := 0 }).askInService t.val onu.toNat).settle) ∧
    ((w 3).treeState t.val ≤ 1 ∨ ((w 3).term t.val onu.toNat).state ≠ .operation →
      exec (.termInserviceRanging t onu) s = .next (refused (w 3)).settle) ∧
    (2 ≤ a.treeState t.val → exec (.treeReactivate t) s = .next (a.reactivate t.val).settle) ∧
    (a.treeState t.val ≤ 1 → exec (.treeReactivate t) s = .next (refused a).settle)) ∧
  (∀ (t : Tree) (onu : BitVec 8) (s : State),
    ((s.term t.val onu.toNat).step = .approve → exec (.approveTimeout t onu) s = .next (s.dereg t.val onu.toNat 5).settle) ∧
    ((s.term t.val onu.toNat).state = .held → exec (.holdExpiry t onu) s = .next (s.dereg t.val onu.toNat 9).settle) ∧
    ((s.term t.val onu.toNat).state = .quarantine → exec (.quarantineExpiry t onu) s = .next (s.toFree t.val onu.toNat).settle ∧
      (s.toFree t.val onu.toNat) = (((((s.dropWindow t.val onu.toNat).modTerm t.val onu.toNat fun x => { lastCause := x.lastCause, unknown := x.unknown }).uncalibrate
        t.val onu.toNat).dropTemp t.val onu.toNat).dropReq t.val onu.toNat).dropKek t.val onu.toNat ∧ (s.toFree t.val onu.toNat).kek t.val onu.toNat = none) ∧
    (∀ (k : UpPloam) (b : List (BitVec 8)), s.treeRuns t.val = true → 2 ≤ s.treeState t.val → b.length ≤ 4124 →
      exec (.ploamReceived t onu k false b) s = .next (s.inc (TE_PLOAM_MIC_CNT.count t.val)).settle ∧
      (k ≠ .acknowledge → exec (.ploamReceived t onu k true b) s = .next
        (s.workItem 4 t.val 0 (octetsBE 1 0 ++ octetsBE 1 onu.toNat ++ octetsBE 2 b.length ++ b)).settle) ∧
      ((s.term t.val onu.toNat).step = .equalise → exec (.ploamReceived t onu .acknowledge true b) s = .next
        (s.modTerm t.val onu.toNat fun x => { x.acked with state := .ranged, step := .approve, resent := false }).settle) ∧
      ((s.term t.val onu.toNat).step ≠ .equalise → (s.term t.val onu.toNat).correcting = true → 0 < (s.term t.val onu.toNat).acks →
        exec (.ploamReceived t onu .acknowledge true b) s = .next (s.modTerm t.val onu.toNat Term.acked).settle) ∧
      ((s.term t.val onu.toNat).step ≠ .equalise → (s.term t.val onu.toNat).correcting = false →
        exec (.ploamReceived t onu .acknowledge true b) s = .next
          (s.workItem 4 t.val 0 (octetsBE 1 0 ++ octetsBE 1 onu.toNat ++ octetsBE 2 b.length ++ b)).settle)) ∧
    (∀ x : Term, (x.correcting = true → x.acks = 1 → x.acked = { x with acks := 0, holdFrames := 3 }) ∧
      (x.correcting = true → 1 < x.acks → x.acked = { x with acks := x.acks - 1 })) ∧
    (s.isl (treeIsl t.val) < 2 → ∀ d : BitVec 64,
      let w := s.ungate (treeIsl t.val)
      ((w.treeState t.val = 1 ∨ w.laserPermit t.val = false) →
        exec (.terminalRecordWrite t onu 0 d) s = .next (w.modTerm t.val onu.toNat fun x => { x with serial := d }).settle ∧
        ((w.term t.val onu.toNat).unknown = false → ∀ st, stateOfCode (bitsOf d.toNat 61 3) = some st →
          exec (.terminalRecordWrite t onu 1 d) s = .next ((((w.modTerm t.val onu.toNat fun x => { x with
            state := st, lastCause := bitsOf d.toNat 57 4, unknown := false
            rtd := bitsOf d.toNat 32 25, eqd := bitsOf d.toNat 7 25, drift := signedOf d.toNat 7 }).opChanged t.val onu.toNat).rerangeCheck
              t.val).termState t.val onu.toNat (w.term t.val onu.toNat).state st).settle)) ∧
      (w.treeState t.val ≠ 1 → w.laserPermit t.val = true → ((w.term t.val onu.toNat).unknown = false) →
        ∀ k, exec (.terminalRecordWrite t onu k d) s = .next (w.put (TE_RNG_EVENT.cmd_refused t.val) 1).settle) ∧
      ((w.term t.val onu.toNat).unknown = true → exec (.terminalRecordWrite t onu 1 d) s = .next
        ((w.modTerm t.val onu.toNat fun x => { x with
          rtd := bitsOf d.toNat 32 25, eqd := bitsOf d.toNat 7 25, drift := signedOf d.toNat 7, unknown := false }).rerangeCheck t.val).settle)) ∧
    (s.isl (treeIsl t.val) < 2 → ∀ d : BitVec 32,
      let w := s.ungate (treeIsl t.val)
      let p := (TE_TDD_CFG.period_slots t.val).of d.toNat
      let u := (w.put (TE_TDD_CFG.en t.val) ((TE_TDD_CFG.en t.val).of d.toNat)).put (TE_TDD_CFG.phase_us t.val) ((TE_TDD_CFG.phase_us t.val).of d.toNat)
      (1 ≤ p → p ≤ 80 → 8000 % p = 0 → exec (.tddCfgWrite t d) s = .next (u.put (TE_TDD_CFG.period_slots t.val) p).settle) ∧
      (p = 0 ∨ 80 < p ∨ 8000 % p ≠ 0 → exec (.tddCfgWrite t d) s = .next (u.put (TE_RNG_EVENT.tdd_refused t.val) 1).settle)))

/-! ## Grants -/

/-- From R146: words 1 and 2 of a descriptor go to its shadows. A commit with en = 0 is never refused and takes effect with the shadowed
words; one with en = 1 whose conditions all hold takes effect, the committed sum of R147 within the frame octets of the tree; a refused
one leaves the entry as it was, sets GE_EVENT.alloc_refused and records tree, index and the lowest reason that applies (the choice of
the lowest is the model's: DEDUCED, log 41). On a tree that is mirrored a commit reaches the Mirror's copy of the entry as well (R178),
and only one that changes what is fixed and enabled rebuilds the Fallback Map (R188). Completion: exec answers a next state with its own
effect, under the conditions on the state and the operands that stand before its clauses, for each of allocShadowWrite, allocCommit. -/
def Obligations.AllocationCommits : Prop :=
  ∀ (t : Tree) (i : Fin 512) (d : BitVec 64) (s : State), s.isl 10 < 2 →
    let w := s.ungate 10
    let a := w.candidate t.val i.val d
    exec (.allocShadowWrite t i false d) s = .next (w.modAlloc t.val i.val fun x => { x with s1 := d }).settle ∧
    exec (.allocShadowWrite t i true d) s = .next (w.modAlloc t.val i.val fun x => { x with s2 := d }).settle ∧
    (aEn d = false → exec (.allocCommit t i d) s = .next
      (let v := (w.both t.val fun u => u.modAlloc t.val i.val fun _ => { u.candidate t.val i.val d with age := 0 }).rebuildOpen t.val
       if (w.alloc t.val i.val).fixedOn = true then v.rebuildFallback t.val else v).settle) ∧
    (aEn d = true → w.commitReason t.val i.val a = 0 →
      exec (.allocCommit t i d) s = .next
        (let v := w.both t.val fun u => u.modAlloc t.val i.val fun _ => u.candidate t.val i.val d
         if (w.alloc t.val i.val).fixedOn = true ∨ a.fixedOn = true then v.rebuildFallback t.val else v).settle ∧
      committedOf (mset i.val a (w.allocsOf t.val)) (w.ovhMax t.val) (w.get (GE_TREE_RES.be_res_oct t.val)) (w.get (GE_TREE_CALRES.cal_res_oct t.val)) ≤
        w.frameOctets125 t.val ∧
      ((w.term t.val (aOnu d)).state = .ranged ∨ (w.term t.val (aOnu d)).state = .operation) ∧ w.treeState t.val ≠ 0) ∧
    (aEn d = true → w.commitReason t.val i.val a ≠ 0 →
      exec (.allocCommit t i d) s = .next
        ((((w.put GE_EVENT.alloc_refused 1).put GE_ALLOC_REFUSE.tree t.val).put GE_ALLOC_REFUSE.index i.val).put GE_ALLOC_REFUSE.reason
          (w.commitReason t.val i.val a)).settle) ∧
    a = { w.alloc t.val i.val with
      w0 := d, w1 := w.cutMax t.val (w.alloc t.val i.val).s1, w2 := (w.alloc t.val i.val).s2
      lastRx := if aEn (w.alloc t.val i.val).w0 then (w.alloc t.val i.val).lastRx else none } ∧
    ∀ (u : State) (f : State → State), (u.mirrors t.val = false → u.both t.val f = f u) ∧
      (u.mirrors t.val = true → u.both t.val f = f (u.fromMir (f u.toMir)))

/-- From R147, R154, R166, R211: a reserve or guard that would raise the committed sum above the frame octets is refused with index 0x1FF
and reason 0x2, and stands otherwise; run_ahead is written only from 1 to 4 with every tree Off or Dark; a burst profile that breaks its
rules is refused, and otherwise changes the overhead that the tree's maps count with, profile 3 being held against the need and margin
of the tree (R229). A be_res_oct whose floor its 20 bits cannot hold is refused. Completion: exec answers a next state with its own
effect, under the conditions on the state and the operands that stand before its clauses, for each of treeResWrite, runAheadWrite,
burstProfileWrite. -/
def Obligations.ReservesRunAheadAndProfiles : Prop :=
  ∀ (t : Tree) (d : BitVec 32) (s : State), s.isl 10 < 2 →
    let w := s.ungate 10
    let refused (u : State) : State :=
      (((u.put GE_EVENT.alloc_refused 1).put GE_ALLOC_REFUSE.tree t.val).put GE_ALLOC_REFUSE.index 0x1FF).put GE_ALLOC_REFUSE.reason 2
    let v := (GE_TREE_RES.be_res_oct t.val).of d.toNat
    let n := if v = 0 then 0 else max v (w.beResFloor t.val)
    let r := w.put (GE_TREE_RES.be_res_oct t.val) n
    let c := w.put (GE_TREE_CALRES.cal_res_oct t.val) ((GE_TREE_CALRES.cal_res_oct t.val).of d.toNat)
    let g := (w.put (GE_TREE_CFG.cal_max t.val) ((GE_TREE_CFG.cal_max t.val).of d.toNat)).put (GE_TREE_CFG.be_min_oct t.val)
      ((GE_TREE_CFG.be_min_oct t.val).of d.toNat)
    let h := g.put (GE_TREE_CFG.guard_extra t.val) ((GE_TREE_CFG.guard_extra t.val).of d.toNat)
    let fits (x y : State) : Prop := y.committed t.val ≤ y.frameOctets125 t.val ∨ y.committed t.val ≤ x.committed t.val
    (n < 2 ^ 20 → fits w r → exec (.treeResWrite t .res d) s = .next r.settle) ∧
    (2 ^ 20 ≤ n ∨ ¬fits w r → exec (.treeResWrite t .res d) s = .next (refused w).settle) ∧
    (fits w c → exec (.treeResWrite t .calres d) s = .next c.settle) ∧
    (¬fits w c → exec (.treeResWrite t .calres d) s = .next (refused w).settle) ∧
    (fits g h → exec (.treeResWrite t .cfg d) s = .next
      (if g.guardOct t.val ≠ h.guardOct t.val then (g.ovhRise h t.val).rebuildFallback t.val else g.ovhRise h t.val).settle) ∧
    (¬fits g h → exec (.treeResWrite t .cfg d) s = .next (refused g).settle) ∧
    (w.allDark = true → 1 ≤ GE_MAP_CTRL.run_ahead.of d.toNat → GE_MAP_CTRL.run_ahead.of d.toNat ≤ 4 →
      exec (.runAheadWrite d) s = .next (w.put GE_MAP_CTRL.run_ahead (GE_MAP_CTRL.run_ahead.of d.toNat)).settle) ∧
    ((w.allDark = false ∨ GE_MAP_CTRL.run_ahead.of d.toNat = 0 ∨ 4 < GE_MAP_CTRL.run_ahead.of d.toNat) →
      exec (.runAheadWrite d) s = .next (w.put GE_EVENT.ra_refused 1).settle) ∧
    (s.isl 12 < 2 → ∀ p : Fin 4,
      let b := s.ungate 12
      (b.profRefused t.val p.val d.toNat = true → exec (.burstProfileWrite t p d) s = .next (b.put BC_EVENT.prof_refused 1).settle) ∧
      (b.profRefused t.val p.val d.toNat = false → exec (.burstProfileWrite t p d) s = .next
        (let x := b.putRw d.toNat (bcProfFields t.val p.val)
         let y := (b.ovhRise x t.val).p3Check t.val
         if x.ovhMax t.val ≠ b.ovhMax t.val then y.rebuildFallback t.val else y).settle))

/-- From R155, R164, R176: the life of a map: its build begins once, run_ahead frames ahead of its tick; the build's end makes it built and
begins a check of the Mirror that is due; the cut-off makes it honoured; the seal of the next tick takes the trees in ascending number;
a grant policy update goes to firmware for each Active tree while digest_frames is not 0, and a new period begins for every allocation.
From R164, R175: at its seal a map that is still building is counted late and replaced, one that breaks a limit is counted and replaced,
one that the Mirror or the sequencer has not passed is replaced, and only a map that passes is sealed; a tree that should have a map and
has none counts a late map and the impairment. In place of a map that is replaced the Fallback Map in use at the seal is called for
(R191). Completion: exec answers a next state with its own effect, under the conditions on the state and the operands that stand before
its clauses, for each of mapBuildBegin, mapBuildEnd, mapCutoff, mapSeal, grantPolicyDigest. -/
def Obligations.MapLifeAndSeal : Prop :=
  (∀ s : State, s.isl 10 < 2 →
    (s.ge.begun < s.ge.k + s.runAhead → exec .mapBuildBegin s = .next s.buildBegin.settle) ∧
    (s.ge.k + s.runAhead ≤ s.ge.begun → exec .mapBuildBegin s = .next s.settle) ∧
    (∀ (us : BitVec 8) (l : List MirrorDiff), exec (.mapBuildEnd us l) s = .next (s.buildEnd us.toNat l).settle) ∧
    ((∀ t, s.mirrors t = false) → ∀ us : BitVec 8, exec (.mapBuildEnd us []) s =
      .next (((s.mapsBuilt s.ge.begun).put GE_STATUS.build_us us.toNat).checkBegins true).settle) ∧
    (let built (m : GMap) : GMap := if m.k = s.ge.begun ∧ m.stage = MapStage.building then { m with stage := .built } else m
     s.mapsBuilt s.ge.begun = { s with ge := { s.ge with maps := s.ge.maps.map built }, mir := { s.mir with maps := s.mir.maps.map built } }) ∧
    (s.checkBegins true = { s with mir := { s.mir with
      checking := s.mir.checking || s.mir.checkDue || s.mir.forced, checkDue := false, forced := false } }) ∧
    exec .mapCutoff s = .next { s with ge := { s.ge with maps := s.ge.maps.map fun (m : GMap) =>
      if m.k = s.ge.k + 1 ∧ m.stage = MapStage.built then { m with stage := .honoured } else m } }.settle ∧
    (∀ l : List Tree, exec (.mapSeal l) s =
      .next ((List.range 32).foldl (State.sealTree (s.ge.k + 1) (l.map (·.val))) s).settle) ∧
    (s.get GE_FW_CFG.digest_frames ≠ 0 → exec .grantPolicyDigest s =
      .next (((List.range 32).filter fun t => s.treeState t == 3).foldl State.digest s).newPeriod.settle) ∧
    s.newPeriod = { s with allocs := s.allocs.map fun e => (e.1, { e.2 with granted := 0, idle := 0 }) }) ∧
  (∀ (k t : Nat) (l : List Nat) (s : State),
    (s.gmap t k = none → s.sealTree k l t = if s.mapTree t then
      ((((s.inc GE_BUILD_LATE_CNT.count).put GE_EVENT.build_late 1).inc (GE_BE_IMPAIR_CNT.count t)).callFallback t k) else s) ∧
    (∀ m, s.gmap t k = some m →
      (m.stage = .building → s.sealTree k l t = ((s.inc GE_BUILD_LATE_CNT.count).put GE_EVENT.build_late 1).replaceMap t k) ∧
      (m.stage ≠ .building → s.limitsOk m = false → s.sealTree k l t =
        ((((s.inc (GE_LIMIT_FAIL_CNT.count t)).inc (GE_FALLBACK_CNT.count t)).put GE_EVENT.limit_fail 1).tlogEvent .ge 2 t).replaceMap t k) ∧
      (m.stage ≠ .building → s.limitsOk m = true → (m.replace = true ∨ t ∈ l) → s.sealTree k l t = s.replaceMap t k) ∧
      (m.stage ≠ .building → s.limitsOk m = true → m.replace = false → t ∉ l → s.sealTree k l t = s.sealOne m)) ∧
    s.replaceMap t k = ((s.onMap State.replaceOne t k).inc (GE_BE_IMPAIR_CNT.count t)).callFallback t k ∧
    s.callFallback t k = s.modTree t fun x => { x with fbSealed := some (k, s.fb t) })

/-- From R157 to R161, R502: the first AGR frame delivered is taken, record by record, while GRANT runs, and is discarded with reason 0x01
while GRANT is Failed or AGR is disabled, and with reason 0x02 where its EtherType is another (DESIGN CHOICE, log 147); a record whose
window ends leaves the store, counted as cut unless it has been counted. Completion: exec answers a next state with its own effect,
under the conditions on the state and the operands that stand before its clauses, for each of agrFrame, agrWindowEnd. -/
def Obligations.AdvanceGrantRequests : Prop :=
  ∀ s : State,
    (∀ f r, s.ge.agrIn = f :: r →
      let u : State := { s with ge := { s.ge with agrIn := r } }
      let bad (seq : Nat) : State := (((((u.inc GE_AGR_BAD_CNT.count).put GE_EVENT.agr_bad 1).put GE_AGR_LAST_BAD.reason 1).put GE_AGR_LAST_BAD.tree 0xFF).put
        GE_AGR_LAST_BAD.seq seq)
      (s.isl 10 < 2 → exec .agrFrame s = .next (u.agrFrame f).settle) ∧
      (s.isl 10 < 2 → s.get GE_AGR_CFG.en = 0 → ∃ seq, exec .agrFrame s = .next (bad seq).settle) ∧
      (s.isl 10 < 2 → s.get GE_AGR_CFG.en ≠ 0 →
        fieldAt f.frame (vlanEnd (s.get PR_PARSE_CFG.tpid3) f.frame (f.frame.length / 4) 12) 2 ≠ s.get GE_AGR_CFG.ethertype →
          ∃ seq, exec .agrFrame s = .next (u.agrBad 2 0xFF seq).settle) ∧
      (s.isl 10 = 3 → exec .agrFrame s = .next (bad 0).settle)) ∧
    (∀ (t : Tree) (id : BitVec 16) r, (s.ge.agr.find? fun x => x.tree == t.val && x.reqId == id.toNat) = some r →
      let u : State := s.both t.val fun v => v.agrGone fun x => x.seq == r.seq
      exec (.agrWindowEnd t id) s = .next (if r.cut then u else u.inc GE_AGR_CUT_CNT.count).settle) ∧
    ∀ p : AgrRec → Bool, s.agrGone p = { s with ge := { s.ge with
      agr := s.ge.agr.filter fun x => !p x, maps := s.ge.maps.map fun m => { m with agr := m.agr.filter fun e => !p e.1 } } }

/-! ## The Mirror and the interlock -/

/-- From R180, R181, R184: a check that runs ends with what each core found: passed, it counts and changes nothing else; a failed Mirror
core is retired and the spare comes in as its class says; a failed Grant Engine is reset with cause 0x4, and Failed at the second
failure within 1 s. The spare that has been loaded comes into service; one that cannot be loaded is retired; swap exchanges the cores
(DEDUCED, log 52), and force_check makes a check due. The copy of a tree that mismatched is replaced at the next Build begins after a
check that both passed, and a core that comes into service takes the Grant Engine's state of every privileged tree. Completion: exec
answers a next state with its own effect, under the conditions on the state and the operands that stand before its clauses, for each of
builtinCheckEnd, builtinCheckTimeout, mirrorRetireEnd, mirrorRetireTimeout, mirrorSwapCmd, mirrorForceCheck. -/
def Obligations.MirrorChecksAndSpares : Prop :=
  ∀ s : State,
    (s.mir.checking = true → ∀ g m : Bool,
      let u : State := { s.inc MIR_CHECK_CNT.count with mir := { s.mir with checking := false, geDone := false } }
      let v := if m then u else u.mirCheckFails
      let w := if g then v else v.geCheckFails
      exec (.builtinCheckEnd g m) s = .next { w with mir := { w.mir with
        resync := [], ready := if g && m then w.mir.ready ++ w.mir.resync else w.mir.ready } }.settle ∧
      exec (.builtinCheckTimeout g m) s = exec (.builtinCheckEnd g m) s) ∧
    (∀ c, s.mir.loading = some c →
      exec .mirrorRetireEnd s = .next
        ((State.mirState { (s.put (mirCore c) 0).inc MIR_SWAP_CNT.count with mir := { s.mir with loading := none } }).takeMirror fun _ => true).settle ∧
      exec .mirrorRetireTimeout s = .next ((s.mirRetire c).spareLoss 5 c).mirState.settle) ∧
    (s.isl 11 < 2 → ∀ c o, (s.ungate 11).mirSpare = some c → (s.ungate 11).mirService = some o →
      exec .mirrorSwapCmd s = .next (((((s.ungate 11).put (mirCore o) 1).put (mirCore c) 0).inc MIR_SWAP_CNT.count).mirState.takeMirror
        fun _ => true).settle) ∧
    (s.isl 11 < 2 → ∀ c, (s.ungate 11).mirSpare = some c → (s.ungate 11).mirService = none →
      exec .mirrorSwapCmd s = .next ((s.ungate 11).bringInOrDefer 5 (1 - c)).mirState.settle) ∧
    (s.isl 11 < 2 → exec .mirrorForceCheck s = .next (let w := s.ungate 11; { w with mir := { w.mir with forced := true } }).settle)

/-- From R193, R194, R195, R198, R199: the interlock. A take runs Check, Assert and Confirm; it never asserts PROT_HOLD_OUT while
PROT_HOLD_IN is asserted at Check, and never holds while it is asserted at Confirm, the PROT_PRIO 0 device withdrawing with take_contest
and the other with conflict; a holder releases at a tick on command or when both uplink sides are down, PROT_HOLD_OUT falling
off_delay_us later, and at once on a conflict. After a take the Laser step of each protected tree ends on_delay_us later, and its Sync
step waits for the next tick. Completion: exec answers a next state with its own effect, under the conditions on the state and the
operands that stand before its clauses, for each of protTakeCmd, protAutoTake, protAssertEnd, protConfirmEnd, switchoverLaserEnd,
protReleaseCmd, protUplinkRelease, protConflict, protOffDelayEnd, protHoldInChange. -/
def Obligations.InterlockSequences : Prop :=
  ∀ s : State,
    let asserted := { (s.put MGT_PROT_STATUS.state 1).put MGT_PROT_STATUS.hold_out 1 with prot := { s.prot with step := .assert } }
    let withdrawn (ev : Fld) : State :=
      { ((s.put MGT_PROT_STATUS.hold_out 0).put MGT_PROT_STATUS.state 0).put ev 1 with prot := { s.prot with step := .none } }
    let releasing : State := { s.put MGT_PROT_STATUS.state 3 with prot := { s.prot with releaseAtTick := true } }
    (s.get MGT_PROT_CFG.en ≠ 0 → s.get MGT_PROT_STATUS.state = 0 →
      (s.get MGT_PROT_STATUS.hold_in = 0 → exec .protTakeCmd s = .next asserted.settle ∧
        (s.get MGT_PROT_CFG.auto_take ≠ 0 → s.get SIL_STATUS.state = 2 → exec .protAutoTake s = .next asserted.settle)) ∧
      (s.get MGT_PROT_STATUS.hold_in ≠ 0 → exec .protTakeCmd s = .next (s.put MGT_PROT_EVENT.take_refused 1).settle)) ∧
    (s.get MGT_PROT_STATUS.state = 1 → s.prot.step = .assert → exec .protAssertEnd s = .next { s with prot := { s.prot with step := .confirm } }.settle) ∧
    (s.get MGT_PROT_STATUS.state = 1 → s.prot.step = .confirm →
      (s.get MGT_PROT_STATUS.hold_in = 0 → exec .protConfirmEnd s = .next s.protHold.settle) ∧
      (s.get MGT_PROT_STATUS.hold_in ≠ 0 → s.get MGT_PROT_STATUS.prio = 0 →
        exec .protConfirmEnd s = .next (withdrawn MGT_PROT_EVENT.take_contest).settle) ∧
      (s.get MGT_PROT_STATUS.hold_in ≠ 0 → s.get MGT_PROT_STATUS.prio ≠ 0 →
        exec .protConfirmEnd s = .next (withdrawn MGT_PROT_EVENT.conflict).settle)) ∧
    exec .switchoverLaserEnd s = .next (s.laserNext.foldl State.switchLaserEnd s).settle ∧
    (∀ t ∈ s.laserNext, t ∈ s.prot.laser ∧ ∀ u ∈ s.prot.laser, s.get (TE_TX_CFG.on_delay_us t) ≤ s.get (TE_TX_CFG.on_delay_us u)) ∧
    (∀ t, s.isl 10 < 2 → s.switchLaserEnd t = State.switchBuildTree { s with prot := { s.prot with
      laser := s.prot.laser.erase t, sync := s.prot.sync ++ [t] } } t) ∧
    (s.get MGT_PROT_STATUS.state = 2 → exec .protReleaseCmd s = .next releasing.settle ∧
      (s.get MGT_PROT_CFG.rel_uplink_ms ≠ 0 → (∀ p < 4, s.portDown p = true) → exec .protUplinkRelease s = .next releasing.settle) ∧
      (s.get MGT_PROT_STATUS.hold_in ≠ 0 → s.get MGT_PROT_STATUS.hold_out ≠ 0 → exec .protConflict s =
        .next (((State.protDark { (s.put MGT_PROT_STATUS.state 0).put MGT_PROT_STATUS.hold_out 0 with prot := {} })).put MGT_PROT_EVENT.conflict 1).settle)) ∧
    (s.get MGT_PROT_STATUS.state ≠ 2 → exec .protReleaseCmd s = .next s.settle) ∧
    (s.prot.offDelay = true → exec .protOffDelayEnd s =
      .next { (s.put MGT_PROT_STATUS.hold_out 0).put MGT_PROT_STATUS.state 0 with prot := {} }.settle) ∧
    exec (.protHoldInChange true) s = .next (s.put MGT_PROT_STATUS.hold_in 1).settle ∧
    (s.get MGT_PROT_STATUS.hold_in = 0 → exec (.protHoldInChange false) s = .next (s.put MGT_PROT_STATUS.hold_in 0).settle) ∧
    (s.get MGT_PROT_STATUS.hold_in ≠ 0 → s.holdsLock = false → exec (.protHoldInChange false) s =
      .next (((s.put MGT_PROT_STATUS.hold_in 0).put MGT_PROT_EVENT.peer_lost 1).wakeEvent 1).settle)

/-- From R201: a write to MGT_PROT_CFG.en while MGT_PROT_STATUS.state is not idle is ignored; while it is idle, the write is taken.
Completion: exec answers a next state with its own effect for protCfgWrite, under the conditions on the state and the operands that
stand before its clauses. -/
def Obligations.InterlockEnableIsIgnoredUnlessIdle : Prop :=
  ∀ (d : BitVec 32) (s : State), ∃ t : State, exec (.protCfgWrite d) s = .next t.settle ∧ (∃ f, t = { s with fld := f }) ∧
    (s.get MGT_PROT_STATUS.state ≠ 0 → t.get MGT_PROT_CFG.en = s.get MGT_PROT_CFG.en) ∧
    (s.get MGT_PROT_STATUS.state = 0 → t.get MGT_PROT_CFG.en = MGT_PROT_CFG.en.of d.toNat) ∧
    t.get MGT_PROT_CFG.auto_take = MGT_PROT_CFG.auto_take.of d.toNat ∧ t.get MGT_PROT_CFG.rel_uplink_ms = MGT_PROT_CFG.rel_uplink_ms.of d.toNat ∧
    t.get MGT_PROT_CFG.off_delay_us = MGT_PROT_CFG.off_delay_us.of d.toNat ∧ ∀ x : Fld, x.addr ≠ MGT_PROT_CFG.en.addr → x.lo < 32 → t.get x = s.get x

/-! ## Uplink ports, elimination and the Benches -/

/-- From R404 to R407, R414, R549: the link state of an uplink port. A port in a mode that becomes raw-up with more than 180 ns of skew sets
skew_fail and no more; one that becomes raw-down stops its departures; up_ms after it is raw-up it is declared up, down_ms after it is
raw-down it is declared down, counted, and its frames are reported with cause 0x3; the end of a swap hold declares down a port that is
still raw-down; a frame that a port which is not in use receives is dropped and counted. A write of admin_en = 1 while a Bench runs on a
lane of the port sets bench_busy and no more. From R202, R205, R402: elimination. A stream that has passed nothing for reset_ms takes
any next number, the reset counted and shown; a frame shorter than 64 or longer than 16,384 octets, or whose FCS fails, is refused with
cause 0x09. Of the numbers a stream takes, the first after a reset passes; a number out of the window of the history length is rogue;
one already in the history is a duplicate; the next one passes and becomes the newest (the vector recovery of IEEE 802.1CB, PRESUMED,
log 29). Completion: exec answers a next state with its own effect, under the conditions on the state and the operands that stand before
its clauses, for each of portRawUp, portRawDown, portUpTimer, portDownTimer, portAdminWrite, swapHoldTimeout, uplinkFrameRx,
frerResetTimer. -/
def Obligations.UplinkPortsAndElimination : Prop :=
  (∀ (p : UpPort) (s : State),
    (s.get (UL_PORT_STATUS.mode p.val) ≠ 0 → s.get (UL_PORT_STATUS.raw_up p.val) = 0 → ∀ k : BitVec 16,
      (180 < k.toNat → exec (.portRawUp p k) s = .next (s.put (UL_PORT_EVENT.skew_fail p.val) 1).settle) ∧
      (k.toNat ≤ 180 → s.portLanes p.val = [] → s.get (UL_PORT_CFG.admin_en p.val) = 0 → exec (.portRawUp p k) s =
        .next (State.setPort ((s.put (UL_PORT_STATUS.raw_up p.val) 1).put (UL_PORT_STATUS.swap_hold p.val) 0) p.val
          { s.portSt p.val with downRun := false, swapRaw := false }).settle) ∧
      exec (.portRawUp p k) s = .next (s.rawUp p.val k.toNat).settle) ∧
    (s.get (UL_PORT_STATUS.raw_up p.val) ≠ 0 →
      let d := State.interrupt ((s.put (UL_PORT_STATUS.raw_up p.val) 0).lanesDown (s.portLanes p.val)) (32 + p.val)
      let u := d.setPort p.val { d.portSt p.val with upRun := false }
      exec (.portRawDown p) s = .next (if u.get (UL_PORT_STATUS.link p.val) = 0 ∨ u.get (UL_PORT_STATUS.swap_hold p.val) ≠ 0 then u
        else if u.get (UL_PORT_CFG.down_ms p.val) = 0 then u.declareDown p.val
        else u.setPort p.val { u.portSt p.val with downRun := true }).settle) ∧
    ((s.portSt p.val).upRun = true → s.get (UL_PORT_STATUS.raw_up p.val) ≠ 0 → s.get (UL_PORT_CFG.admin_en p.val) ≠ 0 →
      exec (.portUpTimer p) s = .next
        ((s.put (UL_PORT_STATUS.link p.val) 1).setPort p.val { s.portSt p.val with upRun := false, downRun := false }).sideStatus.settle) ∧
    ((s.portSt p.val).downRun = true → s.get (UL_PORT_STATUS.link p.val) ≠ 0 →
      exec (.portDownTimer p) s = .next (s.declareDown p.val).settle) ∧
    (let e := ((s.put (UL_PORT_STATUS.link p.val) 0).put (UL_PORT_EVENT.link_down p.val) 1).inc (UL_LINK_DOWN_CNT.count p.val)
     let d := (e.setPort p.val { s.portSt p.val with upRun := false, downRun := false }).sideStatus
     s.declareDown p.val = (d.undeliverables 3 (d.portFrames p.val)).sidesDone p.val) ∧
    (∀ d : BitVec 32,
      ((UL_PORT_CFG.admin_en p.val).of d.toNat = 1 → (∃ k ∈ s.portLanes p.val, s.get (BENCH_CFG.en k) ≠ 0) →
        exec (.portAdminWrite p d) s = .next (s.put (UL_PORT_EVENT.bench_busy p.val) 1).settle) ∧
      (let w := ((s.put (UL_PORT_CFG.admin_en p.val) ((UL_PORT_CFG.admin_en p.val).of d.toNat)).put (UL_PORT_CFG.down_ms p.val)
          ((UL_PORT_CFG.down_ms p.val).of d.toNat)).put (UL_PORT_CFG.up_ms p.val) ((UL_PORT_CFG.up_ms p.val).of d.toNat)
       ((UL_PORT_CFG.admin_en p.val).of d.toNat ≠ 1 ∨ ∀ k ∈ s.portLanes p.val, s.get (BENCH_CFG.en k) = 0) →
       s.get (UL_PORT_CFG.admin_en p.val) = 0 → exec (.portAdminWrite p d) s = .next (w.startUp p.val).settle)) ∧
    (s.get (UL_PORT_STATUS.swap_hold p.val) ≠ 0 →
      let w := (s.put (UL_PORT_STATUS.swap_hold p.val) 0).setPort p.val { s.portSt p.val with swapRaw := false }
      exec (.swapHoldTimeout p) s = .next (if s.get (UL_PORT_STATUS.link p.val) ≠ 0 ∧ s.get (UL_PORT_STATUS.raw_up p.val) = 0 then w.declareDown p.val
        else w).settle) ∧
    (∀ l : List (BitVec 8),
      ((s.get (UL_PORT_STATUS.link p.val) = 0 ∨ s.get (UL_PORT_CFG.admin_en p.val) = 0 ∨ 2 ≤ s.isl 22) →
        exec (.uplinkFrameRx p l) s = .next (s.inc (UL_RX_RESET_DROP_CNT.count p.val)).settle) ∧
      (s.get (UL_PORT_STATUS.link p.val) ≠ 0 → s.get (UL_PORT_CFG.admin_en p.val) ≠ 0 → s.isl 22 < 2 →
        exec (.uplinkFrameRx p l) s = .next (s.uplinkIn p.val l).settle))) ∧
  ((∀ (i : Fin 1024) (s : State), i.val ∈ s.frerValid → (s.frerSt i.val).take = false →
    exec (.frerResetTimer i) s = .next ((s.setFrer i.val { s.frerSt i.val with
      take := true, history := [], resets := min ((s.frerSt i.val).resets + 1) 65535 }).put UL_FRER_EVENT.reset 1).settle) ∧
  (∀ (p : UpPort) (l : List (BitVec 8)) (s : State), (l.length < 64 ∨ 16384 < l.length ∨ fcsGood l = false) →
    s.uplinkIn p.val l = s.refuse 9 0 0xFFFF) ∧
  (∀ (x : FrerStream) (n seq : Nat), seq < 65536 → x.recovSeq < 65536 → 2 ≤ n → n ≤ 128 →
    (x.take = true → (x.recover n seq).2 = .pass ∧ (x.recover n seq).1.recovSeq = seq ∧ (x.recover n seq).1.take = false) ∧
    (x.take = false → seq = x.recovSeq → x.history[0]? = some true → (x.recover n seq).2 = .duplicate) ∧
    (x.take = false → seq = (x.recovSeq + 1) % 65536 → (x.recover n seq).2 = .pass ∧ (x.recover n seq).1.recovSeq = seq ∧
      (x.recover n seq).1.history[0]? = some true ∧ (x.recover n seq).1.outOfOrder = x.outOfOrder) ∧
    (x.take = false → n ≤ (seq + 65536 - x.recovSeq) % 65536 → (seq + 65536 - x.recovSeq) % 65536 ≤ 65536 - n →
      (x.recover n seq).2 = .rogue ∧ (x.recover n seq).1.history = x.history ∧ (x.recover n seq).1.recovSeq = x.recovSeq)))

/-- From R413 to R415, R417, R418: a Bench is not enabled on a lane in service, the refusal shown; a pattern code that its lane does not
allow acts as Off; clear zeroes its counts and starts its lock search; inject marks one bit of the next word; lock and its loss are
shown, the loss counted with the bits and errors of its block, of which at least 1,024 and 64 (how many more is open). Completion: exec
answers a next state with its own effect, under the conditions on the state and the operands that stand before its clauses, for each of
benchEnable, benchClear, benchInject, benchCheckerLock, benchCheckerLockLoss. -/
def Obligations.BenchesRunOutOfService : Prop :=
  ∀ (i : Fin 69) (s : State),
    (∀ d : BitVec 32, (BENCH_CFG.en i.val).of d.toNat = 1 → s.get (BENCH_CFG.en i.val) = 0 → s.benchAllowed i.val = false →
      exec (.benchEnable i d) s = .next (s.put (BENCH_STATUS.refused i.val) 1).settle) ∧
    (∀ d : BitVec 32, ((BENCH_CFG.en i.val).of d.toNat = 0 ∨ s.benchAllowed i.val = true) →
      exec (.benchEnable i d) s = .next ((s.putRw d.toNat (benchFields i.val)).benchSearch i.val).settle) ∧
    (32 ≤ i.val → i.val < 64 → (s.benchAllowed i.val = true ↔ s.treeState (i.val - 32) ≤ 1)) ∧
    exec (.benchClear i) s = .next (((((s.put (BENCH_BITS.count i.val) 0).put (BENCH_ERR.count i.val) 0).put (BENCH_STATUS.lock_loss i.val) 0).put
      (BENCH_STATUS.locked i.val) 0).benchSearch i.val).settle ∧
    (s.get (BENCH_CFG.en i.val) ≠ 0 → s.get (BENCH_CFG.gen_en i.val) ≠ 0 →
      exec (.benchInject i) s = .next (s.setBench i.val { s.benchSt i.val with inject := true }).settle) ∧
    (s.benchChecks i.val = true ↔ s.get (BENCH_CFG.en i.val) ≠ 0 ∧ s.get (BENCH_CFG.chk_en i.val) ≠ 0 ∧ s.benchCode i.val ≠ 0) ∧
    (s.benchCode i.val = (let c := s.get (BENCH_CFG.pattern i.val)
      if c = 8 ∨ c = 9 ∨ (i.val < 32 ∧ 1 ≤ c ∧ c ≤ 3) ∨ (32 ≤ i.val ∧ 4 ≤ c ∧ c ≤ 7) then c else 0)) ∧
    (s.benchChecks i.val = true →
      (s.get (BENCH_STATUS.locked i.val) = 0 → exec (.benchCheckerLock i) s =
        .next ((s.put (BENCH_STATUS.locked i.val) 1).setBench i.val { s.benchSt i.val with search := false }).settle) ∧
      (s.get (BENCH_STATUS.locked i.val) ≠ 0 → ∃ b e, 1024 ≤ b ∧ 64 ≤ e ∧ e ≤ 1024 ∧ exec (.benchCheckerLockLoss i) s =
        .next (State.setBench (((((s.drawn.incBy (BENCH_BITS.count i.val) b).incBy (BENCH_ERR.count i.val) e).put (BENCH_STATUS.locked i.val) 0)).inc
          (BENCH_STATUS.lock_loss i.val)) i.val { s.benchSt i.val with search := true }).settle))

/-! ## Burst calibration -/

/-- From R214, R219, R220, R233: a lane temperature is kept for its tree; a temperature report with go is taken for the terminal it names,
and its fields stay in BC_TERM_TEMP; recalibrate makes the entry of a terminal in Operation stale with cause 6, forget makes it
Uncalibrated, and either is refused for a terminal that is not, with BC_EVENT.cmd_refused; a write of BC_DEF_n refreshes the chiplet's
copy. Completion: exec answers a next state with its own effect, under the conditions on the state and the operands that stand before
its clauses, for each of laneTempSample, termTempReport, calRecalibrate, calForget, bcDefWrite. -/
def Obligations.CalibrationCommands : Prop :=
  ∀ (t : Tree) (s : State), s.isl 12 < 2 →
    let w := s.ungate 12
    (∀ x : BitVec 9, exec (.laneTempSample t x) s = .next (s.put (BC_TREE_STAT.rx_temp t.val) x.toNat).settle) ∧
    (∀ d : BitVec 32,
      let u := ((w.put BC_TERM_TEMP.temp (BC_TERM_TEMP.temp.of d.toNat)).put BC_TERM_TEMP.tree (BC_TERM_TEMP.tree.of d.toNat)).put BC_TERM_TEMP.onu
        (BC_TERM_TEMP.onu.of d.toNat)
      exec (.termTempReport d) s = .next (if BC_TERM_TEMP.go.of d.toNat = 1 then
        u.termTemp (BC_TERM_TEMP.tree.of d.toNat) (BC_TERM_TEMP.onu.of d.toNat) (BC_TERM_TEMP.temp.of d.toNat) else u).settle) ∧
    (∀ onu : BitVec 8,
      let c (n : Nat) : State := ((w.put BC_CMD.cmd n).put BC_CMD.tree t.val).put BC_CMD.onu onu.toNat
      ((c 1).operating t.val onu.toNat = true → exec (.calRecalibrate t onu) s = .next (((c 1).makeStale t.val onu.toNat 6).raiseFor t.val onu.toNat).settle) ∧
      ((c 1).operating t.val onu.toNat = false → exec (.calRecalibrate t onu) s = .next ((c 1).put BC_EVENT.cmd_refused 1).settle) ∧
      ((c 2).operating t.val onu.toNat = true → exec (.calForget t onu) s = .next (((c 2).uncalibrate t.val onu.toNat).raiseFor t.val onu.toNat).settle) ∧
      ((c 2).operating t.val onu.toNat = false → exec (.calForget t onu) s = .next ((c 2).put BC_EVENT.cmd_refused 1).settle)) ∧
    (∀ d : BitVec 32, ∃ u : State, exec (.bcDefWrite t d) s = .next u.settle ∧
      u.get (BC_DEF.thresh t.val) = (BC_DEF.thresh t.val).of d.toNat ∧ u.get (BC_DEF.dfe1 t.val) = (BC_DEF.dfe1 t.val).of d.toNat ∧
      u.get (BC_DEF.ffe_post t.val) = (BC_DEF.ffe_post t.val).of d.toNat ∧ u.get (BC_DEF.ffe_pre t.val) = (BC_DEF.ffe_pre t.val).of d.toNat ∧
      u.get (BC_DEF.ctle t.val) = (BC_DEF.ctle t.val).of d.toNat ∧
      mget t.val u.bc.defCopy = some (BitVec.ofNat 32 (wordOf (bcDefFields t.val) u.get)))

/-! ## Prisms -/

/-- From R38, R238, R250, R258, R261, R263, R278, R299: a staged frame waits at its crossing while its slice is between Fence and Rejoin;
one with a bad FCS, or for a Prism that is disabled or absent, is refused with its cause and never starts a pass, another starts its
first in the generation in force; passes that end together end in slice order and ask for buffers together; a frame that waits for a
token takes one that is free; a swap while the other generation drains is refused, and one that drains too long has its waiting frames
refused with cause 0x0A. From R244, R256, R262: a word of a table entry other than word 0 is staged, once for each slice that the
address names and that runs, a read-only word being ignored; word 0 commits the entry with what is staged for it; all words of the entry
change together, none where the commit would change the draining generation's view, which is shown in PR_EVENT.gen_write_refused; the
requester's staging buffer is empty after either. Completion: exec answers a next state with its own effect, under the conditions on the
state and the operands that stand before its clauses, for each of frameStaged, prismPassEnd, recircTokenGrant, genSwap, kprofWrite,
genDrainTimeout, prismEntryCommit, prismStageWrite. -/
def Obligations.PrismPassesAndEntries : Prop :=
  (∀ s : State,
    ((s.pr.frames.find? fun x => decide (x.stage = .staging) && !s.stageWaits x) = none → exec .frameStaged s = .next s.settle) ∧
    (∀ f : InFrame, s.stageWaits f = true ↔ s.isl (13 + f.slice) = 2) ∧
    (∀ f : InFrame, (s.pr.frames.find? fun x => decide (x.stage = .staging) && !s.stageWaits x) = some f →
      (fcsGood f.octets = false → exec .frameStaged s = .next (s.refuseFrame f 9).settle) ∧
      (fcsGood f.octets = true → s.get PR_CTRL.en = 0 → exec .frameStaged s =
        .next ((s.refuseFrame f 0xA).inc (PR_DISABLED_CNT.count f.slice)).settle) ∧
      (fcsGood f.octets = true → s.get PR_CTRL.en ≠ 0 → 2 ≤ s.isl (13 + f.slice) ∨ s.pwr.ingressOff = true → exec .frameStaged s = .next (s.refuseFrame f 0xA).settle) ∧
      (fcsGood f.octets = true → s.get PR_CTRL.en ≠ 0 → s.isl (13 + f.slice) < 2 → s.pwr.ingressOff = false → exec .frameStaged s =
        .next ((s.setFrame { f with stage := .pass, gen := s.on PR_GEN_STATUS.active }).inc (PR_RX_CNT.count f.slice)).settle)) ∧
    (∀ ids : List Nat,
      let x := s.passEnds ((List.range 4).flatMap fun k => s.pr.frames.filter fun f =>
        ids.contains f.id && decide (f.stage = .pass) && f.slice == k)
      exec (.prismPassEnd ids) s = .next (State.genCheck (x.1.fwdCycleEnd.requestBuffers (x.1.pr.frames.filter fun f => x.2.contains f.id))).settle) ∧
    (∀ (sl : Slice) (f : InFrame), (s.pr.frames.find? fun x => decide (x.stage = .token) && x.slice == sl.val) = some f →
      (s.tokensFree sl.val = 0 → exec (.recircTokenGrant sl) s = .next s.settle) ∧
      let v := s.setFrame { f with stage := .pass, second := true, recirc := true }
      (s.tokensFree sl.val ≠ 0 → exec (.recircTokenGrant sl) s =
        .next (State.inc { v with pr := { v.pr with tokensHeld := nset f.slice (mgetD f.slice 0 v.pr.tokensHeld + 1) v.pr.tokensHeld } }
          (PR_PASS2_CNT.count f.slice)).settle)) ∧
    ((∀ n, 13 ≤ n → n ≤ 16 → s.isl n < 2) →
      let w := s.wakeForWrite [13, 14, 15, 16]
      (w.get PR_GEN_STATUS.draining ≠ 0 → exec .genSwap s = .next (w.put PR_EVENT.swap_refused 1).settle) ∧
      (w.get PR_GEN_STATUS.draining = 0 → exec .genSwap s = .next w.swapGen.settle) ∧
      ∀ (k : Fin 8) (hi : BitVec 32), let m := hi.toNat * 2 ^ 32 + w.pairLoOf k.val (PR_KPROF.mask k.val)
        (w.get PR_GEN_STATUS.draining ≠ 0 → exec (.kprofWrite k hi) s = .next (w.put PR_EVENT.gen_write_refused 1).settle) ∧
        (w.get PR_GEN_STATUS.draining = 0 → 40 < maskCount m → exec (.kprofWrite k hi) s = .next (w.put PR_EVENT.kprof_refused 1).settle) ∧
        (w.get PR_GEN_STATUS.draining = 0 → maskCount m ≤ 40 → exec (.kprofWrite k hi) s =
          .next { w.put (PR_KPROF.mask k.val) m with pr := { w.pr with pairLo := mdel k.val w.pr.pairLo } }.settle)) ∧
    (s.get PR_GEN_STATUS.draining ≠ 0 → exec .genDrainTimeout s =
      .next (State.genCheck (s.drainRefuse (s.pr.frames.filter fun f => s.inflightFrame f && decide (f.stage = .token)))).settle) ∧
    (s.get PR_GEN_STATUS.draining = 0 → exec .genDrainTimeout s = .next s.settle)) ∧
  ((∀ (r : Requester) (a : BitVec 40) (d : BitVec 64) (s : State) (f o : Nat) (t : PTable) (e w : Nat),
    prismWindow a.toNat = some (f, o) → prismEntry o = some (t, e, w) →
    (w = 0 → exec (.prismEntryCommit r a d) s =
      .next ((s.prismSlices f).foldl (fun s sl => (s.ungate (13 + sl)).prismCommit r sl t e d) s).settle) ∧
    (w ≠ 0 → t.ro w = true → exec (.prismStageWrite r a d) s = .next s.settle) ∧
    (w ≠ 0 → t.ro w = false → exec (.prismStageWrite r a d) s =
      .next ((s.prismSlices f).foldl (fun s sl => (s.ungate (13 + sl)).prismStage r sl e w d) s).settle) ∧
    (f < 4 → s.isl (13 + f) < 2 → s.prismSlices f = [f])) ∧
  (∀ (r : Requester) (sl : Slice) (t : PTable) (e : Nat) (d : BitVec 64) (s : State),
    let b := 4 * r.val + sl.val
    let st := stagedFor b e s.pr.staged
    let s1 := if st.2 then s.put PR_EVENT.stage_discard 1 else s
    let s2 : State := { s1 with pr := { s.pr with staged := mdel b s.pr.staged } }
    let c := s.prismCommit r sl.val t e d
    mget b s2.pr.staged = none ∧
    (s2.commitOk sl.val t (prismBase sl.val + e) d st.1 = false → c = s2.put PR_EVENT.gen_write_refused 1) ∧
    (s2.commitOk sl.val t (prismBase sl.val + e) d st.1 = true → c = s2.commitWords (prismBase sl.val + e) d st.1)))

/-! ## Forwarding -/

/-- From R279, R280: the compare-and-set commands, on the window of their requester, once ways of the bucket that read as uncorrectable have
been invalidated. Insert refuses a flow context that the tenant may not use, or a disabled FWD (0x7), finds the key (0x2) or takes the
lowest free way of its bucket, or none is free (0x5); update, delete and lock find no key (0x3), another version (0x4), a lock of
another requester (0x6) or succeed (0x1); unlock needs the requester's own lock. A command that a SHELF reset catches has no effect on
the table and runs until the reset takes effect (R288; DESIGN CHOICE, log 149). From R272, R280 to R283, R286: a lock that lasts too
long is dropped, counted and shown; while FWD is disabled a window write writes its word, and while it runs only word 1 of an entry that
the writer has locked, with a new version, any other being refused and shown; a sweep visits the valid entries that are not static,
which in hit-bit mode clears the hit bit first, ages next and removes at the second visit, an entry that a lookup reads in the cycle of
its removal being seen by that lookup still (R284); the spare bank takes the place of the one copied. Completion: exec answers a next
state with its own effect, under the conditions on the state and the operands that stand before its clauses, for each of fwdInsert,
fwdUpdate, fwdDelete, fwdRead, fwdLock, fwdUnlock, fwdLockTimeout, fwdWindowWrite, fwdSweepPeriod, fwdSweepNow, fwdBankCopyEnd. -/
def Obligations.ForwardingCommandsAndAgeing : Prop :=
  (∀ (r : Requester) (d : BitVec 32) (s : State), s.isl 17 < 2 →
    (s.fwd.caught.contains r.val = true →
      let held (op : Nat) : State := (s.ungate 17).fwdHeldGo r.val op d.toNat
      exec (.fwdInsert r d) s = .next (held 1).settle ∧ exec (.fwdUpdate r d) s = .next (held 2).settle ∧
      exec (.fwdDelete r d) s = .next (held 3).settle ∧ exec (.fwdRead r d) s = .next (held 4).settle ∧
      exec (.fwdLock r d) s = .next (held 5).settle ∧ exec (.fwdUnlock r d) s = .next (held 6).settle ∧
      ∀ op, (held op).mem = s.mem ∧ (r.val, ((held op).winKey r.val).tenant, ((held op).winKey r.val).vid, ((held op).winKey r.val).mac) ∈
        (held op).fwd.running) ∧
    (s.fwd.caught.contains r.val = false →
    let v (op : Nat) : State :=
      let x := (((s.ungate 17).put (FWD_CMD.op r.val) op).put (FWD_CMD.static r.val) ((FWD_CMD.static r.val).of d.toNat)).put (FWD_CMD.tenant r.val)
        ((FWD_CMD.tenant r.val).of d.toNat)
      x.fwdScrub (x.winKey r.val)
    let other (x : State) (i : Nat) : Prop := x.fwdVer i ≠ x.get (FWD_CMD_EXP.expected r.val)
    let locked (x : State) (i : Nat) : Prop := bit1 (x.fwdWord i 0) 60 = true ∧ bitsOf (x.fwdWord i 2) 12 4 ≠ r.val
    ((v 1).fwdRefused r.val = true → exec (.fwdInsert r d) s =
      .next ((v 1).fwdResult r.val 7 ((v 1).fwdFind ((v 1).winKey r.val))).settle) ∧
    ((v 1).fwdRefused r.val = false →
      (∀ i, (v 1).fwdFind ((v 1).winKey r.val) = some i → exec (.fwdInsert r d) s = .next ((v 1).fwdResult r.val 2 (some i)).settle) ∧
      ((v 1).fwdFind ((v 1).winKey r.val) = none → (v 1).freeWay ((v 1).winKey r.val) = none → exec (.fwdInsert r d) s =
        .next ((((v 1).inc FWD_NO_SPACE_CNT.count).put FWD_EVENT.no_space 1).fwdResult r.val 5 none).settle) ∧
      (∀ i, (v 1).fwdFind ((v 1).winKey r.val) = none → (v 1).freeWay ((v 1).winKey r.val) = some i →
        let k := (v 1).winKey r.val
        let w0 := 1 <<< 63 ||| (if (v 1).on (FWD_CMD.static r.val) then 1 <<< 62 else 0) ||| 1 <<< 61 ||| k.vid <<< 48 ||| k.mac
        let w1 := k.tenant <<< 58 ||| (v 1).get (FWD_CMD_DATA.flow r.val) <<< 40 ||| (v 1).get (FWD_CMD_DATA.ptidx r.val) <<< 28 |||
          (v 1).get (FWD_CMD_LIF.lif r.val) <<< 14
        let u := ((((v 1).putWord (fwdAddr i 0) w0).putWord (fwdAddr i 1) w1).putWord (fwdAddr i 2) ((v 1).fwdNow <<< 16)).putWord (fwdAddr i 3) 0
        exec (.fwdInsert r d) s = .next ((u.newVersion i).fwdResult r.val 1 (some i)).settle ∧ u.nextVersion ≠ 0)) ∧
    ((v 2).fwdRefused r.val = true → exec (.fwdUpdate r d) s =
      .next ((v 2).fwdResult r.val 7 ((v 2).fwdFind ((v 2).winKey r.val))).settle) ∧
    (∀ i, (v 2).fwdRefused r.val = false → (v 2).fwdFind ((v 2).winKey r.val) = some i → ¬other (v 2) i → ¬locked (v 2) i → ∃ u : State,
      exec (.fwdUpdate r d) s = .next (u.fwdResult r.val 1 (some i)).settle ∧ u.get FWD_VERSION.version = (v 2).nextVersion) ∧
    (∀ (op : Nat) (c : Instr), (op = 3 ∧ c = .fwdDelete r d) ∨ (op = 5 ∧ c = .fwdLock r d) →
      ((v op).fwdFind ((v op).winKey r.val) = none → exec c s = .next ((v op).fwdResult r.val 3 none).settle) ∧
      ∀ i, (v op).fwdFind ((v op).winKey r.val) = some i →
        (other (v op) i → exec c s = .next ((v op).fwdResult r.val 4 (some i)).settle) ∧
        (¬other (v op) i → locked (v op) i → exec c s = .next ((v op).fwdResult r.val 6 (some i)).settle) ∧
        (¬other (v op) i → ¬locked (v op) i → exec c s = .next (if op = 3 then ((v 3).fwdResult r.val 1 (some i)).fwdDrop i
          else (((v 5).fwdSet i 0 60 1 1).fwdSet i 2 12 4 r.val).fwdResult r.val 1 (some i)).settle)) ∧
    (exec (.fwdRead r d) s = .next (match (v 4).fwdFind ((v 4).winKey r.val) with
      | some i => (v 4).fwdResult r.val 1 (some i)
      | none => (v 4).fwdResult r.val 3 none).settle) ∧
    (exec (.fwdUnlock r d) s = .next (match (v 6).fwdFind ((v 6).winKey r.val) with
      | none => (v 6).fwdResult r.val 3 none
      | some i => if bit1 ((v 6).fwdWord i 0) 60 = true ∧ bitsOf ((v 6).fwdWord i 2) 12 4 = r.val then ((v 6).fwdSet i 0 60 1 0).fwdResult r.val 1 (some i)
        else (v 6).fwdResult r.val 6 (some i)).settle))) ∧
  ((∀ (i : BitVec 18) (s : State), s.fwdValid i.toNat = true → bit1 (s.fwdWord i.toNat 0) 60 = true →
    exec (.fwdLockTimeout i) s = .next (((s.fwdSet i.toNat 0 60 1 0).inc FWD_LOCK_TO_CNT.count).put FWD_EVENT.lock_timeout 1).settle) ∧
  (∀ (r : Requester) (a : BitVec 40) (d : BitVec 64) (s : State), s.isl 17 < 2 → fwdWindow a.toNat = true → a.toNat % 8 = 0 →
    let w := s.ungate 17
    let i := (a.toNat - 0x1020000000) / 32
    let mine : Prop := a.toNat < 0x1020800000 ∧ a.toNat % 32 = 8 ∧ w.fwdValid i = true ∧ bit1 (w.fwdWord i 0) 60 = true ∧
      bitsOf (w.fwdWord i 2) 12 4 = r.val ∧ w.flowAllowed (w.fwdKey i).tenant (bitsOf d.toNat 40 16) = true
    (w.get FWD_CTRL.en = 0 → exec (.fwdWindowWrite r a d) s = .next (w.putWord a.toNat d.toNat).settle) ∧
    (w.get FWD_CTRL.en ≠ 0 → mine → exec (.fwdWindowWrite r a d) s =
      .next ((w.fwdReplace i (bitsOf d.toNat 40 16) (bitsOf d.toNat 28 12) (bitsOf d.toNat 14 14)).newVersion i).settle) ∧
    (w.get FWD_CTRL.en ≠ 0 → ¬mine → exec (.fwdWindowWrite r a d) s = .next (w.put FWD_EVENT.win_refused 1).settle)) ∧
  (∀ (x : SweepRace) (s : State), s.isl 17 < 2 →
    (s.get FWD_AGE_CFG.en ≠ 0 → exec (.fwdSweepPeriod x) s = .next (s.sweep (x.raced.map (·.toNat)) (x.seen.map (·.toNat))).settle) ∧
    (s.get FWD_AGE_CFG.en = 0 → exec (.fwdSweepPeriod x) s = .next s.settle) ∧
    ((s.ungate 17).get FWD_AGE_CFG.en ≠ 0 → exec (.fwdSweepNow x) s =
      .next ((s.ungate 17).sweep (x.raced.map (·.toNat)) (x.seen.map (·.toNat))).settle)) ∧
  (∀ (i : Nat) (s : State),
    (bit1 (s.fwdWord i 0) 61 = true → ∀ b c, s.sweepHit i b c = (s.fwdSet i 0 61 1 0).fwdSet i 1 12 2 0) ∧
    (bit1 (s.fwdWord i 0) 61 = false → bitsOf (s.fwdWord i 1) 12 2 = 0 → ∀ b c, s.sweepHit i b c = s.fwdSet i 1 12 2 1) ∧
    (bit1 (s.fwdWord i 0) 61 = false → bitsOf (s.fwdWord i 1) 12 2 ≠ 0 → ∀ c,
      s.sweepHit i true c = State.inc { s.fwdSet i 1 12 2 0 with fwd := { s.fwd with spent := i :: s.fwd.spent } } FWD_AGE_ABORT_CNT.count ∧
      (bit1 (s.fwdWord i 0) 60 = false → s.sweepHit i false c = s.fwdAged i c) ∧
      (bit1 (s.fwdWord i 0) 60 = true → s.sweepHit i false c = s.fwdSet i 1 12 2 2)) ∧
    (∃ g, (s.fwdAged i true).fwd.ghosts = g :: s.fwd.ghosts ∧ g.w1.toNat % 2 ^ 64 = s.fwdWord i 1 % 2 ^ 64)) ∧
  (∀ (s : State) (k p : Nat), k < 8 → s.fwd.copy = some (k, p) → ∃ u : State, exec .fwdBankCopyEnd s = .next u.settle ∧
    u.get (FWD_BANK_MAP.phys k) = p % 16 ∧ u.get FWD_EVENT.swap_done = 1 ∧ u.get FWD_STATUS.swap_active = 0 ∧ u.fwd.copy = none ∧
    u.fwd.copyLost = false))

/-! ## Buffers, the Journal and lost capacity -/

/-- From R25, R303, R307, R309: a frame whose request was not served asks once more, counted as a spill; a commit that the Journal
acknowledges accepts the frame in its slot, or refuses it with the first cause that holds against it, and waits while a copy closes, a
tree that the acceptance takes out of Doze having its banks checked (R103); the last octet of a departure on a tree or uplink enters the
completion log of its port after the entries there, and a departure to a ring is delivered; the Journal applies the oldest entry of a
log while a copy is in service, and no other. Completion: exec answers a next state with its own effect, under the conditions on the
state and the operands that stand before its clauses, for each of bufferSpill, journalCommitAck, departureComplete, deliveryMark. -/
def Obligations.CommitsDeparturesAndDelivery : Prop :=
  ∀ s : State,
    (∀ ids : List Nat, let fs := s.pr.frames.filter fun f => ids.contains f.id && decide (f.stage = .spill)
      exec (.bufferSpill ids) s = .next (State.genCheck ((s.incBy SHM_SPILL_CNT.count fs.length).requestBuffers fs)).settle) ∧
    (∀ (id : Nat) (banks : List (Fin 156)) (f : InFrame) (j : Nat), s.frame id = some f → f.slot = some j → f.stage = .commit →
      (s.jnl.phaseA = .close ∨ s.jnl.phaseB = .close → exec (.journalCommitAck ⟨id, banks⟩) s = .next s.settle) ∧
      (s.jnl.phaseA ≠ .close → s.jnl.phaseB ≠ .close →
        (s.enqueueCause f = 0 → exec (.journalCommitAck ⟨id, banks⟩) s = .next ((s.accept f j).dozeChecks (banks.map (·.val))).settle) ∧
        (s.enqueueCause f ≠ 0 → exec (.journalCommitAck ⟨id, banks⟩) s =
          .next (((s.refuseFrame f (s.enqueueCause f)).enqueueCount f (s.enqueueCause f)).dozeChecks (banks.map (·.val))).settle))) ∧
    (∀ (q : Port) (d : Departure), ((s.departures q.val).find? fun x => x.left == 0) = some d →
      (q.val < 36 → ∃ u : State, exec (.departureComplete q) s = .next u.settle ∧
        mgetD q.val [] u.jnl.logs = mgetD q.val [] s.jnl.logs ++ [Done.mk d.slot d.seq] ∧ u.jnl.copyA = s.jnl.copyA ∧ u.jnl.copyB = s.jnl.copyB ∧
        u.fld = s.fld ∧ u.mem = s.mem) ∧
      (36 ≤ q.val → exec (.departureComplete q) s = .next (s.ringDone q.val d).settle)) ∧
    (∀ (q : Port) (d : Done) (r : List Done), mgetD q.val [] s.jnl.logs = d :: r →
      ((s.inService false = true ∨ s.inService true = true) → exec (.deliveryMark q) s =
        .next (State.applyDone { s with jnl := { s.jnl with logs := mset q.val r s.jnl.logs } } q.val d).settle) ∧
      (s.inService false = false → s.inService true = false → exec (.deliveryMark q) s = .next s.settle))

/-- From R312: the copy of a Journal whose partner is in service. At the end of Copy its dirty blocks are the partner's and Close begins; at
the end of Close it is in service, JNL_EVENT.resync_done is set and its island is in Run; a Close that lasts too long goes back to Copy.
R26: a block copied holds the partner's records. From R295, R297: a pseudo-channel that is declared failed once is shown and counted and
joins those being rebuilt; the end of the first Rebuild spends its sets, repoints their segments and lets the next begin; a Rebuild that
lasts too long is shown; a capacity cut takes effect when no buffer above the cut is in use, and the lost segment then takes the
physical segment that the cut has freed, wherever that lies (open; log 124). A Rebuild waits for the end of an Apply (R75). Completion:
exec answers a next state with its own effect, under the conditions on the state and the operands that stand before its clauses, for
each of jnlCopyEnd, jnlCloseEnd, jnlCloseTimeout, pcDeclaredFailed, pcRebuildEnd, pcRebuildTimeout, capacityCut. -/
def Obligations.JournalCopiesAndLostPseudoChannels : Prop :=
  (∀ (b : Bool) (s : State), s.inService (!b) = true →
    (s.phaseOf b = .copy → ∃ u : State, exec (.jnlCopyEnd b) s = .next u.settle ∧ u.phaseOf b = .close ∧ u.jnl.dirty = [] ∧
      u.copyRecs (!b) = s.copyRecs (!b) ∧ u.copyRecs b = copyBlocks s.jnl.dirty (s.copyRecs (!b)) (s.copyRecs b) ∧ u.fld = s.fld) ∧
    (s.phaseOf b = .close →
      (∃ u : State, exec (.jnlCloseEnd b) s = .next u.settle ∧ u.phaseOf b = .idle ∧ u.inService b = true ∧ u.inService (!b) = true ∧
        u.get JNL_STATUS.single = 0 ∧ u.get JNL_STATUS.none = 0 ∧ u.get JNL_EVENT.resync_done = 1 ∧ u.isl (jnlIsl b) = 0 ∧
        u.copyRecs b = copyBlocks s.jnl.dirty (s.copyRecs (!b)) (s.copyRecs b)) ∧
      exec (.jnlCloseTimeout b) s = .next (s.setPhase b .copy).settle)) ∧
  (∀ s : State,
    (∀ p : Fin 128, bit1 (s.get (SHM_PC_FAILED.map (p.val / 32))) (p.val % 32) = false →
      exec (.pcDeclaredFailed p) s = .next (s.pcFailed p.val).settle ∧
      ((s.dataSegs p.val).filter (fun e => s.setSpent e.1) = [] → ∃ u : State, s.pcFailed p.val = u ∧
        bit1 (u.get (SHM_PC_FAILED.map (p.val / 32))) (p.val % 32) = true ∧ u.get SHM_EVENT.pc_failed = 1 ∧ u.get SHM_STATUS.rebuild_active = 1 ∧
        u.get SHM_STATUS.pcs_failed = (s.get SHM_STATUS.pcs_failed + 1) % 512 ∧ u.shm.rebuilding = s.shm.rebuilding ++ [p.val] ∧ u.mem = s.mem)) ∧
    (∀ p : Fin 128, bit1 (s.get (SHM_PC_FAILED.map (p.val / 32))) (p.val % 32) = true → exec (.pcDeclaredFailed p) s = .next s.settle) ∧
    (∀ p r, s.shm.rebuilding = p :: r →
      (s.sil.step ≠ .apply → ∃ u : State, exec .pcRebuildEnd s = .next u.settle ∧ u.shm.rebuilding = r ∧ u.get SHM_EVENT.rebuild_done = 1 ∧
        u.get SHM_STATUS.rebuild_pct = 0 ∧ u.get SHM_STATUS.rebuild_active = (if r.isEmpty then 0 else 1)) ∧
      (s.sil.step = .apply → exec .pcRebuildEnd s = .next s.settle) ∧
      exec .pcRebuildTimeout s = .next (s.put SHM_EVENT.rebuild_late 1).settle) ∧
    (s.shm.rebuilding = [] → exec .pcRebuildEnd s = .next s.settle ∧ exec .pcRebuildTimeout s = .next s.settle) ∧
    (∀ x sh n r, s.shm.cuts = (x, sh, n) :: r →
      ((∃ i ∈ s.busyBufs sh, n ≤ i) → exec .capacityCut s = .next s.settle) ∧
      ((∀ i ∈ s.busyBufs sh, i < n) → ∃ u : State, exec .capacityCut s = .next u.settle ∧
        u.shm.cuts = r ∧ u.get SHM_EVENT.capacity_cut = 1 ∧ u.shm.lostSegs = s.shm.lostSegs.filter (· != (x / 8, x % 8)) ∧
        u.dataPc (x / 8) (x % 8) = s.freeVal % 128 ∧ u.mem = s.mem)))

/-! ## Queues, shapers and gates -/

/-- From R256, R327, R334 to R336: word 1 of a scheduling or node entry is staged, words 2 and 3 are ignored, word 0 commits the entry with
what is staged; a port rate above 800 Gbit/s or a port burst outside 64 octets to 16 MiB is refused with table 3 and reason 4, and any
other is taken; a refill tick of a running time keeper passes over every bucket, a bucket without a rate standing at 0 and any other
gaining its rate and capped at its burst. Completion: exec answers a next state with its own effect, under the conditions on the state
and the operands that stand before its clauses, for each of schEntryCommit, schStageWrite, schPortWrite, refillTick. -/
def Obligations.SchedulingEntriesAndBuckets : Prop :=
  (∀ (r : Requester) (a : BitVec 40) (d : BitVec 64) (s : State) (n : Bool) (e w : Nat), s.isl 13 < 2 → schedWindow a.toNat = some (n, e, w) →
    let v := s.wakeForWrite [13, 14, 15, 16]
    (w = 0 → exec (.schEntryCommit r a d) s = .next (v.schCommit r n e d).settle) ∧
    (w = 1 → exec (.schStageWrite r a d) s = .next (v.schStage r n e 1 d).settle) ∧
    (1 < w → exec (.schStageWrite r a d) s = .next s.settle)) ∧
  (∀ (q : Port) (d : BitVec 32) (s : State), s.isl 13 < 2 →
    let v := s.wakeForWrite [13, 14, 15, 16]
    let refused : State := (((v.put SCH_EVENT.cfg_refused 1).put SCH_CFG_REFUSE.table 3).put SCH_CFG_REFUSE.index q.val).put SCH_CFG_REFUSE.reason 4
    let b := (SCH_PORT_BURST.burst_oct q.val).of d.toNat
    let k := (SCH_PORT_RATE.rate_kbps q.val).of d.toNat
    (b < 64 ∨ 16777216 < b → exec (.schPortWrite q true d) s = .next refused.settle) ∧
    (64 ≤ b → b ≤ 16777216 → exec (.schPortWrite q true d) s = .next (v.put (SCH_PORT_BURST.burst_oct q.val) b).settle) ∧
    (800000000 < k → exec (.schPortWrite q false d) s = .next refused.settle) ∧
    (k ≤ 800000000 → exec (.schPortWrite q false d) s = .next
      (if v.get (SCH_PORT_RATE.rate_kbps q.val) = 0 ∧ k ≠ 0 then (v.put (SCH_PORT_RATE.rate_kbps q.val) k).enableBucket (portBucket q.val)
       else v.put (SCH_PORT_RATE.rate_kbps q.val) k).settle)) ∧
  (∀ s : State, s.tu.running = true → exec .refillTick s = .next ((s.sch.buckets.map (·.1)).foldl State.refill s).settle) ∧
  (∀ (k : Nat) (s : State), s.isl (s.bucketIsl k) ≠ 2 →
    ((s.bucketCfg k).1 = 0 → ((s.refill k).bucket k).bal = 0) ∧
    ((s.bucketCfg k).1 ≠ 0 → ((s.bucketCfg k).2.2 = false ∨ s.bucketEmpty k = false) → ((s.refill k).bucket k).bal =
      min ((s.bucket k).bal + (s.bucketCfg k).1 * 128) ((s.bucketCfg k).2.1 * 1000000)))

/-- From R330, R338, R341, R344, R347, R348: a port that can take a frame selects, and no other (a tree's payload that has gone by up to now
is no longer offered, R85); a gate-list command without an entry, with more than 128, with an entry of length 0, with a cycle of 0 or
above 1 s, or while a list is pending is refused with reason 5; at the change instant the copies swap; the next entry comes into force
at its start; a launch time that comes is marked; a sampling instant while the Lens is frozen is missed, and without en nothing happens;
word 0 of a Lens slot clears its history. Completion: exec answers a next state with its own effect, under the conditions on the state
and the operands that stand before its clauses, for each of portSelect, gateListGo, gateListSwap, gateEntryChange, launchTimeDue,
lensSample, lensSlotCommit. -/
def Obligations.SelectionGatesAndTheLens : Prop :=
  ∀ (q : Port) (s : State),
    (s.portTakes q.val = true → exec (.portSelect q) s = .next ((if q.val < 32 then s.passPayload q.val else s).select q.val).settle) ∧
    (s.portTakes q.val = false → exec (.portSelect q) s = .next s.settle) ∧
    (s.isl 13 < 2 → q.val < 36 → ∀ d : BitVec 32, (SCH_GATE_CTRL.go q.val).of d.toNat = 1 →
      let n := (SCH_GATE_CTRL.admin_len q.val).of d.toNat
      let w := (s.wakeForWrite [13, 14, 15, 16]).put (SCH_GATE_CTRL.admin_len q.val) n
      exec (.gateListGo q d) s = .next (w.gateGo q.val).settle ∧
      ((n = 0 ∨ 128 < n ∨ w.get (SCH_GATE_CYCLE.ns q.val) = 0 ∨ 1000000000 < w.get (SCH_GATE_CYCLE.ns q.val) ∨
          w.get (SCH_GATE_STATUS.pending q.val) ≠ 0) → w.gateGo q.val =
        (((w.put SCH_EVENT.cfg_refused 1).put SCH_CFG_REFUSE.table 2).put SCH_CFG_REFUSE.index q.val).put SCH_CFG_REFUSE.reason 5)) ∧
    (s.get (SCH_GATE_STATUS.pending q.val) ≠ 0 → ∃ u : State, exec (.gateListSwap q) s = .next u.settle ∧
      u.gate q.val = { operLen := (s.gate q.val).adminLen, operCycle := (s.gate q.val).adminCycle, operBase := (s.gate q.val).adminBase } ∧
      u.get (SCH_GATE_STATUS.oper_copy q.val) = (1 - s.get (SCH_GATE_STATUS.oper_copy q.val)) % 2 ∧ u.get (SCH_GATE_STATUS.pending q.val) = 0 ∧
      u.get SCH_EVENT.gate_swapped = 1) ∧
    (s.gated q.val = true → ∀ e, (s.operGates q.val).head? = some e →
      ((∀ x ∈ s.operGates q.val, x.2.2.2 ≤ s.get (SCH_GATE_STATUS.entry q.val)) →
        exec (.gateEntryChange q) s = .next (((s.put (SCH_GATE_STATUS.entry q.val) e.2.2.2).put (SCH_GATE_STATUS.open_ q.val) e.2.2.1).edgePast
          q.val).settle)) ∧
    (∀ n h, s.heldAt n = some h → exec (.launchTimeDue n) s = .next (s.setHeld { h with launchDue := true }).settle) ∧
    (s.get LNS_CTRL.en = 0 → exec .lensSample s = .next s.settle) ∧
    (s.get LNS_CTRL.en ≠ 0 → s.get LNS_CTRL.freeze ≠ 0 → exec .lensSample s = .next (State.inc { s with sch := { s.sch with soj := [] } } LNS_MISSED_CNT.count).settle) ∧
    (s.get LNS_CTRL.en ≠ 0 → s.get LNS_CTRL.freeze = 0 → exec .lensSample s = .next s.lensSample.settle) ∧
    (s.isl 13 < 2 → ∀ (w : Fin 1024) (d : BitVec 64),
      let v := s.wakeForWrite [13, 14, 15, 16]
      exec (.lensSlotCommit w d) s = .next (v.lensCommit w.val d).settle ∧
      (w.val ∈ (v.lensCommit w.val d).sch.lens ↔ entryEn d.toNat = true) ∧ mget w.val (v.lensCommit w.val d).sch.soj = none)

/-! ## Keys -/

/-- From R363, R365: each of the ten Key Vault operations, written in the window of a requester whose go bit reads 0, joins the queue behind
those that wait, its go bit reading 1, and starts when none runs; written while the go bit reads 1 it does nothing. From R363, R365,
R373: the running command ends with its result, counted, its go bit 0, its blob overwritten and off the queue, by TIMEOUT (0xB) with the
slot of an install as it was, or as it completes; a command that fails is counted as failed and shown; no command runs once the queue is
empty. A health failure of the entropy source stands until the source recovers, and the DRBG is reseeded only while it does not. From
R360: a flow cipher entry is written whole, or is refused with its reason and the flow context, and no octet changes. Completion: exec
answers a next state with its own effect, under the conditions on the state and the operands that stand before its clauses, for each of
kvInstallSaBlob, kvInstallDerived, kvDeleteSa, kvInstallRoot, kvDeleteRoot, kvInstallKek, kvTreeUnicastKey, kvGenBroadcastKey,
kvExportBroadcastKey, kvZeroise, kvCmdTimeout, kvCommandEnd, entropyHealthFail, entropySourceRecovered, drbgReseed, flowCipherWrite. -/
def Obligations.KeyVaultAndCipherEntries : Prop :=
  (∀ (r : Requester) (d : BitVec 32) (s : State), s.isl 20 < 2 →
    let w := s.ungate 20
    ∀ (op : Nat) (c : Instr),
      ((op, c) ∈ [(1, Instr.kvInstallSaBlob r d), (2, .kvInstallDerived r d), (3, .kvDeleteSa r d), (4, .kvInstallRoot r d), (5, .kvDeleteRoot r d),
        (6, .kvInstallKek r d), (7, .kvTreeUnicastKey r d), (8, .kvGenBroadcastKey r d), (9, .kvExportBroadcastKey r d), (10, .kvZeroise r d)]) →
      (w.get (KV_CMD.go r.val) ≠ 0 → exec c s = .next w.settle) ∧
      (w.get (KV_CMD.go r.val) = 0 → ∃ u : State, exec c s = .next u.settle ∧ u.get (KV_CMD.go r.val) = 1 ∧ u.get (KV_CMD.op r.val) = op ∧
        u.kv.started = true ∧ ∃ x : KvCmd, x.op = op ∧ x.req = r.val ∧ u.kv.cmds = w.kv.cmds ++ [x] ∧
        (w.kv.started = false → w.kv.cmds = [] → u.get KV_STATUS.busy = 1))) ∧
  (∀ s : State,
    (∀ c r, s.kv.cmds = c :: r → exec .kvCmdTimeout s = .next ((s.slotBack c).kvEnd c 0xB).settle) ∧
    (∀ c r, s.kv.cmds = c :: r → s.kv.started = true → s.kvLoadHeld c = false → s.kvUnnamed c = false →
      (s.kvResult c = 1 → exec .kvCommandEnd s = .next ((s.kvOk c).kvEnd c 1).settle) ∧
      (s.kvResult c ≠ 1 → exec .kvCommandEnd s = .next ((s.slotBack c).kvEnd c (s.kvResult c)).settle)) ∧
    (∀ (c : KvCmd) (n : Nat), c.req < 11 → n < 16 →
      (s.kvEnd c n).get (KV_RES.result c.req) = n ∧ (s.kvEnd c n).get (KV_CMD.go c.req) = 0 ∧ (s.kvEnd c n).kv.cmds = s.kv.cmds.drop 1 ∧
      (∀ k < 16, (s.kvEnd c n).get (KV_BLOB.blob c.req k) = 0) ∧
      (s.kvEnd c n).get KV_CMD_CNT.count = min (s.get KV_CMD_CNT.count + 1) (2 ^ 32 - 1) ∧
      (n ≠ 1 → (s.kvEnd c n).get KV_FAIL_CNT.count = min (s.get KV_FAIL_CNT.count + 1) (2 ^ 32 - 1) ∧ (s.kvEnd c n).get KV_EVENT.cmd_failed = 1) ∧
      (s.kv.cmds.drop 1 = [] → (s.kvEnd c n).get KV_STATUS.busy = 0 ∧ (s.kvEnd c n).kv.started = false)) ∧
    exec .entropyHealthFail s = .next ((s.put CIP_EVENT.entropy_fail 1).put KV_STATUS.entropy_fail 1).settle ∧
    exec .entropySourceRecovered s = .next (s.put KV_STATUS.entropy_fail 0).settle ∧
    (s.get KV_STATUS.entropy_fail = 0 → exec .drbgReseed s = .next (State.settle { s with kv := { s.kv with reseeds := s.kv.reseeds + 1 } })) ∧
    (s.get KV_STATUS.entropy_fail ≠ 0 → exec .drbgReseed s = .next s.settle)) ∧
  (∀ (f : BitVec 16) (d : BitVec 64) (s : State), s.isl 20 < 2 →
    let w := s.ungate 20
    (w.cipherReason f.toNat d.toNat = 0 → exec (.flowCipherWrite f d) s = .next (w.putWord (cipherAddr f.toNat) d.toNat).settle) ∧
    (w.cipherReason f.toNat d.toNat ≠ 0 → exec (.flowCipherWrite f d) s =
      .next (((w.put CIP_EVENT.cfg_refused 1).put CIP_CFG_REFUSE.flow f.toNat).put CIP_CFG_REFUSE.reason (w.cipherReason f.toNat d.toNat)).settle))

/-! ## Time -/

/-- From R9, R385, R390 to R393: align needs every tree Off or Dark and a time that has been set; a step needs the arm, which it uses, and
an absolute one a value below 1 s of nanoseconds, and is ignored while an absolute step still waits for its instant; a relative step
moves the time of day by its amount, an absolute one at its instant to its value; the host alone arms again; a write of TU_OFFSET starts
a slew and shows a jump of more than alarm_ns; the slew and the frequency reach their targets. Completion: exec answers a next state
with its own effect, under the conditions on the state and the operands that stand before its clauses, for each of tuAlign, tuStep,
tuAbsStepEffect, tuRearm, tuOffsetWrite, tuSlewEnd, freqRampEnd. -/
def Obligations.StepsSlewsAndAlignment : Prop :=
  ∀ s : State, s.isl 21 < 2 →
    (s.allDark = true → s.get TU_STATUS.time_set ≠ 0 → exec .tuAlign s = .next s.alignTicks.settle) ∧
    ((s.allDark = false ∨ s.get TU_STATUS.time_set = 0) → exec .tuAlign s = .next (s.put TU_EVENT.step_refused 1).settle) ∧
    (∀ d : BitVec 32,
      let w := s.put TU_CTRL.step_abs (TU_CTRL.step_abs.of d.toNat)
      let used := { (w.put TU_STATUS.step_armed 0).put TU_REMAIN.offset_ns 0 with tu := { s.tu with slewRem := 0 } }
      (s.tu.absPending.isSome → exec (.tuStep d) s = .next w.settle) ∧
      (s.tu.absPending = none → s.get TU_STATUS.step_armed = 0 → exec (.tuStep d) s = .next (w.put TU_EVENT.step_refused 1).settle) ∧
      (s.tu.absPending = none → s.get TU_STATUS.step_armed ≠ 0 → bit1 d.toNat 2 = true → 1000000000 ≤ w.stepNs →
        exec (.tuStep d) s = .next (w.put TU_EVENT.step_refused 1).settle) ∧
      (s.tu.absPending = none → s.get TU_STATUS.step_armed ≠ 0 → bit1 d.toNat 2 = true → w.stepNs < 1000000000 → exec (.tuStep d) s = .next
        (State.settle { used with tu := { used.tu with absPending := some (w.get TU_STEP_S.value * 1000000000 + w.stepNs) } })) ∧
      (s.tu.absPending = none → s.get TU_STATUS.step_armed ≠ 0 → bit1 d.toNat 2 = false → exec (.tuStep d) s = .next (used.stepBy (w.relAmount * 65536)).gatesResume.settle)) ∧
    (∀ u : State, ∀ n : Int, (u.stepBy n).tu.todOff = u.tu.todOff + n ∧ (u.stepBy n).get TU_STATUS.time_set = 1) ∧
    (∀ ns, s.tu.absPending = some ns → exec .tuAbsStepEffect s = .next
      ((State.stepBy { s with tu := { s.tu with absPending := none } } ((ns * 65536 : Nat) - (s.tod : Int))).gatesResume).settle) ∧
    (s.get TU_STATUS.step_armed = 0 → exec (.tuRearm 0) s = .next
      (((s.put TU_STATUS.step_armed 1).put TU_EVENT.rearmed 1).inc TU_REARM_CNT.count).settle) ∧
    (∀ r : Requester, (r ≠ 0 ∨ s.get TU_STATUS.step_armed ≠ 0) → exec (.tuRearm r) s = .next s.settle) ∧
    (∀ d : BitVec 32,
      let m := (signedOf d.toNat 32).natAbs
      let w : State := { s.put TU_REMAIN.offset_ns d.toNat with tu := { s.tu with slewRem := 0 } }
      exec (.tuOffsetWrite d) s = .next (if max 1 (s.get TU_SLEW_CFG.alarm_ns) < m then
        ((w.put TU_TIME_JUMP.jump 1).put TU_TIME_JUMP.last_ns (min m (2 ^ 31 - 1))).inc TU_JUMP_CNT.count else w).settle) ∧
    exec .tuSlewEnd s = .next (State.settle { s.put TU_REMAIN.offset_ns 0 with tu := { s.tu with slewRem := 0 } }) ∧
    exec .freqRampEnd s = .next (State.settle { s with tu := { s.tu with
      f := max (-12800000) (min 12800000 (signedOf (s.get TU_FREQ.freq) 32)), fRem := 0 } })

/-- From R388, R396, R398, R399: a read of a stamp tag takes the oldest stamp, or reads 0; a ToD request is answered only for a Lit or
Active tree, with a target at least 8 frames ahead; PPS_OUT rises while enabled and the time is set and falls at the end of its pulse,
its message going out 10 ms later with octets that sum to 0; a pulse of PPS_IN below 100 ns is ignored and any other is stamped while
the Time Unit takes stamps and is a wake event; the receive FIFO holds 64 octets and loses the next; between Fence and the end of Rejoin
no message is sent and no octet is kept (R400). Completion: exec answers a next state with its own effect, under the conditions on the
state and the operands that stand before its clauses, for each of txtsRead, todRequest, ppsOutEdge, ppsOutPulseEnd, ppsInEdge,
todTxMessage, todRxOctet, todRxRead. -/
def Obligations.StampsPulsesAndTodMessages : Prop :=
  ∀ s : State, s.isl 21 < 2 →
    (∀ (r : Requester) (p : UpPort),
      (s.txts p.val = [] → exec (.txtsRead r p) s = .next (s.answer r.val 0 [0]).settle) ∧
      (∀ x l, s.txts p.val = x :: l → ∃ u : State, exec (.txtsRead r p) s = .next (u.answer r.val 0
          [BitVec.ofNat 64 (1 <<< 31 ||| (x.msgType % 16) <<< 24 ||| (x.domain % 256) <<< 16 ||| x.seqId % 65536)]).settle ∧
        u.txts p.val = l ∧ u.get (TU_TXTS_NS.value p.val) = x.todNs % 1000000000)) ∧
    (∀ d : BitVec 32,
      let t := TU_TOD_REQ.tree.of d.toNat
      let a := TU_TOD_REQ.ahead.of d.toNat
      (s.treeState t ≠ 2 → s.treeState t ≠ 3 → exec (.todRequest d) s = .next (State.settle
        { ((s.put TU_TOD_REQ.tree t).put TU_TOD_REQ.ahead a).put TU_TOD_REQ.ready 0 with tu := { s.tu with todReqTarget := none } })) ∧
      (s.treeState t = 2 ∨ s.treeState t = 3 → ∃ u : State, exec (.todRequest d) s = .next u.settle ∧ u.get TU_TOD_REQ.ready = 1 ∧
        u.get TU_TOD_SFC.value = (s.get (TE_SFC.sfc t) + max 8 a) % 2 ^ 51 ∧
        u.tu.todReqTarget = some (t, s.lastTickNs + max 8 a * 125000))) ∧
    (s.get TU_PPS_CFG.out_en ≠ 0 → s.get TU_STATUS.time_set ≠ 0 → s.tu.running = true → exec .ppsOutEdge s = .next
      (State.settle { s with tu := { s.tu with ppsHigh := true, ppsEdgeS := s.ppsSecond, ppsMsgDue := true } })) ∧
    exec .ppsOutPulseEnd s = .next (State.settle { s with tu := { s.tu with ppsHigh := false } }) ∧
    (∀ b w, (w : BitVec 32).toNat < 100 → exec (.ppsInEdge b w) s = .next s.settle) ∧
    (∀ w : BitVec 32, 100 ≤ w.toNat → exec (.ppsInEdge (s.on TU_PPS_CFG.in_edge) w) s = .next
      ((if s.get TU_PPS_CFG.in_en ≠ 0 ∧ s.stamping = true ∧ s.tu.running = true then (((s.put TU_PPS_IN_NS.value (s.todNs % 1000000000)).put TU_PPS_IN_S.value
        (s.todNs / 1000000000)).inc TU_PPS_IN_CNT.count).put TU_EVENT.pps_in 1 else s).wakeEvent 2).settle) ∧
    ((s.get TU_TOD_CFG.tx_en = 0 ∨ s.tu.ppsMsgDue = false ∨ s.stamping = false) → exec .todTxMessage s =
      .next (State.settle { s with tu := { s.tu with ppsMsgDue := false } })) ∧
    (s.get TU_TOD_CFG.tx_en ≠ 0 → s.tu.ppsMsgDue = true → s.stamping = true → exec .todTxMessage s = .next (State.settle { s with tu := { s.tu with
      todSent := withChecksum s.todBody, todSeq := (s.tu.todSeq + 1) % 65536, ppsMsgDue := false } })) ∧
    (∀ l : List (BitVec 8), (withChecksum l).foldl (· + ·) 0 = 0) ∧
    ((s.get TU_TOD_CFG.rx_en = 0 ∨ s.stamping = false) → ∀ o : BitVec 8, exec (.todRxOctet o) s = .next s.settle) ∧
    (s.get TU_TOD_CFG.rx_en ≠ 0 → s.stamping = true → ∀ o : BitVec 8,
      (s.tu.todRx.length < 64 → exec (.todRxOctet o) s = .next (State.settle { s with tu := { s.tu with todRx := s.tu.todRx ++ [o] } })) ∧
      (64 ≤ s.tu.todRx.length → exec (.todRxOctet o) s = .next ((s.inc TU_TOD_RX_LOST_CNT.count).put TU_EVENT.tod_rx_overflow 1).settle)) ∧
    (∀ r : Requester,
      (s.tu.todRx = [] → exec (.todRxRead r) s = .next (s.answer r.val 0 [0]).settle) ∧
      (∀ o l, s.tu.todRx = o :: l → exec (.todRxRead r) s = .next (State.settle (State.answer { s with tu := { s.tu with todRx := l } } r.val 0
        [BitVec.ofNat 64 (1 <<< 31 ||| (min 63 s.tu.todRx.length) <<< 24 ||| o.toNat)]))))

/-! ## The Linman link -/

/-- From R424, R426, R427, R429: bring-up runs Signal, Lanes, Deskew, SOF and Init in order, each step beginning when what it needs is
there: signal on as many lanes as the width has (in every state the signal of each lane is shown), that many different lanes in marker
lock, no skew above 128 ns, SOF lock, and an INIT for each of the four pools, which makes the link Up with sequence numbers from 0. A
step that passes its limit begins again at Signal, counted. A link that goes down is counted and shown, discards what is not
acknowledged, and keeps the requests that wait; an INIT after Up, and a retrain, take it down. Completion: exec answers a next state
with its own effect, under the conditions on the state and the operands that stand before its clauses, for each of linkSignalDetect,
linkLaneLock, linkDeskewEnd, linkSofLock, initBlock, linkUp, linkTrainTimeout, linkDown, linkRetrain. -/
def Obligations.LinkBringUpAndDown : Prop :=
  ∀ s : State, s.isl 23 < 2 →
    (∀ (lanes : BitVec 5) (width : BitVec 2), ∃ u : State, exec (.linkSignalDetect lanes width) s = .next u.settle ∧
      (∀ i < 5, u.get (LM_LANE_STATUS.signal i) = if bit1 lanes.toNat i then 1 else 0) ∧
      u.get LM_STATUS.state = if s.get LM_STATUS.state = 0 ∧ 1 ≤ widthLanes width.toNat ∧
        widthLanes width.toNat ≤ (bitList 5 lanes.toNat).length then 1 else s.get LM_STATUS.state) ∧
    (s.get LM_STATUS.state = 1 → ∀ (width : BitVec 2) (m : BitVec 12),
      (mapOk (widthLanes width.toNat) m = false → exec (.linkLaneLock width m) s = .next s.settle) ∧
      (mapOk (widthLanes width.toNat) m = true → ∃ u : State, exec (.linkLaneLock width m) s = .next u.settle ∧ u.get LM_STATUS.state = 2 ∧
        u.get LM_STATUS.rx_width = width.toNat ∧ ∀ k < 4, u.get (LM_RX_MAP.lane k) = if k < widthLanes width.toNat then mapLane m k else 7)) ∧
    (s.get LM_STATUS.state = 2 → ∀ k : BitVec 40, ∃ u : State, exec (.linkDeskewEnd k) s = .next u.settle ∧
      ((∃ i < 5, s.get (LM_LANE_STATUS.rx_use i) ≠ 0 ∧ 128 < bitsOf k.toNat (8 * i) 8) → u = s) ∧
      ((∀ i < 5, s.get (LM_LANE_STATUS.rx_use i) ≠ 0 → bitsOf k.toNat (8 * i) 8 ≤ 128) → u.get LM_STATUS.state = 3 ∧
        ∀ i < 5, s.get (LM_LANE_STATUS.rx_use i) ≠ 0 → u.get (LM_LANE_STATUS.skew_ns i) = bitsOf k.toNat (8 * i) 8)) ∧
    (s.get LM_STATUS.state = 3 → exec .linkSofLock s = .next (State.settle { s.put LM_STATUS.state 4 with link := { s.link with sendInit := true } })) ∧
    (s.get LM_STATUS.state = 4 → ∀ p : BitVec 3, p.toNat < 4 → ∀ n : BitVec 16, exec (.initBlock p n) s = .next (State.settle { s with link := { s.link with
      inits := s.link.inits.filter (· != p.toNat) ++ [p.toNat], txAvail := nset p.toNat n.toNat s.link.txAvail } })) ∧
    (s.get LM_STATUS.state = 4 → (∃ p < 4, p ∉ s.link.inits) → exec .linkUp s = .next s.settle) ∧
    (s.get LM_STATUS.state = 4 → (∀ p < 4, p ∈ s.link.inits) →
      let w : State := { (s.put LM_STATUS.state 5).put LM_EVENT.link_up 1 with link := { s.link with
        nextTx := 0, nextRx := 0, naked := false, replays := 0, sendInit := false, lastMasked := 0 } }
      exec .linkUp s = .next w.irq.upNotices.ringCopies.settle ∧ w.linkUp = true) ∧
    (s.get LM_STATUS.state < 5 → ∃ u : State, exec .linkTrainTimeout s = .next u.settle ∧ u.get LM_STATUS.state = 0 ∧
      u.get LM_TRAIN_FAIL_CNT.count = min (s.get LM_TRAIN_FAIL_CNT.count + 1) (2 ^ 32 - 1) ∧ u.link.inits = []) ∧
    (2 ≤ s.get LM_STATUS.state → s.get LM_STATUS.state ≤ 5 → ∀ b : BitVec 5,
      let bad := (bitList 5 b.toNat).filter fun f => (s.txLogical f).isSome
      let sp := s.get LM_TX_MAP.spare
      (bad = [] → exec (.linkDown b) s = .next s.linkDown.settle) ∧
      (bad ≠ [] → (sp = 7 ∨ bit1 b.toNat sp = true ∨ 1 < bad.length) → exec (.linkDown b) s = .next (s.widthCut (bitList 5 b.toNat)).settle) ∧
      (∀ f, bad = [f] → sp ≠ 7 → bit1 b.toNat sp = false → exec (.linkDown b) s = .next (s.linkDown.swapLane f).settle)) ∧
    (s.get LM_STATUS.state = 5 → ∀ p : BitVec 3, p.toNat < 4 → ∀ n, exec (.initBlock p n) s = .next s.linkDown.settle) ∧
    exec .linkRetrain s = .next (s.ungate 23).linkDown.settle ∧
    (∀ u : State, u.linkDown.get LM_STATUS.state = 0 ∧ u.linkDown.get LM_EVENT.link_down = 1 ∧
      u.linkDown.get LM_DOWN_CNT.count = min (u.get LM_DOWN_CNT.count + 1) (2 ^ 32 - 1) ∧ u.linkDown.link.unacked = [] ∧ u.linkDown.link.txq = [] ∧
      u.linkDown.link.rxq = u.link.rxq)

/-- From R433 and R432: whatever waits, the sender sends a message only with the credits of its pool and with fewer than 2,048 messages
unacknowledged. Of what waits and what is sent nothing is lost or duplicated, and each pool's credits fall by the cost of the messages
sent in it. -/
def Obligations.SenderKeepsItsWindowAndCredits : Prop :=
  ∀ (n : Nat) (l : Link), ∃ sent : List LMsg,
    (l.pump n).unacked.map (·.2) = l.unacked.map (·.2) ++ sent ∧
    l.txq.Perm (sent ++ (l.pump n).txq) ∧
    (l.unacked.length ≤ 2048 → (l.pump n).unacked.length ≤ 2048) ∧
    (∀ p, mgetD p 0 (l.pump n).txAvail + ((sent.filter fun m => m.pool == p).map LMsg.cost).sum = mgetD p 0 l.txAvail) ∧
    (l.pump n).nextTx % 4096 = (l.nextTx + sent.length) % 4096 ∧ (l.pump n).rxq = l.rxq

/-- From R424, R428, R431 to R433, R444: with the link Up, an ACK drops every message up to the one it names and a nak or 20 µs of silence
replays the rest, the eighth replay in a row taking the link down; credits add up; a message with a good CRC and the expected number is
accepted, the first other is answered with a nak and counted, and the rest are discarded; the INT is sent again while the masked summary
stands. Each SOF counts the link frames and returns the credits due; a marker column goes out on every lane that the Bench does not
hold; a spare joins over 4 marker columns, is mirrored for one and switched for one. Completion: exec answers a next state with its own
effect, under the conditions on the state and the operands that stand before its clauses, for each of ackBlock, creditBlock,
messageReceived, replayTimeout, intResend, sofTick, markerColumn, laneSwapPrepareEnd, laneSwapGo. -/
def Obligations.LinkMessagesReplaysAndSwaps : Prop :=
  ∀ s : State, s.isl 23 < 2 →
    (s.linkUp = true →
      (∀ q : BitVec 12,
        let left := ackUpTo q.toNat s.link.unacked
        let keep (x : LinkItem) : Bool := match x with | .msg n _ => left.any fun e => e.1 == n | _ => true
        let w : State := { s with link := { s.link with
          unacked := left
          replays := if left.length < s.link.unacked.length then 0 else s.link.replays
          line := { s.link.line with queue := s.link.line.queue.filter keep } } }
        exec (.ackBlock false q) s = .next w.pumpLink.settle ∧ exec (.ackBlock true q) s = .next w.replay.pumpLink.settle) ∧
      (∀ (p : BitVec 3) (n : BitVec 16), p.toNat < 4 → exec (.creditBlock p n) s = .next (State.pumpLink { s with link := { s.link with
        txAvail := nset p.toNat (mgetD p.toNat 0 s.link.txAvail + n.toNat) s.link.txAvail } }).settle) ∧
      (∀ (p : BitVec 3) (q : BitVec 12) (l : List (BitVec 64)),
        (q.toNat = s.link.nextRx → exec (.messageReceived p q true l) s = .next (State.takeMsg { s with link := { s.link with
          nextRx := (s.link.nextRx + 1) % 4096, naked := false
          line := s.link.line.push (.ack false s.link.nextRx) } } p.toNat l).settle) ∧
        (∀ b, (b = false ∨ q.toNat ≠ s.link.nextRx) → s.link.naked = false → exec (.messageReceived p q b l) s =
          .next (State.settle { s.inc LM_CRC_ERR_CNT.count with link := { s.link with
            naked := true
            line := s.link.line.push (.ack true ((s.link.nextRx + 4095) % 4096)) } })) ∧
        (∀ b, (b = false ∨ q.toNat ≠ s.link.nextRx) → s.link.naked = true → exec (.messageReceived p q b l) s = .next s.settle)) ∧
      (exec .replayTimeout s = .next s.replay.settle) ∧
      (s.get LM_INT_CFG.resend_us ≠ 0 → s.link.lastMasked ≠ 0 → s.hostMasked ≠ 0 → exec .intResend s = .next (s.sendInt s.hostMasked).settle)) ∧
    (s.link.unacked = [] → s.replay = s) ∧
    (let isMsg (x : LinkItem) : Bool := match x with | .msg _ _ => true | _ => false
      let again := s.link.line.queue.filter (fun x => !isMsg x) ++ s.link.unacked.map fun e => LinkItem.msg e.1 e.2
      s.link.unacked ≠ [] → (s.link.replays < 7 → s.replay = { s.inc LM_REPLAY_CNT.count with link := { s.link with
        replays := s.link.replays + 1
        line := { s.link.line with queue := again } } }) ∧
      (7 ≤ s.link.replays → s.replay.get LM_STATUS.state = 0 ∧ s.replay.get LM_EVENT.replay_fail = 1)) ∧
    (∀ (n : Nat) (m : LMsg) (a b : List (Nat × LMsg)), (∀ e ∈ a, e.1 ≠ n) → ackUpTo n (a ++ (n, m) :: b) = b) ∧
    (let creds := (s.link.credOut.filter fun e => e.2 ≠ 0).map fun e => LinkItem.credit e.1 e.2
      let inits := if s.link.sendInit then [LinkItem.init 0 64, .init 1 1024, .init 2 2048, .init 3 0] else []
      exec .sofTick s = .next (State.settle { s with link := { s.link with
        frameNo := (s.link.frameNo + 1) % 2 ^ 32, credOut := []
        line := (creds ++ inits).foldl Line.push { s.link.line with sofDue := true } } })) ∧
    (∀ (b : BitVec 5) (n : BitVec 16), ∃ u : State, exec (.markerColumn b n) s = .next u.settle ∧ u.link.markerCount = (s.link.markerCount + 1) % 65536 ∧
      (s.link.swap = .mirror → u.link.swap = .switch) ∧ (s.link.swap = .prepare → u.link.swap = .prepare) ∧
      (s.link.swap = .none → u.link.line.column.map (·.1) = (List.range 5).filter (fun i => s.get (BENCH_CFG.en (64 + i)) = 0) ∧
        u.get LM_SWAP_CNT.count = s.get LM_SWAP_CNT.count ∧
        u.get LM_BLOCK_ERR_CNT.count = min (s.get LM_BLOCK_ERR_CNT.count + n.toNat) (2 ^ 32 - 1))) ∧
    (s.link.swap = .prepare → exec .laneSwapPrepareEnd s = .next (State.settle { s with link := { s.link with swap := .mirror, spareMarkers := 4 } })) ∧
    (∀ d : BitVec 32,
      let w := (s.ungate 23).put LM_CTRL.swap_lane (LM_CTRL.swap_lane.of d.toNat)
      exec (.laneSwapGo d) s = .next (if bit1 d.toNat 31 then w.swapLane (LM_CTRL.swap_lane.of d.toNat) else w).settle)

/-- From R445, R447 to R449: in Standby, on the way to it or after a failed wake the Beacon is in lock after four SOF blocks in a row, 18 or
19 blocks apart, and wakes at the second wake flag in a row; a write to the wake address wakes while wake_en is 1; GET_STATUS answers
its four octets and their PEC; CLEAR_ALERT clears the sources it names, a wrong PEC or length being counted; 10 ms without a link raise
the alert outside Standby and waking. Completion: exec answers a next state with its own effect, under the conditions on the state and
the operands that stand before its clauses, for each of beaconSof, wakeAddressWrite, wpGetStatus, wpClearAlert, linkDownAlert. -/
def Obligations.BeaconAndWakePort : Prop :=
  ∀ s : State,
    (s.get PWR_STATUS.state = 2 ∨ s.get PWR_STATUS.state = 3 ∨ s.get PWR_STATUS.state = 5 →
      (∀ (w : Bool) (n : BitVec 32) (b : BitVec 8), ∃ u : State, exec (.beaconSof w n b) s = .next u.settle ∧
        (w = false → u.link.beaconWake = 0 ∧ u.link.beaconLast = some n.toNat ∧ u.fld = s.fld ∧
          (s.link.beaconGood = 3 → s.link.beaconLast = some ((n.toNat + 2 ^ 32 - 1) % 2 ^ 32) → (b = 18 ∨ b = 19) → u.link.beaconLock = true) ∧
          (s.link.beaconLast ≠ some ((n.toNat + 2 ^ 32 - 1) % 2 ^ 32) → u.link.beaconGood = 1 ∧ u.link.beaconLock = false)) ∧
        (w = true → s.link.beaconWake = 0 → u.link.beaconWake = 1 ∧ u.fld = s.fld)) ∧
      (∀ (n : BitVec 32) (b : BitVec 8), s.link.beaconWake = 1 → s.link.beaconLast = some ((n.toNat + 2 ^ 32 - 1) % 2 ^ 32) → ∃ v : State, v.fld = s.fld ∧ v.pwr = s.pwr ∧
        exec (.beaconSof true n b) s = .next (v.wakeEvent 3).settle)) ∧
    (s.wpRuns = true →
      (s.get WP_CFG.wake_en ≠ 0 → exec .wakeAddressWrite s = .next ((s.inc WP_WAKE_CNT.count).wakeEvent 0).settle) ∧
      (s.get WP_CFG.wake_en = 0 → exec .wakeAddressWrite s = .next s.settle) ∧
      (let a := s.get WP_CFG.mgmt_addr
       let d := [s.wpState, s.get PWR_WAKE_FAIL.cause, (if s.linkUp then 0x80 else 0) + s.get WP_ALERT.sources, s.get MGT_IDENTITY.rev].map (BitVec.ofNat 8)
       exec .wpGetStatus s = .next (State.settle { s with
         wpAnswer := d ++ [BitVec.ofNat 8 (crc8 ([BitVec.ofNat 8 (2 * a), 0x01, BitVec.ofNat 8 (2 * a + 1)] ++ d))] })) ∧
      (∀ d p : BitVec 8,
        (crc8 [BitVec.ofNat 8 (2 * s.get WP_CFG.mgmt_addr), 0x02, d] ≠ p.toNat → exec (.wpClearAlert [d, p]) s = .next (s.inc WP_PEC_ERR_CNT.count).settle) ∧
        (crc8 [BitVec.ofNat 8 (2 * s.get WP_CFG.mgmt_addr), 0x02, d] = p.toNat → s.get WP_ALERT.sources < 8 → ∃ u : State,
          exec (.wpClearAlert [d, p]) s = .next u.settle ∧
          ∀ j < 3, bit1 (u.get WP_ALERT.sources) j = (bit1 (s.get WP_ALERT.sources) j && !d.toNat.testBit j))) ∧
      (∀ l, (l : List (BitVec 8)).length ≠ 2 → exec (.wpClearAlert l) s = .next (s.inc WP_CMD_ERR_CNT.count).settle)) ∧
    (s.linkUp = false → s.get PWR_STATUS.state ≤ 2 → exec .linkDownAlert s = .next (s.setBit WP_ALERT.sources 1).settle)

/-! ## Clocks -/

/-- From R459 to R462, R464, R466, R467, R472: a source whose stability count lies in the window becomes stable, and one outside is counted;
a monitor that trips is shown and counted, and disqualifies its source until wait_s later it counts again; a window of the trim loop
within 10 of 204,800 cycles counts towards the lock, another moves the trim code against the error and drops the lock; the SPLL locks to
the source the Lock step began with, or the start-up goes back to Qualify where that source is lost, and the derived PLLs end the
start-up; a step of the start-up is run once more before it fails; an island's divider moves one towards its target, and the end of
every ramp ends Ease or Restore; a fallback that does not lock is disqualified; with revertive set the switch eases to a better source;
a write of CLK_SRC_CFG during a switch is held. Completion: exec answers a next state with its own effect, under the conditions on the
state and the operands that stand before its clauses, for each of stabilityCountEnd, lossMonitorTrip, requalifyWaitEnd,
freqMonitorWindow, trimWindow, spllLock, derivedPllLock, clockStepTimeout, resetHoldRetry, dividerRampStep, fixedIslandRelease,
relockTimeout, revertiveSwitch, clkSrcWrite. -/
def Obligations.SourcesStartUpAndSwitches : Prop :=
  ∀ s : State,
    (∀ (x : ClkSrc) (n : BitVec 32), s.srcOn (srcNum x) = true → (s.srcSt (srcNum x)).stable = false → (s.srcSt (srcNum x)).tripped = false →
      (s.inWindow (srcNum x) n.toNat = true → exec (.stabilityCountEnd x n) s =
        .next (s.setSrc (srcNum x) { s.srcSt (srcNum x) with stable := true }).clkSettle.settle) ∧
      (s.inWindow (srcNum x) n.toNat = false → exec (.stabilityCountEnd x n) s = .next (s.inc CLK_STAB_FAIL_CNT.count).settle)) ∧
    (∀ x : ClkSrc, s.srcOn (srcNum x) = true →
      let ev := if x = .refA then CLK_EVENT.mon_refa else if x = .refB then CLK_EVENT.mon_refb else CLK_EVENT.mon_xtal
      exec (.lossMonitorTrip x) s = .next (State.setSrc (((s.put ev 1).inc CLK_MON_TRIP_CNT.count).clrBit CLK_STATUS.qual (srcNum x)) (srcNum x)
        { stable := false, tripped := true }).clkSettle.settle) ∧
    (∀ x : ClkSrc, (s.srcSt (srcNum x)).tripped = true → exec (.requalifyWaitEnd x) s = .next (s.setSrc (srcNum x) {}).settle) ∧
    (s.clkRuns = true → s.clk.xtalRuns = true → (s.srcSt 2).stable = false → ∀ a b c, exec (.freqMonitorWindow a b c) s = .next s.clkSettle.settle) ∧
    (s.clkRuns = true → s.clk.xtalRuns = true → (s.srcSt 2).stable = true → ∀ a b c, ∃ u : State, exec (.freqMonitorWindow a b c) s = .next u.clkSettle.settle ∧
      u = { ((((s.putOffs 2 c).freqTrip 2 c).measureRef 0 a).measureRef 1 b) with
        clk := { ((((s.putOffs 2 c).freqTrip 2 c).measureRef 0 a).measureRef 1 b).clk with xtalCheck := false } }) ∧
    (s.clkRuns = true → s.clk.xtalRuns = false → s.xtalStopped = true → ∀ a b c : Int,
      let w := (s.putOffs 0 a).putOffs 1 b
      (a.natAbs ≤ s.monThr → b.natAbs ≤ s.monThr → exec (.freqMonitorWindow a b c) s = .next w.settle) ∧
      (s.monThr < a.natAbs ∨ s.monThr < b.natAbs → ∃ u : State, exec (.freqMonitorWindow a b c) s = .next u.settle ∧
        u.clk.xtalRuns = true ∧ u.clk.xtalCheck = true ∧ u.get CLK_MON_TRIP_CNT.count = min (s.get CLK_MON_TRIP_CNT.count + 1) (2 ^ 32 - 1))) ∧
    (s.trimUsable = true → ∀ n : BitVec 32, ∃ u : State, exec (.trimWindow n) s = .next u.settle ∧
      (204790 ≤ n.toNat → n.toNat ≤ 204810 → u.get CLK_STATUS.trim_code = s.get CLK_STATUS.trim_code ∧ u.clk.trimGood = min 4 (s.clk.trimGood + 1) ∧
        (3 ≤ s.clk.trimGood → u.get CLK_STATUS.trim_locked = 1)) ∧
      (204810 < n.toNat → s.get CLK_STATUS.trim_code < 4096 → u.get CLK_STATUS.trim_code ≤ s.get CLK_STATUS.trim_code ∧ u.get CLK_STATUS.trim_locked = 0 ∧ u.clk.trimGood = 0) ∧
      (n.toNat < 204790 → s.get CLK_STATUS.trim_code < 4096 → s.get CLK_STATUS.trim_code ≤ u.get CLK_STATUS.trim_code ∧ u.get CLK_STATUS.trim_locked = 0 ∧ u.clk.trimGood = 0)) ∧
    (s.clk.step = .lock → s.qual s.clk.fallback = true → exec .spllLock s = .next (State.settle
      { (s.put CLK_STATUS.spll_state 2).put CLK_STATUS.active s.clk.fallback with
        clk := { s.clk with step := .derived, retried := false, lockedOnce := true } })) ∧
    (s.clk.step = .lock → s.qual s.clk.fallback = false → exec .spllLock s = .next (State.startUpGo { s with
      clk := { s.clk with step := .qualify, retried := false } }).settle) ∧
    (s.clk.step ≠ .lock → s.clk.switch = .relock → exec .spllLock s = .next s.restoreBegin.settle) ∧
    (s.clk.step = .derived → exec .derivedPllLock s = .next (State.settle (State.clkSettle { (s.put CLK_STATUS.cpll_lock 1).put CLK_STATUS.hpll_lock 15 with
      clk := { s.clk with step := .none, retried := false }
      pwr := { s.pwr with
        step := if s.pwr.step = .bootClocks then .bootLink else if s.pwr.step = .wakeClocks then .wakeRestore else s.pwr.step
        retried := false } }))) ∧
    ((s.clk.step = .lock ∨ s.clk.step = .derived) → s.clk.retried = false →
      exec .clockStepTimeout s = .next (State.settle { s with clk := { s.clk with retried := true } })) ∧
    ((s.clk.step = .lock ∨ s.clk.step = .derived) → s.clk.retried = true → s.get PWR_STATUS.state ≠ 4 →
      exec .clockStepTimeout s = .next (State.settle { s with clk := { s.clk with step := .hold, retried := false } })) ∧
    (s.clk.step = .lock → s.clk.retried = true → s.get PWR_STATUS.state = 4 → exec .clockStepTimeout s = .next (s.wakeFail 4).settle) ∧
    (s.clk.step = .derived → s.clk.retried = true → s.get PWR_STATUS.state = 4 → exec .clockStepTimeout s = .next (s.wakeFail 5).settle) ∧
    (s.clk.step = .hold → exec .resetHoldRetry s = .next (State.startUpGo { s with clk := { s.clk with step := .qualify, retried := false } }).settle) ∧
    (∀ (n : Isl) (d : Nat), (s.isl n.val ≠ 2 ∨ (s.islSt n.val).step = .rejoin) → mget n.val s.clk.target = some d →
      let u := s.rampStep n.val d
      let v := s.get (CLK_ISL_STATUS.div n.val)
      (u.ramps = true → exec (.dividerRampStep n) s = .next u.settle) ∧
      (u.ramps = false → exec (.dividerRampStep n) s = .next (match u.clk.switch with
        | .ease => { u with clk := { u.clk with switch := .relock } }
        | .restore => u.switchEnd
        | _ => u).settle) ∧
      (v < 511 → u.get (CLK_ISL_STATUS.div n.val) = if v < d then v + 1 else v - 1)) ∧
    (∀ n : Isl, Config.islandFeed n.val = 1 → ((s.sil.step = .apply ∧ s.get SIL_STATUS.partial = 0 ∧ n ≠ 23) ∨
        (s.pwr.step = .wakeRestore ∧ (s.pwr.structuredBefore = true ∨ n = 23)) ∨ (s.pwr.step = .bootLink ∧ n = 23)) →
      exec (.fixedIslandRelease n) s = .next (s.leaveOff n.val).settle) ∧
    (s.clk.switch = .relock → exec .relockTimeout s = .next (State.setSrc
      (((s.put CLK_EVENT.relock_fail 1).inc CLK_RELOCK_FAIL_CNT.count).clrBit CLK_STATUS.qual s.clk.fallback) s.clk.fallback
      { stable := false, tripped := true }).clkSettle.settle) ∧
    (∀ k, s.get CLK_SRC_CFG.revertive ≠ 0 → s.get CLK_SRC_CFG.manual = 0 → s.clk.switch = .none → s.get CLK_STATUS.spll_state = 2 → s.selected = some k →
      s.prioOf k < s.prioOf (s.get CLK_STATUS.active) → exec .revertiveSwitch s = .next (s.easeBegin k).settle) ∧
    (∀ d : BitVec 32, exec (.clkSrcWrite d) s = .next (s.clkSrcWrite d.toNat).settle)

/-! ## Power -/

/-- From R474, R475, R480, R481: a feed that is lost is shown, counted and logged, and with the other lost as well the device loses power;
one that returns is shown, the first starting the boot order; a rail fault is shown and resets the islands that the rail feeds (which
islands VHBM, VSRAM, VPHY and VCORE_AON feed is the model's reading: DEDUCED, log 58); a set point is acknowledged by an output within 3
%, written once more after 5 ms, and then failed, each write and read a transaction with its PEC; v_low is asked for when the load has
stayed low. Completion: exec answers a next state with its own effect, under the conditions on the state and the operands that stand
before its clauses, for each of feedLoss, feedRestore, feedSample, railFault, supplyVoutPoll, supplyNegTimeout, loadLower. -/
def Obligations.FeedsRailsAndTheSupplyPort : Prop :=
  ∀ s : State,
    (∀ hi : Bool, s.get PWR_STATUS.feed_a_ok ≠ 0 → s.get PWR_STATUS.feed_b_ok ≠ 0 →
      (let w := ((s.put PWR_STATUS.feed_a_ok 0).put PWR_EVENT.feed_a_lost 1).inc PWR_FEED_LOSS_CNT.count
       exec (.feedLoss false hi) s = .next ((if hi then w.put PWR_EVENT.feed_ov 1 else w).tlogEvent .pwr 1 0).settle) ∧
      (let w := ((s.put PWR_STATUS.feed_b_ok 0).put PWR_EVENT.feed_b_lost 1).inc PWR_FEED_LOSS_CNT.count
       exec (.feedLoss true hi) s = .next ((if hi then w.put PWR_EVENT.feed_ov 1 else w).tlogEvent .pwr 2 0).settle)) ∧
    (∀ hi : Bool, s.get PWR_STATUS.feed_a_ok ≠ 0 → s.get PWR_STATUS.feed_b_ok = 0 → ∃ u : State, exec (.feedLoss false hi) s = .next u.powerLost.settle) ∧
    (∀ u : State, u.powerLost.get PWR_STATUS.state = 0 ∧ u.powerLost.us = 0 ∧ u.powerLost.structured = false ∧ u.powerLost.kv.slots = [] ∧ u.powerLost.mem = []) ∧
    (s.get PWR_STATUS.feed_a_ok = 0 → s.get PWR_STATUS.feed_b_ok = 0 → s.pwr.resetN = false → ∀ b : Bool, ∃ u : State,
      exec (.feedRestore b) s = .next u.settle ∧ u.pwr.step = .feed ∧ u.get (if b then PWR_STATUS.feed_b_ok else PWR_STATUS.feed_a_ok) = 1) ∧
    ((s.get PWR_STATUS.feed_a_ok ≠ 0 ∨ s.get PWR_STATUS.feed_b_ok ≠ 0) →
      exec (.feedRestore true) s = .next (s.put PWR_STATUS.feed_b_ok 1).settle ∧
      (∀ a b : BitVec 16, exec (.feedSample a b) s = .next ((s.put PWR_FEED.vin_a_mv a.toNat).put PWR_FEED.vin_b_mv b.toNat).settle)) ∧
    exec (.railFault .vio) s = .next (s.put PWR_EVENT.rail_fault 1).settle ∧
    exec (.railFault .vcoreAon) s = .next ((s.deviceReset .none).bootGo.put PWR_EVENT.rail_fault 1).settle ∧
    (s.get PWR_STATUS.state = 1 →
      exec (.railFault .vhbm) s = .next ([24, 25, 26, 27].foldl (fun u n => State.resetIsland u n 4) (s.put PWR_EVENT.rail_fault 1)).settle ∧
      exec (.railFault .vcore) s =
        .next (((List.range 27).map (· + 1)).foldl (fun u n => State.resetIsland u n 4) (s.put PWR_EVENT.rail_fault 1)).settle ∧
      exec (.railFault .vsram) s = .next (s.put PWR_EVENT.rail_fault 1).settle ∧
      exec (.railFault .vphy) s = .next (s.put PWR_EVENT.rail_fault 1).settle) ∧
    (s.pwr.neg ≠ .none → ∀ v : BitVec 14,
      let w := s.supplyRead v.toNat
      w.get PWR_SUP_STATUS.vout_mv = v.toNat ∧ w.pwr.supply = [supplyMsg (s.get PWR_SUP_CFG.addr) 0x8B true (s.voutData (10 * v.toNat))] ∧
      (97 * s.pwr.negSet ≤ 10 * v.toNat → 10 * v.toNat ≤ 103 * s.pwr.negSet → exec (.supplyVoutPoll v) s = .next (w.negEnd true).settle) ∧
      (10 * v.toNat < 97 * s.pwr.negSet ∨ 103 * s.pwr.negSet < 10 * v.toNat → exec (.supplyVoutPoll v) s = .next w.settle)) ∧
    (s.pwr.neg ≠ .none → s.pwr.negRetried = false → exec .supplyNegTimeout s = .next (State.settle
      { s.supplyWrite s.pwr.negSet with pwr := { (s.supplyWrite s.pwr.negSet).pwr with negRetried := true } })) ∧
    (∀ u : State, ∀ n : Nat, (u.supplyWrite n).get PWR_SUP_STATUS.setpoint = n % 2 ^ PWR_SUP_STATUS.setpoint.width ∧
      (u.supplyWrite n).pwr.supply = [supplyMsg (u.get PWR_SUP_CFG.addr) 0x20 true [u.pwr.voutMode],
        supplyMsg (u.get PWR_SUP_CFG.addr) 0x21 false (u.voutData (100 * n))]) ∧
    (s.pwr.neg ≠ .none → s.pwr.negRetried = true → exec .supplyNegTimeout s = .next (s.negEnd false).settle) ∧
    (s.get PWR_SUP_CFG.en ≠ 0 → s.pwr.neg = .none → s.est ≤ 10 * (s.get PWR_SUP_CFG.thr_w - 10) →
      exec .loadLower s = .next (State.settle { s.supplyWrite (s.get PWR_SUP_CFG.v_low) with
        pwr := { (s.supplyWrite (s.get PWR_SUP_CFG.v_low)).pwr with inForce := s.get PWR_SUP_CFG.v_low } }))

/-- From R484 to R489: Standby is entered in order, Stop, Drain, Save and Off, at the host's request with every tree Off or Dark and no load
running; a drain that takes too long goes back to Run; Save releases the interlock and overwrites the keys. A wake and the boot order go
from step to step, each step that passes its limit being run once more; RESET_N starts the boot order again. Completion: exec answers a
next state with its own effect, under the conditions on the state and the operands that stand before its clauses, for each of
standbyRequest, standbyStopEnd, standbyDrainEnd, standbyDrainTimeout, standbySaveEnd, standbyOffEnd, wakeRailsGood, wakeRestoreEnd,
wakeResumeEnd, wakeStepTimeout, bootFeedEnd, bootStepTimeout, bootIsland0End, bootRailsGood, bootLinkEnd, resetNAssert, resetNRelease. -/
def Obligations.StandbyWakeAndBoot : Prop :=
  ∀ s : State,
    (s.get PWR_STATUS.state = 1 →
      (s.allDark = true → s.get SIL_STATUS.busy = 0 → exec (.standbyRequest 0) s = .next (State.settle { s.put PWR_STATUS.state 2 with
        pwr := { s.pwr with step := .stop, retried := false, ingressOff := true }, link := { s.link with wakeHeld := 0 } })) ∧
      (s.allDark = false ∨ s.get SIL_STATUS.busy ≠ 0 → exec (.standbyRequest 0) s = .next (s.put PWR_EVENT.stby_refused 1).settle)) ∧
    (∀ r : Requester, r ≠ 0 → exec (.standbyRequest r) s = .next s.settle) ∧
    (s.pwr.step = .stop → exec .standbyStopEnd s = .next (s.pwrStep .drain).settle) ∧
    (s.pwr.step = .drain →
      (s.slotsUsed = [] → exec .standbyDrainEnd s = .next (s.pwrStep .save).settle) ∧
      (s.slotsUsed ≠ [] → exec .standbyDrainEnd s = .next s.settle) ∧
      exec .standbyDrainTimeout s = .next (State.settle { (s.put PWR_STATUS.state 1).put PWR_EVENT.stby_abort 1 with
        pwr := { s.pwr with step := .none, retried := false, ingressOff := false }, link := { s.link with wakeHeld := 0 } })) ∧
    (s.pwr.step = .save → ∃ u : State, exec .standbySaveEnd s = .next u.settle ∧ u.pwr.step = .off ∧ u.pwr.structuredBefore = s.structured ∧
      u.kv.slots = [] ∧ u.kv.roots = [] ∧ u.kv.keks = []) ∧
    (s.pwr.step = .off → s.link.wakeHeld = 0 → ∃ u : State, exec .standbyOffEnd s = .next u.settle ∧ u.get PWR_STATUS.state = 3) ∧
    (s.pwr.step = .wakeRails → exec .wakeRailsGood s = .next ((s.pwrStep .wakeClocks).clocksStart).settle) ∧
    (s.pwr.step = .wakeRestore → ∀ l : List (Fin 156), exec (.wakeRestoreEnd l) s = .next ((s.wakeRestore (l.map (·.val))).pwrStep .wakeResume).settle) ∧
    (s.pwr.step = .wakeResume → exec .wakeResumeEnd s = .next (State.settle { ((s.put PWR_STATUS.state 1).put PWR_EVENT.wake_done 1).inc PWR_WAKE_CNT.count with
      pwr := { s.pwr with step := .none, retried := false, ingressOff := false } })) ∧
    (s.pwr.step = .wakeRails ∨ s.pwr.step = .wakeRestore →
      (s.pwr.retried = false → exec .wakeStepTimeout s = .next (State.settle { s with pwr := { s.pwr with retried := true } })) ∧
      (s.pwr.retried = true → exec .wakeStepTimeout s = .next (s.wakeFail (if s.pwr.step = .wakeRails then 2 else 6)).settle)) ∧
    (s.pwr.step = .feed → exec .bootFeedEnd s = .next (s.pwrStep .island0).settle ∧ exec .bootStepTimeout s = .next (s.pwrStep .feed).settle) ∧
    (s.pwr.step = .island0 → exec .bootStepTimeout s = .next (s.pwrStep .feed).settle ∧ ∀ b : BitVec 3, ∃ u : State,
      exec (.bootIsland0End b) s = .next u.settle ∧ u.get WP_CFG.mgmt_addr = 0x58 + b.toNat % 4 ∧ u.get WP_CFG.wake_addr = 0x60 + b.toNat % 4 ∧
      u.get MGT_PROT_STATUS.prio = b.toNat / 4 ∧ (s.get PWR_SUP_CFG.en = 0 → u.pwr.step = .bootRails)) ∧
    (s.pwr.step = .bootRails → exec .bootRailsGood s = .next ((s.pwrStep .bootClocks).clocksStart).settle ∧
      (s.pwr.retried = true → exec .bootStepTimeout s = .next ((s.put PWR_EVENT.rail_fault 1).pwrStep .bootStopped).settle)) ∧
    (s.pwr.step = .bootLink → ∃ u : State, exec .bootLinkEnd s = .next u.settle ∧ u.get PWR_STATUS.state = 1 ∧ u.pwr.step = .none ∧
      u.pwr.retried = false ∧ bit1 (u.get WP_ALERT.sources) 2 = true) ∧
    (∃ u : State, exec .resetNAssert s = .next u.settle ∧ u.pwr.step = .resetHeld ∧ u.pwr.resetN = true ∧ u.get PWR_STATUS.state = 0 ∧
      u.get PWR_STATUS.feed_a_ok = s.get PWR_STATUS.feed_a_ok % 2 ∧ u.get MGT_PROT_STATUS.hold_in = s.get MGT_PROT_STATUS.hold_in % 2) ∧
    (s.pwr.resetN = true → (s.get PWR_STATUS.feed_a_ok ≠ 0 ∨ s.get PWR_STATUS.feed_b_ok ≠ 0) → exec .resetNRelease s =
      .next (State.settle { s with pwr := { s.pwr with resetN := false, step := .feed, retried := false } })) ∧
    (s.pwr.resetN = false → exec .resetNRelease s = .next s.settle)

/-! ## Reliability, spares and policy cores -/

/-- From R496, R499, R500, R503 to R508: a correctable error adds 1 to the level of its group and is counted, and the level that rises to
the threshold sets the summary bit of an armed group; a leak instant takes 1 from every level above 0 and arms a group at half the
threshold. A poisoned word reads as poison. An uncorrectable word becomes poison, is counted, recorded and logged, counts against the
part it lies in, which fails at enough of them within 1 s, and resets the island whose working state it held. Emptying the Trouble Log
leaves no entry. A failed part that does not serve changes nothing; one that serves enters the retirement record or is marked, and under
mode 0 no spare of its class is taken; while an Apply runs a spare waits for Release, but for a pseudo-channel (R75; DEDUCED, log 155).
A go written while the substitution of an earlier one runs is ignored (R9). A slice swap goes from Prepare to Switch, and ends when the
receive side is rebound. Completion: exec answers a next state with its own effect, under the conditions on the state and the operands
that stand before its clauses, for each of scrubRead, ceLeak, tlogClear, tlogWord0Read, wearThreshold, partFailure, relSwapPart,
relSwapApprove, slicePrepareEnd, slicePrepareTimeout, sliceRebindEnd. -/
def Obligations.ErrorsTroublesAndSpares : Prop :=
  ∀ s : State,
    (∀ g : Fin 32, ∀ (a : BitVec 40) (b : Bool),
      (s.readsPoison a.toNat = true → ∀ e, exec (.scrubRead g a e b) s = .next (s.inc REL_POISON_RD_CNT.count).settle) ∧
      (s.readsPoison a.toNat = false → exec (.scrubRead g a .ok b) s = .next s.settle) ∧
      (s.readsPoison a.toNat = false → ∃ u : State, exec (.scrubRead g a .correctable b) s = .next u.settle ∧
        u.get (REL_CE_LEVEL.value g.val) = min 65535 (s.get (REL_CE_LEVEL.value g.val) + 1) ∧
        u.get REL_CE_CNT.count = min (s.get REL_CE_CNT.count + 1) (2 ^ 32 - 1) ∧
        (s.ceThreshold ≤ s.get (REL_CE_LEVEL.value g.val) + 1 → s.get (REL_CE_LEVEL.value g.val) < 65535 → g.val ∉ s.rel.disarmed →
          bit1 (u.get REL_CE_SUMMARY.value) g.val = true ∧ g.val ∈ u.rel.disarmed) ∧
        (s.get (REL_CE_LEVEL.value g.val) + 1 < s.ceThreshold → u.get REL_CE_SUMMARY.value = s.get REL_CE_SUMMARY.value ∧ u.rel = s.rel))) ∧
    (∀ g : Fin 32, ∀ a : BitVec 40, 0x1000000000 ≤ a.toNat → s.readsPoison a.toNat = false →
      ∃ u : State, exec (.scrubRead g a .uncorrectable false) s = .next (u.ueCount a.toNat).settle ∧
        exec (.scrubRead g a .uncorrectable true) s = .next ((u.ueCount a.toNat).resetIsland g.val 4).settle ∧
        u.poisoned (a.toNat / 8 * 8) = true ∧ u.get REL_UE_CNT.count = min (s.get REL_UE_CNT.count + 1) (2 ^ 32 - 1) ∧
        u.get REL_UE_LAST.last = (g.val + a.toNat % 2 ^ 24 * 256) % 2 ^ 32 ∧ u.get REL_EVENT.ue = 1 ∧ u.rel.tlogSeq = s.rel.tlogSeq + 1 ∧
        mget (s.get REL_TLOG_HEAD.head) u.rel.tlog =
          some ⟨s.rel.tlogSeq % 65536, 0x03, 0x16, (g.val + a.toNat % 2 ^ 24 * 256) % 2 ^ 32, s.us⟩) ∧
    (∀ a, s.uePart a = none → s.ueCount a = s) ∧
    (∀ a c p n, s.uePart a = some (c, p, n) →
      let l := ((mgetD (c * 4096 + p) [] s.rel.ueUs).filter fun u => decide (s.us < u + 1000000)) ++ [s.us]
      (l.length < n → s.ueCount a = { s with rel := { s.rel with ueUs := mset (c * 4096 + p) l s.rel.ueUs } }) ∧
      (n ≤ l.length → s.ueCount a = State.failPart { s with rel := { s.rel with ueUs := mdel (c * 4096 + p) s.rel.ueUs } } c p)) ∧
    (∃ u : State, exec .ceLeak s = .next u.settle ∧ ∀ g < 32, u.get (REL_CE_LEVEL.value g) = (s.get (REL_CE_LEVEL.value g) - 1) % 2 ^ 32 ∧
      (g ∈ u.rel.disarmed ↔ g ∈ s.rel.disarmed ∧ s.ceThreshold / 2 < s.get (REL_CE_LEVEL.value g) - 1)) ∧
    (∃ u : State, exec .tlogClear s = .next u.settle ∧ u.rel.tlog = [] ∧ u.rel.tlogSeq = 0 ∧ u.get REL_TLOG_HEAD.head = 0 ∧ u.get REL_TLOG_HEAD.wrapped = 0) ∧
    (∀ (r : Requester) (e : Fin 64),
      (mget e.val s.rel.tlog = none → ∃ u : State, exec (.tlogWord0Read r e) s = .next u.settle ∧ u.last = ⟨r.val, 0, [0]⟩) ∧
      (∀ x, mget e.val s.rel.tlog = some x → ∃ u : State, exec (.tlogWord0Read r e) s = .next u.settle ∧
        u.last = ⟨r.val, 0, [BitVec.ofNat 64 (x.seq % 65536 * 65536 + x.kind * 256 + x.source)]⟩ ∧ mget (r.val * 64 + e.val) u.rel.tlogLatch = some x)) ∧
    (∀ (c : BitVec 4) (p : BitVec 12),
      (∃ u : State, exec (.wearThreshold c p) s = .next (u.wornPart c.toNat p.toNat).settle ∧
        ∀ k, s.wearOf c.toNat p.toNat = some k → u.get (REL_WEAR.wear_pct k) = max (s.get (REL_WEAR.wear_pct k)) (s.wearThr c.toNat) % 128) ∧
      exec (.partFailure c p) s = .next (s.failPart c.toNat p.toNat).settle) ∧
    (∀ c p, c ≠ 1 → s.partServes c p = false → s.failPart c p = s) ∧
    (∀ p, (∀ w ∈ s.rel.swaps, w.lane ≠ p) →
      (s.partServes 1 p = false → s.failPart 1 p = s) ∧
      (s.partServes 1 p = true → (s.partOut 1 p).spareFor 1 p = true →
        (s.swapMode 1 = 0 → s.failPart 1 p = ((s.partOut 1 p).spareLoss 1 p).sliceLoss p) ∧
        (s.swapMode 1 = 1 → s.failPart 1 p = (s.partOut 1 p).bringInOrDefer 1 p))) ∧
    (∀ c p, (s.sil.step = .apply → c ≠ 3 → s.bringInOrDefer c p = { s with sil := { s.sil with deferredSwaps := s.sil.deferredSwaps ++ [(c, p)] } }) ∧
      (s.sil.step ≠ .apply ∨ c = 3 → s.bringInOrDefer c p = (s.unfail c p).bringIn c p)) ∧
    (∀ c p, s.partServes c p = true → c = 2 → s.swapMode c = 0 → (s.partOut c p).spareFor c p = true → s.sil.step ≠ .apply →
      s.failPart c p = ((s.partOut c p).unfail c p |>.bringIn c p).mirState) ∧
    (∀ c p, s.partServes c p = true → c ≠ 1 → c ≠ 2 → c ≠ 3 → c ≠ 7 → c ≠ 8 → s.swapMode c = 0 → (s.partOut c p).spareFor c p = true →
      s.failPart c p = ((((s.partOut c p).markFailed c p).spareLoss c p).lossOf c p).mirState) ∧
    (∀ d : BitVec 32,
      let one := s.swapCmd (withBits (withBits d.toNat 24 4 1) 31 1 1)
      let two := s.swapCmd (withBits (withBits d.toNat 24 4 2) 31 1 1)
      let c := bitsOf d.toNat 20 4
      let p := bitsOf d.toNat 0 12
      (s.goRuns = true → exec (.relSwapPart d) s = .next one.settle ∧ exec (.relSwapApprove d) s = .next two.settle) ∧
      (s.goRuns = false → exec (.relSwapPart d) s = .next ((one.swapPart c p).goMark c p).settle ∧
        exec (.relSwapApprove d) s = .next ((two.approveSwap c).goMark c (s.get (REL_SPARE.pending_part (c - 1)))).settle)) ∧
    (∀ c, s.get (REL_SPARE.pending (c - 1)) = 0 → s.approveSwap c = s) ∧
    (∀ lane : Fin 64,
      (s.swapAt lane.val .prepare = none → exec (.slicePrepareEnd lane) s = .next s.settle ∧ exec (.slicePrepareTimeout lane) s = .next s.settle) ∧
      (∀ w, s.swapAt lane.val .prepare = some w → ∃ u : State, exec (.slicePrepareEnd lane) s = .next u.settle ∧
        u.swapAt lane.val .prepare = none ∧ { w with step := .switch } ∈ u.rel.swaps) ∧
      (∀ w, s.swapAt lane.val .prepare = some w → (s.retireSlice (lane.val / 32) w.spare).freeSlice (lane.val / 32) = none → w.failed = false →
        ∃ u : State, exec (.slicePrepareTimeout lane) s = .next u.settle ∧ u.get REL_EVENT.exhausted = 1 ∧ (∀ x ∈ u.rel.swaps, x.lane ≠ lane.val)) ∧
      (∀ w sl, s.swapAt lane.val .prepare = some w → (s.retireSlice (lane.val / 32) w.spare).freeSlice (lane.val / 32) = some sl →
        ∃ u : State, exec (.slicePrepareTimeout lane) s = .next u.settle ∧ { w with spare := sl } ∈ u.rel.swaps) ∧
      (∀ w, s.swapAt lane.val .upstream = some w → ∃ u : State, exec (.sliceRebindEnd lane) s = .next u.settle ∧ ∀ x ∈ u.rel.swaps, x.lane ≠ lane.val))

/-- From R509, R510, R515, R516: a crash of an active core is counted and logged and the core restarts; the third within 60 s retires it; a
core that has restarted is active. A firmware load is accepted only in Structured, and a failed check reports its error and leaves the
running image. A read of a TAKE register returns the index of the written entry with the lowest seq and takes it; DONE frees only a
taken entry and ageing only a written one, which is counted. Hardware takes the entries of a send ring in order, skipping and counting
one out of range. Completion: exec answers a next state with its own effect, under the conditions on the state and the operands that
stand before its clauses, for each of polWatchdogExpiry, polFatalTrap, polCoreRestarted, polFwLoad, wqTake, wqDone, wqItemAged,
sendRingEntry. -/
def Obligations.CoresQueuesAndRings : Prop :=
  ∀ s : State,
    (∀ c : Fin 10,
      (s.get (POL_CORE.state c.val) ≠ 0 → exec (.polWatchdogExpiry c) s = .next s.settle ∧ exec (.polFatalTrap c) s = .next s.settle) ∧
      (s.get (POL_CORE.state c.val) = 0 → ((mgetD c.val [] s.rel.crashUs).filter fun u => decide (s.us < u + 60000000)).length < 2 →
        ∃ u v : State, exec (.polWatchdogExpiry c) s = .next u.settle ∧ exec (.polFatalTrap c) s = .next v.settle ∧
          u.get (POL_CORE.state c.val) = 2 ∧ v.get (POL_CORE.state c.val) = 2 ∧ u.get (POL_CORE.last_reason c.val) = 1 ∧ v.get (POL_CORE.last_reason c.val) = 2 ∧
          u.get POL_CRASH_CNT.count = min (s.get POL_CRASH_CNT.count + 1) (2 ^ 32 - 1) ∧ u.rel.tlogSeq = s.rel.tlogSeq + 1 ∧
          u.get MGT_INT_AUX.pol_crash = 1) ∧
      (s.get (POL_CORE.state c.val) = 0 → 2 ≤ ((mgetD c.val [] s.rel.crashUs).filter fun u => decide (s.us < u + 60000000)).length →
        ∃ u v : State, exec (.polWatchdogExpiry c) s = .next (u.failPart 4 c.val).settle ∧ exec (.polFatalTrap c) s = .next (v.failPart 4 c.val).settle ∧
          u.partServes 4 c.val = true ∧ v.partServes 4 c.val = true) ∧
      (s.get (POL_CORE.state c.val) ≠ 2 → exec (.polCoreRestarted c) s = .next s.settle) ∧
      (s.get (POL_CORE.state c.val) = 2 → s.rel.fwLoading = false → exec (.polCoreRestarted c) s = .next (s.put (POL_CORE.state c.val) 0).settle)) ∧
    ((s.structured = false ∨ s.rel.fwLoading = true) → exec .polFwLoad s = .next s.settle) ∧
    (s.structured = true → s.rel.fwLoading = false → ∃ u : State, exec .polFwLoad s = .next u.settle ∧
      (if s.fwErr = 0 then u.get POL_FW_STATUS.error = 0 ∧ u.get POL_FW_STATUS.svn = s.fwN 14 2 % 256
       else u = (s.put POL_FW_STATUS.error s.fwErr).set1 MGT_INT_AUX.fw_load_failed)) ∧
    (s.fwN 0 4 ≠ 0x4E424657 → s.fwErr = 1) ∧
    (∀ (r : Requester) (c : Fin 10),
      (s.wqOldest c.val = none → exec (.wqTake r c) s = .next (s.answer r.val 0 [0]).settle) ∧
      (∀ k e, s.wqOldest c.val = some (k, e) → ∃ u : State, exec (.wqTake r c) s = .next u.settle ∧
        u.last = ⟨r.val, 0, [BitVec.ofNat 64 (2 ^ 31 + k % 4096)]⟩ ∧ mget k u.rel.wq = some { e with state := .taken })) ∧
    (∀ c k e, s.wqOldest c = some (k, e) → k / 4096 = c ∧ e.state = .written ∧
      ∀ x ∈ s.rel.wq, x.1 / 4096 = c → x.2.state = .written → e.seq ≤ x.2.seq) ∧
    (∀ (c : Fin 10) (d : BitVec 32),
      (∀ x, mget (wqKey c.val (d.toNat % 4096)) s.rel.wq = some x → x.state = .taken → ∃ u : State, exec (.wqDone c d) s = .next u.settle ∧
        mget (wqKey c.val (d.toNat % 4096)) u.rel.wq = none) ∧
      ((∀ x, mget (wqKey c.val (d.toNat % 4096)) s.rel.wq = some x → x.state ≠ .taken) → exec (.wqDone c d) s = .next s.settle)) ∧
    (∀ (c : Fin 10) (e : BitVec 12),
      (∀ x, mget (wqKey c.val e.toNat) s.rel.wq = some x → x.state = .written → ∃ u : State, exec (.wqItemAged c e) s = .next u.settle ∧
        mget (wqKey c.val e.toNat) u.rel.wq = none ∧ u.get POL_WQ_AGED_CNT.count = min (s.get POL_WQ_AGED_CNT.count + 1) (2 ^ 32 - 1)) ∧
      ((∀ x, mget (wqKey c.val e.toNat) s.rel.wq = some x → x.state ≠ .written) → exec (.wqItemAged c e) s = .next s.settle)) ∧
    (∀ (c : Fin 10) (sl : Slice),
      let e := s.get (POL_TX_CONS.index c.val sl.val)
      let w := s.tword (s.txAddr c.val sl.val e)
      let len := bitsOf w 46 14
      let resv := (s.bytesAt (s.txAddr c.val sl.val e + 8) 24).any (· != 0)
      (e = s.get (POL_TX_PROD.index c.val sl.val) → exec (.sendRingEntry c sl) s = .next s.settle) ∧
      (e ≠ s.get (POL_TX_PROD.index c.val sl.val) → e < 8191 → e + 1 < s.get POL_RING_CFG.tx_size →
        (excWordOk w len = true → resv = false → ∃ u : State, exec (.sendRingEntry c sl) s = .next u.settle ∧
          u.get (POL_TX_CONS.index c.val sl.val) = e + 1 ∧
          (∀ f ∈ s.pr.frames, f.id ≠ s.pr.nextId → f ∈ u.pr.frames) ∧ ∃ f ∈ u.pr.frames, f.id = s.pr.nextId ∧
            f.octets = s.bytesAt (s.txAddr c.val sl.val e + 32) len ++ fcsOctets (s.bytesAt (s.txAddr c.val sl.val e + 32) len)) ∧
        (excWordOk w len = false ∨ resv = true → ∃ u : State, exec (.sendRingEntry c sl) s = .next u.settle ∧
          u.get (POL_TX_CONS.index c.val sl.val) = e + 1 ∧ u.pr = s.pr ∧
          u.get POL_TX_BAD_CNT.count = min (s.get POL_TX_BAD_CNT.count + 1) (2 ^ 32 - 1))))
end

