-- ==== Sys2Proof/Laws/Maps.lean ====
section
/-! SUPPORT. Laws of the sparse maps and of the register fields: what a read after a write gives, and that every operation
keeps the canonical form. -/

namespace Sys2Proof.Machine

variable {β : Type}

@[simp] theorem mget_nil (k : Nat) : mget k ([] : List (Nat × β)) = none := rfl

theorem mget_cons (k j : Nat) (w : β) (m : List (Nat × β)) :
    mget k ((j, w) :: m) = if j = k then some w else mget k m := rfl

/-- A key below the bound of a rising map is not in it. -/
theorem mget_below {b k : Nat} {m : List (Nat × β)} (h : risingFrom b m = true) (hk : k < b) : mget k m = none := by
  induction m generalizing b with
  | nil => rfl
  | cons e m ih =>
    obtain ⟨j, w⟩ := e
    simp only [risingFrom, Bool.and_eq_true, decide_eq_true_eq] at h
    rw [mget_cons, if_neg (by omega)]
    exact ih h.2 (by omega)

@[simp] theorem mget_mset_self (k : Nat) (v : β) (m : List (Nat × β)) : mget k (mset k v m) = some v := by
  induction m with
  | nil => simp [mset, mget]
  | cons e m ih =>
    obtain ⟨j, w⟩ := e
    simp only [mset]
    split
    · simp [mget]
    · split
      · simp [mget]
      · rename_i h
        simpa [mget, Ne.symm h] using ih

theorem mget_mset_other {k k' : Nat} (h : k' ≠ k) (v : β) (m : List (Nat × β)) : mget k' (mset k v m) = mget k' m := by
  induction m with
  | nil => simp [mset, mget, h.symm]
  | cons e m ih =>
    obtain ⟨j, w⟩ := e
    simp only [mset]
    split
    · simp [mget, h.symm]
    · split
      · rename_i hj
        subst hj
        simp [mget, h.symm]
      · simp only [mget_cons, ih]

@[simp] theorem mget_mdel_self (k : Nat) (m : List (Nat × β)) : mget k (mdel k m) = none := by
  induction m with
  | nil => rfl
  | cons e m ih =>
    obtain ⟨j, w⟩ := e
    by_cases h : j = k
    · simpa [mdel, h] using ih
    · simpa [mdel, mget, h] using ih

theorem mget_mdel_other {k k' : Nat} (h : k' ≠ k) (m : List (Nat × β)) : mget k' (mdel k m) = mget k' m := by
  induction m with
  | nil => rfl
  | cons e m ih =>
    obtain ⟨j, w⟩ := e
    by_cases hj : j = k
    · subst hj
      simpa [mdel, mget, h.symm] using ih
    · by_cases hk : j = k'
      · subst hk
        simp [mdel, mget, hj]
      · simpa [mdel, mget, hj, hk] using ih

@[simp] theorem mgetD_mset_self (k : Nat) (d v : β) (m : List (Nat × β)) : mgetD k d (mset k v m) = v := by simp [mgetD]

theorem mgetD_mset_other {k k' : Nat} (h : k' ≠ k) (d v : β) (m : List (Nat × β)) :
    mgetD k' d (mset k v m) = mgetD k' d m := by simp [mgetD, mget_mset_other h]

@[simp] theorem mgetD_mmod_self (k : Nat) (d : β) (f : β → β) (m : List (Nat × β)) :
    mgetD k d (mmod k d f m) = f (mgetD k d m) := by simp [mmod]

theorem mgetD_mmod_other {k k' : Nat} (h : k' ≠ k) (d d' : β) (f : β → β) (m : List (Nat × β)) :
    mgetD k' d' (mmod k d f m) = mgetD k' d' m := by simp [mmod, mgetD_mset_other h]

@[simp] theorem mgetD_nset_self (k v : Nat) (m : List (Nat × Nat)) : mgetD k 0 (nset k v m) = v := by
  unfold nset
  split
  · simp [mgetD, *]
  · simp

theorem mgetD_nset_other {k k' : Nat} (h : k' ≠ k) (v : Nat) (m : List (Nat × Nat)) :
    mgetD k' 0 (nset k v m) = mgetD k' 0 m := by
  unfold nset
  split
  · simp [mgetD, mget_mdel_other h]
  · exact mgetD_mset_other h 0 v m

/-- A map stays rising when a value is set at a key not below its bound. -/
theorem rising_mset {b k : Nat} (v : β) {m : List (Nat × β)} (h : risingFrom b m = true) (hk : b ≤ k) :
    risingFrom b (mset k v m) = true := by
  induction m generalizing b with
  | nil => simp [mset, risingFrom, hk]
  | cons e m ih =>
    obtain ⟨j, w⟩ := e
    simp only [risingFrom, Bool.and_eq_true, decide_eq_true_eq] at h
    simp only [mset]
    split
    · simp [risingFrom, hk, h.2]; omega
    · split
      · rename_i hj
        subst hj
        simp [risingFrom, hk, h.2]
      · have := ih h.2 (by omega)
        simp [risingFrom, h.1, this]

theorem rising_weaken {b c : Nat} {m : List (Nat × β)} (h : risingFrom b m = true) (hc : c ≤ b) : risingFrom c m = true := by
  cases m with
  | nil => rfl
  | cons e m =>
    obtain ⟨j, w⟩ := e
    simp only [risingFrom, Bool.and_eq_true, decide_eq_true_eq] at h ⊢
    exact ⟨by omega, h.2⟩

/-- A map stays rising when entries are filtered out. -/
theorem rising_filter {b : Nat} (p : Nat × β → Bool) {m : List (Nat × β)} (h : risingFrom b m = true) :
    risingFrom b (m.filter p) = true := by
  induction m generalizing b with
  | nil => rfl
  | cons e m ih =>
    obtain ⟨j, w⟩ := e
    simp only [risingFrom, Bool.and_eq_true, decide_eq_true_eq] at h
    rw [List.filter_cons]
    split
    · simp [risingFrom, h.1, ih h.2]
    · exact rising_weaken (ih h.2) (by omega)

theorem all_mset {p : Nat × β → Bool} {k : Nat} {v : β} {m : List (Nat × β)} (h : m.all p = true) (hv : p (k, v) = true) :
    (mset k v m).all p = true := by
  induction m with
  | nil => simp [mset, hv]
  | cons e m ih =>
    obtain ⟨j, w⟩ := e
    simp only [List.all_cons, Bool.and_eq_true] at h
    simp only [mset]
    split
    · simp [hv, h.1, h.2]
    · split
      · simp [hv, h.2]
      · simp [h.1, ih h.2]

theorem all_filter {p q : Nat × β → Bool} {m : List (Nat × β)} (h : m.all p = true) : (m.filter q).all p = true := by
  simp only [List.all_eq_true] at h ⊢
  intro x hx
  exact h x (List.mem_filter.mp hx).1

/-- The canonical form of a map of numbers is kept by a set. -/
theorem numWf_nset (k v : Nat) {m : List (Nat × Nat)} (h : numWf m = true) : numWf (nset k v m) = true := by
  simp only [numWf, Bool.and_eq_true] at h ⊢
  unfold nset
  split
  · exact ⟨rising_filter _ h.1, all_filter h.2⟩
  · rename_i hv
    exact ⟨rising_mset v h.1 (Nat.zero_le k), all_mset h.2 (by simpa using hv)⟩

/-! ## Register fields -/

/-- A field reads the value put into it, cut to its width. -/
theorem State.get_put_self (s : State) (f : Fld) (v : Nat) : (s.put f v).get f = v % 2 ^ f.width := by
  simp [State.get, State.put]

/-- A field of another key reads as before. -/
theorem State.get_put_other {f g : Fld} (h : g.key ≠ f.key) (s : State) (v : Nat) : (s.put f v).get g = s.get g := by
  simp [State.get, State.put, mgetD_nset_other h]

/-- The canonical form of the register fields is kept. -/
theorem State.put_wf {s : State} (f : Fld) (v : Nat) (h : numWf s.fld = true) : numWf (s.put f v).fld = true :=
  numWf_nset _ _ h

theorem State.incBy_eq (s : State) (f : Fld) (n : Nat) : s.incBy f n = s.put f (min (s.get f + n) (2 ^ f.width - 1)) := rfl

/-- A counter saturates at its greatest value (R11). -/
theorem State.get_incBy_self (s : State) (f : Fld) (n : Nat) :
    (s.incBy f n).get f = min (s.get f + n) (2 ^ f.width - 1) := by
  rw [State.incBy_eq, State.get_put_self, Nat.mod_eq_of_lt]
  have : 0 < 2 ^ f.width := Nat.two_pow_pos _
  omega

/-- At reset every field reads its reset value (R9, R13). -/
theorem State.reset_get (f : Fld) : State.reset.get f = f.rst := by simp [State.reset, State.get, mgetD]

end Sys2Proof.Machine
end

