-- ==== Sys2Proof/Laws/Memory.lean ====
section
/-! SUPPORT. Laws of memory: read after write, and that every memory operation keeps the canonical form. -/

namespace Sys2Proof.Machine

@[simp] theorem memGet_nil (a : Nat) : memGet a [] = unwritten := rfl

theorem memGet_below {b a : Nat} {m : List Host.Cell} (h : risingFrom b m = true) (ha : a < b) : memGet a m = unwritten := by
  induction m generalizing b with
  | nil => rfl
  | cons e m ih =>
    obtain ⟨j, w⟩ := e
    simp only [risingFrom, Bool.and_eq_true, decide_eq_true_eq] at h
    rw [memGet, if_neg (by omega)]
    exact ih h.2 (by omega)

theorem rising_memPut {b a : Nat} (v : Byte) {m : List Host.Cell} (h : risingFrom b m = true) (ha : b ≤ a) :
    risingFrom b (memPut a v m) = true := by
  induction m generalizing b with
  | nil => by_cases hv : v = unwritten <;> simp [memPut, hv, risingFrom, ha]
  | cons e m ih =>
    obtain ⟨j, w⟩ := e
    have h0 := h
    simp only [risingFrom, Bool.and_eq_true, decide_eq_true_eq] at h
    simp only [memPut]
    split
    · split
      · exact h0
      · simp [risingFrom, ha, h.2]; omega
    · split
      · rename_i hj
        subst hj
        split
        · exact rising_weaken h.2 (by omega)
        · simp [risingFrom, ha, h.2]
      · have := ih h.2 (by omega)
        simp [risingFrom, h.1, this]

theorem all_memPut {a : Nat} (v : Byte) {m : List Host.Cell} (h : (m.all fun e => e.2 != unwritten) = true) :
    ((memPut a v m).all fun e => e.2 != unwritten) = true := by
  induction m with
  | nil => by_cases hv : v = unwritten <;> simp [memPut, hv]
  | cons e m ih =>
    obtain ⟨j, w⟩ := e
    have h0 := h
    simp only [List.all_cons, Bool.and_eq_true] at h
    simp only [memPut]
    split
    · split
      · exact h0
      · simp only [List.all_cons, Bool.and_eq_true]
        exact ⟨by simpa using ‹_›, h.1, h.2⟩
    · split
      · split
        · exact h.2
        · simp only [List.all_cons, Bool.and_eq_true]
          exact ⟨by simpa using ‹_›, h.2⟩
      · simp only [List.all_cons, Bool.and_eq_true]
        exact ⟨h.1, ih h.2⟩

/-- Writing one octet keeps the canonical form. -/
theorem memPut_wf (a : Nat) (v : Byte) {m : List Host.Cell} (h : Memory.wf m = true) : Memory.wf (memPut a v m) = true := by
  simp only [Memory.wf, Bool.and_eq_true] at h ⊢
  exact ⟨rising_memPut v h.1 (Nat.zero_le a), all_memPut v h.2⟩

/-- Writing octets keeps the canonical form. -/
theorem memPuts_wf (a : Nat) (l : List Byte) {m : List Host.Cell} (h : Memory.wf m = true) :
    Memory.wf (memPuts a l m) = true := by
  induction l generalizing a m with
  | nil => exact h
  | cons b l ih => exact ih (a + 1) (memPut_wf a b h)

/-- Dropping cells keeps the canonical form. -/
theorem mem_filter_wf (p : Host.Cell → Bool) {m : List Host.Cell} (h : Memory.wf m = true) :
    Memory.wf (m.filter p) = true := by
  simp only [Memory.wf, Bool.and_eq_true] at h ⊢
  exact ⟨rising_filter p h.1, all_filter h.2⟩

theorem State.putBytes_wf (s : State) (a : Nat) (l : List Byte) (h : Memory.wf s.mem = true) :
    Memory.wf (s.putBytes a l).mem = true := memPuts_wf a l h

theorem State.putWord_mem (s : State) (a v : Nat) : (s.putWord a v).mem = memPuts a (octetsBE 8 v) s.mem := by
  unfold State.putWord
  simp only
  split <;> rfl

theorem State.putWord_wf (s : State) (a v : Nat) (h : Memory.wf s.mem = true) : Memory.wf (s.putWord a v).mem = true := by
  rw [State.putWord_mem]
  exact memPuts_wf a _ h

theorem State.poisonWord_wf (s : State) (a : Nat) (h : Memory.wf s.mem = true) : Memory.wf (s.poisonWord a).mem = true :=
  memPuts_wf a _ h

theorem State.putBlock_wf (s : State) (a n : Nat) (l : List Byte) (h : Memory.wf s.mem = true) :
    Memory.wf (s.putBlock a n l).mem = true := memPuts_wf a _ (mem_filter_wf _ h)

theorem State.reset_mem_wf : Memory.wf State.reset.mem = true := rfl

/-- A read after a write of the same octet, in canonical memory. -/
theorem memGet_memPut_self (a : Nat) (v : Byte) {m : List Host.Cell} {b : Nat} (h : risingFrom b m = true) :
    memGet a (memPut a v m) = v := by
  induction m generalizing b with
  | nil => by_cases hv : v = unwritten <;> simp [memPut, hv, memGet]
  | cons e m ih =>
    obtain ⟨j, w⟩ := e
    simp only [risingFrom, Bool.and_eq_true, decide_eq_true_eq] at h
    simp only [memPut]
    split
    · split
      · rename_i hv
        rw [memGet, if_neg (by omega), hv, memGet_below h.2 (by omega)]
      · simp [memGet]
    · split
      · rename_i hj
        subst hj
        split
        · rename_i hv
          rw [hv, memGet_below h.2 (by omega)]
        · simp [memGet]
      · rename_i hj
        rw [memGet, if_neg (Ne.symm hj)]
        exact ih h.2

/-- A write leaves every other octet as it was, in any memory. -/
theorem memGet_memPut_other {a x : Nat} (hx : x ≠ a) (v : Byte) (m : List Host.Cell) :
    memGet x (memPut a v m) = memGet x m := by
  induction m with
  | nil => by_cases hv : v = unwritten <;> simp [memPut, hv, memGet, hx.symm]
  | cons e m ih =>
    obtain ⟨j, w⟩ := e
    simp only [memPut]
    split
    · split
      · rfl
      · simp [memGet, hx.symm]
    · split
      · rename_i hj
        subst hj
        split <;> simp [memGet, hx.symm]
      · simp only [memGet, ih]

theorem memGet_memPuts_other {a x : Nat} (l : List Byte) (hx : x < a ∨ a + l.length ≤ x) (m : List Host.Cell) :
    memGet x (memPuts a l m) = memGet x m := by
  induction l generalizing a m with
  | nil => rfl
  | cons b l ih =>
    simp only [List.length_cons] at hx
    rw [memPuts, ih (by omega), memGet_memPut_other (by omega)]

theorem memGet_memPuts_self (a i : Nat) (l : List Byte) (hi : i < l.length) {m : List Host.Cell} (h : Memory.wf m = true) :
    memGet (a + i) (memPuts a l m) = l[i] := by
  induction l generalizing a i m with
  | nil => simp at hi
  | cons b l ih =>
    cases i with
    | zero =>
      rw [memPuts, Nat.add_zero, memGet_memPuts_other _ (by omega)]
      simp only [Memory.wf, Bool.and_eq_true] at h
      simpa using memGet_memPut_self a b h.1
    | succ i =>
      simp only [List.length_cons] at hi
      have := ih (a + 1) i (by omega) (memPut_wf a b h)
      rw [show a + (i + 1) = a + 1 + i by omega]
      simpa [memPuts] using this

theorem State.byteAt_putBytes_other {s : State} {a x : Nat} (l : List Byte) (hx : x < a ∨ a + l.length ≤ x) :
    (s.putBytes a l).byteAt x = s.byteAt x := memGet_memPuts_other l hx s.mem

theorem State.bytesAt_putBytes_self {s : State} {a : Nat} {l : List Byte} (h : Memory.wf s.mem = true) :
    (s.putBytes a l).bytesAt a l.length = l := by
  apply List.ext_getElem
  · simp [State.bytesAt]
  · intro i h1 h2
    simp only [State.bytesAt, List.getElem_map, List.getElem_range]
    exact memGet_memPuts_self a i l h2 h

end Sys2Proof.Machine
end

