-- ==== Sys2Proof/Laws/State.lean ====
section
/-! SUPPORT. What each plain update of the state leaves as it was: one lemma per field per update. -/

namespace Sys2Proof.Machine

variable (s : State)

@[simp] theorem State.put_pending (f : Fld) (v : Nat) : (s.put f v).pending = s.pending := rfl
@[simp] theorem State.put_inputs (f : Fld) (v : Nat) : (s.put f v).inputs = s.inputs := rfl
@[simp] theorem State.put_mem (f : Fld) (v : Nat) : (s.put f v).mem = s.mem := rfl
@[simp] theorem State.put_poison (f : Fld) (v : Nat) : (s.put f v).poison = s.poison := rfl
@[simp] theorem State.put_us (f : Fld) (v : Nat) : (s.put f v).us = s.us := rfl
@[simp] theorem State.put_freeCtr (f : Fld) (v : Nat) : (s.put f v).freeCtr = s.freeCtr := rfl
@[simp] theorem State.put_latch (f : Fld) (v : Nat) : (s.put f v).latch = s.latch := rfl
@[simp] theorem State.put_todLatch (f : Fld) (v : Nat) : (s.put f v).todLatch = s.todLatch := rfl
@[simp] theorem State.put_last (f : Fld) (v : Nat) : (s.put f v).last = s.last := rfl
@[simp] theorem State.put_wpAnswer (f : Fld) (v : Nat) : (s.put f v).wpAnswer = s.wpAnswer := rfl
@[simp] theorem State.put_wpAck (f : Fld) (v : Nat) : (s.put f v).wpAck = s.wpAck := rfl
@[simp] theorem State.put_islands (f : Fld) (v : Nat) : (s.put f v).islands = s.islands := rfl
@[simp] theorem State.put_sil (f : Fld) (v : Nat) : (s.put f v).sil = s.sil := rfl
@[simp] theorem State.put_trees (f : Fld) (v : Nat) : (s.put f v).trees = s.trees := rfl
@[simp] theorem State.put_terms (f : Fld) (v : Nat) : (s.put f v).terms = s.terms := rfl
@[simp] theorem State.put_windows (f : Fld) (v : Nat) : (s.put f v).windows = s.windows := rfl
@[simp] theorem State.put_allocs (f : Fld) (v : Nat) : (s.put f v).allocs = s.allocs := rfl
@[simp] theorem State.put_ge (f : Fld) (v : Nat) : (s.put f v).ge = s.ge := rfl
@[simp] theorem State.put_fallback (f : Fld) (v : Nat) : (s.put f v).fallback = s.fallback := rfl
@[simp] theorem State.put_mir (f : Fld) (v : Nat) : (s.put f v).mir = s.mir := rfl
@[simp] theorem State.put_prot (f : Fld) (v : Nat) : (s.put f v).prot = s.prot := rfl
@[simp] theorem State.put_frer (f : Fld) (v : Nat) : (s.put f v).frer = s.frer := rfl
@[simp] theorem State.put_rx (f : Fld) (v : Nat) : (s.put f v).rx = s.rx := rfl
@[simp] theorem State.put_bc (f : Fld) (v : Nat) : (s.put f v).bc = s.bc := rfl
@[simp] theorem State.put_pr (f : Fld) (v : Nat) : (s.put f v).pr = s.pr := rfl
@[simp] theorem State.put_fwd (f : Fld) (v : Nat) : (s.put f v).fwd = s.fwd := rfl
@[simp] theorem State.put_jnl (f : Fld) (v : Nat) : (s.put f v).jnl = s.jnl := rfl
@[simp] theorem State.put_shm (f : Fld) (v : Nat) : (s.put f v).shm = s.shm := rfl
@[simp] theorem State.put_sch (f : Fld) (v : Nat) : (s.put f v).sch = s.sch := rfl
@[simp] theorem State.put_kv (f : Fld) (v : Nat) : (s.put f v).kv = s.kv := rfl
@[simp] theorem State.put_tu (f : Fld) (v : Nat) : (s.put f v).tu = s.tu := rfl
@[simp] theorem State.put_ports (f : Fld) (v : Nat) : (s.put f v).ports = s.ports := rfl
@[simp] theorem State.put_bench (f : Fld) (v : Nat) : (s.put f v).bench = s.bench := rfl
@[simp] theorem State.put_link (f : Fld) (v : Nat) : (s.put f v).link = s.link := rfl
@[simp] theorem State.put_clk (f : Fld) (v : Nat) : (s.put f v).clk = s.clk := rfl
@[simp] theorem State.put_pwr (f : Fld) (v : Nat) : (s.put f v).pwr = s.pwr := rfl
@[simp] theorem State.put_rel (f : Fld) (v : Nat) : (s.put f v).rel = s.rel := rfl
@[simp] theorem State.put_tap (f : Fld) (v : Nat) : (s.put f v).tap = s.tap := rfl
@[simp] theorem State.put_opt (f : Fld) (v : Nat) : (s.put f v).opt = s.opt := rfl
@[simp] theorem State.put_lanes (f : Fld) (v : Nat) : (s.put f v).lanes = s.lanes := rfl

@[simp] theorem State.set1_pending (f : Fld) : (s.set1 f).pending = s.pending := rfl
@[simp] theorem State.set1_inputs (f : Fld) : (s.set1 f).inputs = s.inputs := rfl
@[simp] theorem State.set1_mem (f : Fld) : (s.set1 f).mem = s.mem := rfl
@[simp] theorem State.set1_poison (f : Fld) : (s.set1 f).poison = s.poison := rfl
@[simp] theorem State.set1_us (f : Fld) : (s.set1 f).us = s.us := rfl
@[simp] theorem State.set1_freeCtr (f : Fld) : (s.set1 f).freeCtr = s.freeCtr := rfl
@[simp] theorem State.set1_latch (f : Fld) : (s.set1 f).latch = s.latch := rfl
@[simp] theorem State.set1_todLatch (f : Fld) : (s.set1 f).todLatch = s.todLatch := rfl
@[simp] theorem State.set1_last (f : Fld) : (s.set1 f).last = s.last := rfl
@[simp] theorem State.set1_wpAnswer (f : Fld) : (s.set1 f).wpAnswer = s.wpAnswer := rfl
@[simp] theorem State.set1_wpAck (f : Fld) : (s.set1 f).wpAck = s.wpAck := rfl
@[simp] theorem State.set1_islands (f : Fld) : (s.set1 f).islands = s.islands := rfl
@[simp] theorem State.set1_sil (f : Fld) : (s.set1 f).sil = s.sil := rfl
@[simp] theorem State.set1_trees (f : Fld) : (s.set1 f).trees = s.trees := rfl
@[simp] theorem State.set1_terms (f : Fld) : (s.set1 f).terms = s.terms := rfl
@[simp] theorem State.set1_windows (f : Fld) : (s.set1 f).windows = s.windows := rfl
@[simp] theorem State.set1_allocs (f : Fld) : (s.set1 f).allocs = s.allocs := rfl
@[simp] theorem State.set1_ge (f : Fld) : (s.set1 f).ge = s.ge := rfl
@[simp] theorem State.set1_fallback (f : Fld) : (s.set1 f).fallback = s.fallback := rfl
@[simp] theorem State.set1_mir (f : Fld) : (s.set1 f).mir = s.mir := rfl
@[simp] theorem State.set1_prot (f : Fld) : (s.set1 f).prot = s.prot := rfl
@[simp] theorem State.set1_frer (f : Fld) : (s.set1 f).frer = s.frer := rfl
@[simp] theorem State.set1_rx (f : Fld) : (s.set1 f).rx = s.rx := rfl
@[simp] theorem State.set1_bc (f : Fld) : (s.set1 f).bc = s.bc := rfl
@[simp] theorem State.set1_pr (f : Fld) : (s.set1 f).pr = s.pr := rfl
@[simp] theorem State.set1_fwd (f : Fld) : (s.set1 f).fwd = s.fwd := rfl
@[simp] theorem State.set1_jnl (f : Fld) : (s.set1 f).jnl = s.jnl := rfl
@[simp] theorem State.set1_shm (f : Fld) : (s.set1 f).shm = s.shm := rfl
@[simp] theorem State.set1_sch (f : Fld) : (s.set1 f).sch = s.sch := rfl
@[simp] theorem State.set1_kv (f : Fld) : (s.set1 f).kv = s.kv := rfl
@[simp] theorem State.set1_tu (f : Fld) : (s.set1 f).tu = s.tu := rfl
@[simp] theorem State.set1_ports (f : Fld) : (s.set1 f).ports = s.ports := rfl
@[simp] theorem State.set1_bench (f : Fld) : (s.set1 f).bench = s.bench := rfl
@[simp] theorem State.set1_link (f : Fld) : (s.set1 f).link = s.link := rfl
@[simp] theorem State.set1_clk (f : Fld) : (s.set1 f).clk = s.clk := rfl
@[simp] theorem State.set1_pwr (f : Fld) : (s.set1 f).pwr = s.pwr := rfl
@[simp] theorem State.set1_rel (f : Fld) : (s.set1 f).rel = s.rel := rfl
@[simp] theorem State.set1_tap (f : Fld) : (s.set1 f).tap = s.tap := rfl
@[simp] theorem State.set1_opt (f : Fld) : (s.set1 f).opt = s.opt := rfl
@[simp] theorem State.set1_lanes (f : Fld) : (s.set1 f).lanes = s.lanes := rfl

@[simp] theorem State.rst_pending (f : Fld) : (s.rst f).pending = s.pending := rfl
@[simp] theorem State.rst_inputs (f : Fld) : (s.rst f).inputs = s.inputs := rfl
@[simp] theorem State.rst_mem (f : Fld) : (s.rst f).mem = s.mem := rfl
@[simp] theorem State.rst_poison (f : Fld) : (s.rst f).poison = s.poison := rfl
@[simp] theorem State.rst_us (f : Fld) : (s.rst f).us = s.us := rfl
@[simp] theorem State.rst_freeCtr (f : Fld) : (s.rst f).freeCtr = s.freeCtr := rfl
@[simp] theorem State.rst_latch (f : Fld) : (s.rst f).latch = s.latch := rfl
@[simp] theorem State.rst_todLatch (f : Fld) : (s.rst f).todLatch = s.todLatch := rfl
@[simp] theorem State.rst_last (f : Fld) : (s.rst f).last = s.last := rfl
@[simp] theorem State.rst_wpAnswer (f : Fld) : (s.rst f).wpAnswer = s.wpAnswer := rfl
@[simp] theorem State.rst_wpAck (f : Fld) : (s.rst f).wpAck = s.wpAck := rfl
@[simp] theorem State.rst_islands (f : Fld) : (s.rst f).islands = s.islands := rfl
@[simp] theorem State.rst_sil (f : Fld) : (s.rst f).sil = s.sil := rfl
@[simp] theorem State.rst_trees (f : Fld) : (s.rst f).trees = s.trees := rfl
@[simp] theorem State.rst_terms (f : Fld) : (s.rst f).terms = s.terms := rfl
@[simp] theorem State.rst_windows (f : Fld) : (s.rst f).windows = s.windows := rfl
@[simp] theorem State.rst_allocs (f : Fld) : (s.rst f).allocs = s.allocs := rfl
@[simp] theorem State.rst_ge (f : Fld) : (s.rst f).ge = s.ge := rfl
@[simp] theorem State.rst_fallback (f : Fld) : (s.rst f).fallback = s.fallback := rfl
@[simp] theorem State.rst_mir (f : Fld) : (s.rst f).mir = s.mir := rfl
@[simp] theorem State.rst_prot (f : Fld) : (s.rst f).prot = s.prot := rfl
@[simp] theorem State.rst_frer (f : Fld) : (s.rst f).frer = s.frer := rfl
@[simp] theorem State.rst_rx (f : Fld) : (s.rst f).rx = s.rx := rfl
@[simp] theorem State.rst_bc (f : Fld) : (s.rst f).bc = s.bc := rfl
@[simp] theorem State.rst_pr (f : Fld) : (s.rst f).pr = s.pr := rfl
@[simp] theorem State.rst_fwd (f : Fld) : (s.rst f).fwd = s.fwd := rfl
@[simp] theorem State.rst_jnl (f : Fld) : (s.rst f).jnl = s.jnl := rfl
@[simp] theorem State.rst_shm (f : Fld) : (s.rst f).shm = s.shm := rfl
@[simp] theorem State.rst_sch (f : Fld) : (s.rst f).sch = s.sch := rfl
@[simp] theorem State.rst_kv (f : Fld) : (s.rst f).kv = s.kv := rfl
@[simp] theorem State.rst_tu (f : Fld) : (s.rst f).tu = s.tu := rfl
@[simp] theorem State.rst_ports (f : Fld) : (s.rst f).ports = s.ports := rfl
@[simp] theorem State.rst_bench (f : Fld) : (s.rst f).bench = s.bench := rfl
@[simp] theorem State.rst_link (f : Fld) : (s.rst f).link = s.link := rfl
@[simp] theorem State.rst_clk (f : Fld) : (s.rst f).clk = s.clk := rfl
@[simp] theorem State.rst_pwr (f : Fld) : (s.rst f).pwr = s.pwr := rfl
@[simp] theorem State.rst_rel (f : Fld) : (s.rst f).rel = s.rel := rfl
@[simp] theorem State.rst_tap (f : Fld) : (s.rst f).tap = s.tap := rfl
@[simp] theorem State.rst_opt (f : Fld) : (s.rst f).opt = s.opt := rfl
@[simp] theorem State.rst_lanes (f : Fld) : (s.rst f).lanes = s.lanes := rfl

@[simp] theorem State.setBit_pending (f : Fld) (b : Nat) : (s.setBit f b).pending = s.pending := rfl
@[simp] theorem State.setBit_inputs (f : Fld) (b : Nat) : (s.setBit f b).inputs = s.inputs := rfl
@[simp] theorem State.setBit_mem (f : Fld) (b : Nat) : (s.setBit f b).mem = s.mem := rfl
@[simp] theorem State.setBit_poison (f : Fld) (b : Nat) : (s.setBit f b).poison = s.poison := rfl
@[simp] theorem State.setBit_us (f : Fld) (b : Nat) : (s.setBit f b).us = s.us := rfl
@[simp] theorem State.setBit_freeCtr (f : Fld) (b : Nat) : (s.setBit f b).freeCtr = s.freeCtr := rfl
@[simp] theorem State.setBit_latch (f : Fld) (b : Nat) : (s.setBit f b).latch = s.latch := rfl
@[simp] theorem State.setBit_todLatch (f : Fld) (b : Nat) : (s.setBit f b).todLatch = s.todLatch := rfl
@[simp] theorem State.setBit_last (f : Fld) (b : Nat) : (s.setBit f b).last = s.last := rfl
@[simp] theorem State.setBit_wpAnswer (f : Fld) (b : Nat) : (s.setBit f b).wpAnswer = s.wpAnswer := rfl
@[simp] theorem State.setBit_wpAck (f : Fld) (b : Nat) : (s.setBit f b).wpAck = s.wpAck := rfl
@[simp] theorem State.setBit_islands (f : Fld) (b : Nat) : (s.setBit f b).islands = s.islands := rfl
@[simp] theorem State.setBit_sil (f : Fld) (b : Nat) : (s.setBit f b).sil = s.sil := rfl
@[simp] theorem State.setBit_trees (f : Fld) (b : Nat) : (s.setBit f b).trees = s.trees := rfl
@[simp] theorem State.setBit_terms (f : Fld) (b : Nat) : (s.setBit f b).terms = s.terms := rfl
@[simp] theorem State.setBit_windows (f : Fld) (b : Nat) : (s.setBit f b).windows = s.windows := rfl
@[simp] theorem State.setBit_allocs (f : Fld) (b : Nat) : (s.setBit f b).allocs = s.allocs := rfl
@[simp] theorem State.setBit_ge (f : Fld) (b : Nat) : (s.setBit f b).ge = s.ge := rfl
@[simp] theorem State.setBit_fallback (f : Fld) (b : Nat) : (s.setBit f b).fallback = s.fallback := rfl
@[simp] theorem State.setBit_mir (f : Fld) (b : Nat) : (s.setBit f b).mir = s.mir := rfl
@[simp] theorem State.setBit_prot (f : Fld) (b : Nat) : (s.setBit f b).prot = s.prot := rfl
@[simp] theorem State.setBit_frer (f : Fld) (b : Nat) : (s.setBit f b).frer = s.frer := rfl
@[simp] theorem State.setBit_rx (f : Fld) (b : Nat) : (s.setBit f b).rx = s.rx := rfl
@[simp] theorem State.setBit_bc (f : Fld) (b : Nat) : (s.setBit f b).bc = s.bc := rfl
@[simp] theorem State.setBit_pr (f : Fld) (b : Nat) : (s.setBit f b).pr = s.pr := rfl
@[simp] theorem State.setBit_fwd (f : Fld) (b : Nat) : (s.setBit f b).fwd = s.fwd := rfl
@[simp] theorem State.setBit_jnl (f : Fld) (b : Nat) : (s.setBit f b).jnl = s.jnl := rfl
@[simp] theorem State.setBit_shm (f : Fld) (b : Nat) : (s.setBit f b).shm = s.shm := rfl
@[simp] theorem State.setBit_sch (f : Fld) (b : Nat) : (s.setBit f b).sch = s.sch := rfl
@[simp] theorem State.setBit_kv (f : Fld) (b : Nat) : (s.setBit f b).kv = s.kv := rfl
@[simp] theorem State.setBit_tu (f : Fld) (b : Nat) : (s.setBit f b).tu = s.tu := rfl
@[simp] theorem State.setBit_ports (f : Fld) (b : Nat) : (s.setBit f b).ports = s.ports := rfl
@[simp] theorem State.setBit_bench (f : Fld) (b : Nat) : (s.setBit f b).bench = s.bench := rfl
@[simp] theorem State.setBit_link (f : Fld) (b : Nat) : (s.setBit f b).link = s.link := rfl
@[simp] theorem State.setBit_clk (f : Fld) (b : Nat) : (s.setBit f b).clk = s.clk := rfl
@[simp] theorem State.setBit_pwr (f : Fld) (b : Nat) : (s.setBit f b).pwr = s.pwr := rfl
@[simp] theorem State.setBit_rel (f : Fld) (b : Nat) : (s.setBit f b).rel = s.rel := rfl
@[simp] theorem State.setBit_tap (f : Fld) (b : Nat) : (s.setBit f b).tap = s.tap := rfl
@[simp] theorem State.setBit_opt (f : Fld) (b : Nat) : (s.setBit f b).opt = s.opt := rfl
@[simp] theorem State.setBit_lanes (f : Fld) (b : Nat) : (s.setBit f b).lanes = s.lanes := rfl

@[simp] theorem State.clrBit_pending (f : Fld) (b : Nat) : (s.clrBit f b).pending = s.pending := rfl
@[simp] theorem State.clrBit_inputs (f : Fld) (b : Nat) : (s.clrBit f b).inputs = s.inputs := rfl
@[simp] theorem State.clrBit_mem (f : Fld) (b : Nat) : (s.clrBit f b).mem = s.mem := rfl
@[simp] theorem State.clrBit_poison (f : Fld) (b : Nat) : (s.clrBit f b).poison = s.poison := rfl
@[simp] theorem State.clrBit_us (f : Fld) (b : Nat) : (s.clrBit f b).us = s.us := rfl
@[simp] theorem State.clrBit_freeCtr (f : Fld) (b : Nat) : (s.clrBit f b).freeCtr = s.freeCtr := rfl
@[simp] theorem State.clrBit_latch (f : Fld) (b : Nat) : (s.clrBit f b).latch = s.latch := rfl
@[simp] theorem State.clrBit_todLatch (f : Fld) (b : Nat) : (s.clrBit f b).todLatch = s.todLatch := rfl
@[simp] theorem State.clrBit_last (f : Fld) (b : Nat) : (s.clrBit f b).last = s.last := rfl
@[simp] theorem State.clrBit_wpAnswer (f : Fld) (b : Nat) : (s.clrBit f b).wpAnswer = s.wpAnswer := rfl
@[simp] theorem State.clrBit_wpAck (f : Fld) (b : Nat) : (s.clrBit f b).wpAck = s.wpAck := rfl
@[simp] theorem State.clrBit_islands (f : Fld) (b : Nat) : (s.clrBit f b).islands = s.islands := rfl
@[simp] theorem State.clrBit_sil (f : Fld) (b : Nat) : (s.clrBit f b).sil = s.sil := rfl
@[simp] theorem State.clrBit_trees (f : Fld) (b : Nat) : (s.clrBit f b).trees = s.trees := rfl
@[simp] theorem State.clrBit_terms (f : Fld) (b : Nat) : (s.clrBit f b).terms = s.terms := rfl
@[simp] theorem State.clrBit_windows (f : Fld) (b : Nat) : (s.clrBit f b).windows = s.windows := rfl
@[simp] theorem State.clrBit_allocs (f : Fld) (b : Nat) : (s.clrBit f b).allocs = s.allocs := rfl
@[simp] theorem State.clrBit_ge (f : Fld) (b : Nat) : (s.clrBit f b).ge = s.ge := rfl
@[simp] theorem State.clrBit_fallback (f : Fld) (b : Nat) : (s.clrBit f b).fallback = s.fallback := rfl
@[simp] theorem State.clrBit_mir (f : Fld) (b : Nat) : (s.clrBit f b).mir = s.mir := rfl
@[simp] theorem State.clrBit_prot (f : Fld) (b : Nat) : (s.clrBit f b).prot = s.prot := rfl
@[simp] theorem State.clrBit_frer (f : Fld) (b : Nat) : (s.clrBit f b).frer = s.frer := rfl
@[simp] theorem State.clrBit_rx (f : Fld) (b : Nat) : (s.clrBit f b).rx = s.rx := rfl
@[simp] theorem State.clrBit_bc (f : Fld) (b : Nat) : (s.clrBit f b).bc = s.bc := rfl
@[simp] theorem State.clrBit_pr (f : Fld) (b : Nat) : (s.clrBit f b).pr = s.pr := rfl
@[simp] theorem State.clrBit_fwd (f : Fld) (b : Nat) : (s.clrBit f b).fwd = s.fwd := rfl
@[simp] theorem State.clrBit_jnl (f : Fld) (b : Nat) : (s.clrBit f b).jnl = s.jnl := rfl
@[simp] theorem State.clrBit_shm (f : Fld) (b : Nat) : (s.clrBit f b).shm = s.shm := rfl
@[simp] theorem State.clrBit_sch (f : Fld) (b : Nat) : (s.clrBit f b).sch = s.sch := rfl
@[simp] theorem State.clrBit_kv (f : Fld) (b : Nat) : (s.clrBit f b).kv = s.kv := rfl
@[simp] theorem State.clrBit_tu (f : Fld) (b : Nat) : (s.clrBit f b).tu = s.tu := rfl
@[simp] theorem State.clrBit_ports (f : Fld) (b : Nat) : (s.clrBit f b).ports = s.ports := rfl
@[simp] theorem State.clrBit_bench (f : Fld) (b : Nat) : (s.clrBit f b).bench = s.bench := rfl
@[simp] theorem State.clrBit_link (f : Fld) (b : Nat) : (s.clrBit f b).link = s.link := rfl
@[simp] theorem State.clrBit_clk (f : Fld) (b : Nat) : (s.clrBit f b).clk = s.clk := rfl
@[simp] theorem State.clrBit_pwr (f : Fld) (b : Nat) : (s.clrBit f b).pwr = s.pwr := rfl
@[simp] theorem State.clrBit_rel (f : Fld) (b : Nat) : (s.clrBit f b).rel = s.rel := rfl
@[simp] theorem State.clrBit_tap (f : Fld) (b : Nat) : (s.clrBit f b).tap = s.tap := rfl
@[simp] theorem State.clrBit_opt (f : Fld) (b : Nat) : (s.clrBit f b).opt = s.opt := rfl
@[simp] theorem State.clrBit_lanes (f : Fld) (b : Nat) : (s.clrBit f b).lanes = s.lanes := rfl

@[simp] theorem State.incBy_pending (f : Fld) (n : Nat) : (s.incBy f n).pending = s.pending := rfl
@[simp] theorem State.incBy_inputs (f : Fld) (n : Nat) : (s.incBy f n).inputs = s.inputs := rfl
@[simp] theorem State.incBy_mem (f : Fld) (n : Nat) : (s.incBy f n).mem = s.mem := rfl
@[simp] theorem State.incBy_poison (f : Fld) (n : Nat) : (s.incBy f n).poison = s.poison := rfl
@[simp] theorem State.incBy_us (f : Fld) (n : Nat) : (s.incBy f n).us = s.us := rfl
@[simp] theorem State.incBy_freeCtr (f : Fld) (n : Nat) : (s.incBy f n).freeCtr = s.freeCtr := rfl
@[simp] theorem State.incBy_latch (f : Fld) (n : Nat) : (s.incBy f n).latch = s.latch := rfl
@[simp] theorem State.incBy_todLatch (f : Fld) (n : Nat) : (s.incBy f n).todLatch = s.todLatch := rfl
@[simp] theorem State.incBy_last (f : Fld) (n : Nat) : (s.incBy f n).last = s.last := rfl
@[simp] theorem State.incBy_wpAnswer (f : Fld) (n : Nat) : (s.incBy f n).wpAnswer = s.wpAnswer := rfl
@[simp] theorem State.incBy_wpAck (f : Fld) (n : Nat) : (s.incBy f n).wpAck = s.wpAck := rfl
@[simp] theorem State.incBy_islands (f : Fld) (n : Nat) : (s.incBy f n).islands = s.islands := rfl
@[simp] theorem State.incBy_sil (f : Fld) (n : Nat) : (s.incBy f n).sil = s.sil := rfl
@[simp] theorem State.incBy_trees (f : Fld) (n : Nat) : (s.incBy f n).trees = s.trees := rfl
@[simp] theorem State.incBy_terms (f : Fld) (n : Nat) : (s.incBy f n).terms = s.terms := rfl
@[simp] theorem State.incBy_windows (f : Fld) (n : Nat) : (s.incBy f n).windows = s.windows := rfl
@[simp] theorem State.incBy_allocs (f : Fld) (n : Nat) : (s.incBy f n).allocs = s.allocs := rfl
@[simp] theorem State.incBy_ge (f : Fld) (n : Nat) : (s.incBy f n).ge = s.ge := rfl
@[simp] theorem State.incBy_fallback (f : Fld) (n : Nat) : (s.incBy f n).fallback = s.fallback := rfl
@[simp] theorem State.incBy_mir (f : Fld) (n : Nat) : (s.incBy f n).mir = s.mir := rfl
@[simp] theorem State.incBy_prot (f : Fld) (n : Nat) : (s.incBy f n).prot = s.prot := rfl
@[simp] theorem State.incBy_frer (f : Fld) (n : Nat) : (s.incBy f n).frer = s.frer := rfl
@[simp] theorem State.incBy_rx (f : Fld) (n : Nat) : (s.incBy f n).rx = s.rx := rfl
@[simp] theorem State.incBy_bc (f : Fld) (n : Nat) : (s.incBy f n).bc = s.bc := rfl
@[simp] theorem State.incBy_pr (f : Fld) (n : Nat) : (s.incBy f n).pr = s.pr := rfl
@[simp] theorem State.incBy_fwd (f : Fld) (n : Nat) : (s.incBy f n).fwd = s.fwd := rfl
@[simp] theorem State.incBy_jnl (f : Fld) (n : Nat) : (s.incBy f n).jnl = s.jnl := rfl
@[simp] theorem State.incBy_shm (f : Fld) (n : Nat) : (s.incBy f n).shm = s.shm := rfl
@[simp] theorem State.incBy_sch (f : Fld) (n : Nat) : (s.incBy f n).sch = s.sch := rfl
@[simp] theorem State.incBy_kv (f : Fld) (n : Nat) : (s.incBy f n).kv = s.kv := rfl
@[simp] theorem State.incBy_tu (f : Fld) (n : Nat) : (s.incBy f n).tu = s.tu := rfl
@[simp] theorem State.incBy_ports (f : Fld) (n : Nat) : (s.incBy f n).ports = s.ports := rfl
@[simp] theorem State.incBy_bench (f : Fld) (n : Nat) : (s.incBy f n).bench = s.bench := rfl
@[simp] theorem State.incBy_link (f : Fld) (n : Nat) : (s.incBy f n).link = s.link := rfl
@[simp] theorem State.incBy_clk (f : Fld) (n : Nat) : (s.incBy f n).clk = s.clk := rfl
@[simp] theorem State.incBy_pwr (f : Fld) (n : Nat) : (s.incBy f n).pwr = s.pwr := rfl
@[simp] theorem State.incBy_rel (f : Fld) (n : Nat) : (s.incBy f n).rel = s.rel := rfl
@[simp] theorem State.incBy_tap (f : Fld) (n : Nat) : (s.incBy f n).tap = s.tap := rfl
@[simp] theorem State.incBy_opt (f : Fld) (n : Nat) : (s.incBy f n).opt = s.opt := rfl
@[simp] theorem State.incBy_lanes (f : Fld) (n : Nat) : (s.incBy f n).lanes = s.lanes := rfl

@[simp] theorem State.inc_pending (f : Fld) : (s.inc f).pending = s.pending := rfl
@[simp] theorem State.inc_inputs (f : Fld) : (s.inc f).inputs = s.inputs := rfl
@[simp] theorem State.inc_mem (f : Fld) : (s.inc f).mem = s.mem := rfl
@[simp] theorem State.inc_poison (f : Fld) : (s.inc f).poison = s.poison := rfl
@[simp] theorem State.inc_us (f : Fld) : (s.inc f).us = s.us := rfl
@[simp] theorem State.inc_freeCtr (f : Fld) : (s.inc f).freeCtr = s.freeCtr := rfl
@[simp] theorem State.inc_latch (f : Fld) : (s.inc f).latch = s.latch := rfl
@[simp] theorem State.inc_todLatch (f : Fld) : (s.inc f).todLatch = s.todLatch := rfl
@[simp] theorem State.inc_last (f : Fld) : (s.inc f).last = s.last := rfl
@[simp] theorem State.inc_wpAnswer (f : Fld) : (s.inc f).wpAnswer = s.wpAnswer := rfl
@[simp] theorem State.inc_wpAck (f : Fld) : (s.inc f).wpAck = s.wpAck := rfl
@[simp] theorem State.inc_islands (f : Fld) : (s.inc f).islands = s.islands := rfl
@[simp] theorem State.inc_sil (f : Fld) : (s.inc f).sil = s.sil := rfl
@[simp] theorem State.inc_trees (f : Fld) : (s.inc f).trees = s.trees := rfl
@[simp] theorem State.inc_terms (f : Fld) : (s.inc f).terms = s.terms := rfl
@[simp] theorem State.inc_windows (f : Fld) : (s.inc f).windows = s.windows := rfl
@[simp] theorem State.inc_allocs (f : Fld) : (s.inc f).allocs = s.allocs := rfl
@[simp] theorem State.inc_ge (f : Fld) : (s.inc f).ge = s.ge := rfl
@[simp] theorem State.inc_fallback (f : Fld) : (s.inc f).fallback = s.fallback := rfl
@[simp] theorem State.inc_mir (f : Fld) : (s.inc f).mir = s.mir := rfl
@[simp] theorem State.inc_prot (f : Fld) : (s.inc f).prot = s.prot := rfl
@[simp] theorem State.inc_frer (f : Fld) : (s.inc f).frer = s.frer := rfl
@[simp] theorem State.inc_rx (f : Fld) : (s.inc f).rx = s.rx := rfl
@[simp] theorem State.inc_bc (f : Fld) : (s.inc f).bc = s.bc := rfl
@[simp] theorem State.inc_pr (f : Fld) : (s.inc f).pr = s.pr := rfl
@[simp] theorem State.inc_fwd (f : Fld) : (s.inc f).fwd = s.fwd := rfl
@[simp] theorem State.inc_jnl (f : Fld) : (s.inc f).jnl = s.jnl := rfl
@[simp] theorem State.inc_shm (f : Fld) : (s.inc f).shm = s.shm := rfl
@[simp] theorem State.inc_sch (f : Fld) : (s.inc f).sch = s.sch := rfl
@[simp] theorem State.inc_kv (f : Fld) : (s.inc f).kv = s.kv := rfl
@[simp] theorem State.inc_tu (f : Fld) : (s.inc f).tu = s.tu := rfl
@[simp] theorem State.inc_ports (f : Fld) : (s.inc f).ports = s.ports := rfl
@[simp] theorem State.inc_bench (f : Fld) : (s.inc f).bench = s.bench := rfl
@[simp] theorem State.inc_link (f : Fld) : (s.inc f).link = s.link := rfl
@[simp] theorem State.inc_clk (f : Fld) : (s.inc f).clk = s.clk := rfl
@[simp] theorem State.inc_pwr (f : Fld) : (s.inc f).pwr = s.pwr := rfl
@[simp] theorem State.inc_rel (f : Fld) : (s.inc f).rel = s.rel := rfl
@[simp] theorem State.inc_tap (f : Fld) : (s.inc f).tap = s.tap := rfl
@[simp] theorem State.inc_opt (f : Fld) : (s.inc f).opt = s.opt := rfl
@[simp] theorem State.inc_lanes (f : Fld) : (s.inc f).lanes = s.lanes := rfl

@[simp] theorem State.modIsl_pending (n : Nat) (g : IslSt → IslSt) : (s.modIsl n g).pending = s.pending := rfl
@[simp] theorem State.modIsl_inputs (n : Nat) (g : IslSt → IslSt) : (s.modIsl n g).inputs = s.inputs := rfl
@[simp] theorem State.modIsl_fld (n : Nat) (g : IslSt → IslSt) : (s.modIsl n g).fld = s.fld := rfl
@[simp] theorem State.modIsl_mem (n : Nat) (g : IslSt → IslSt) : (s.modIsl n g).mem = s.mem := rfl
@[simp] theorem State.modIsl_poison (n : Nat) (g : IslSt → IslSt) : (s.modIsl n g).poison = s.poison := rfl
@[simp] theorem State.modIsl_us (n : Nat) (g : IslSt → IslSt) : (s.modIsl n g).us = s.us := rfl
@[simp] theorem State.modIsl_freeCtr (n : Nat) (g : IslSt → IslSt) : (s.modIsl n g).freeCtr = s.freeCtr := rfl
@[simp] theorem State.modIsl_latch (n : Nat) (g : IslSt → IslSt) : (s.modIsl n g).latch = s.latch := rfl
@[simp] theorem State.modIsl_todLatch (n : Nat) (g : IslSt → IslSt) : (s.modIsl n g).todLatch = s.todLatch := rfl
@[simp] theorem State.modIsl_last (n : Nat) (g : IslSt → IslSt) : (s.modIsl n g).last = s.last := rfl
@[simp] theorem State.modIsl_wpAnswer (n : Nat) (g : IslSt → IslSt) : (s.modIsl n g).wpAnswer = s.wpAnswer := rfl
@[simp] theorem State.modIsl_wpAck (n : Nat) (g : IslSt → IslSt) : (s.modIsl n g).wpAck = s.wpAck := rfl
@[simp] theorem State.modIsl_sil (n : Nat) (g : IslSt → IslSt) : (s.modIsl n g).sil = s.sil := rfl
@[simp] theorem State.modIsl_trees (n : Nat) (g : IslSt → IslSt) : (s.modIsl n g).trees = s.trees := rfl
@[simp] theorem State.modIsl_terms (n : Nat) (g : IslSt → IslSt) : (s.modIsl n g).terms = s.terms := rfl
@[simp] theorem State.modIsl_windows (n : Nat) (g : IslSt → IslSt) : (s.modIsl n g).windows = s.windows := rfl
@[simp] theorem State.modIsl_allocs (n : Nat) (g : IslSt → IslSt) : (s.modIsl n g).allocs = s.allocs := rfl
@[simp] theorem State.modIsl_ge (n : Nat) (g : IslSt → IslSt) : (s.modIsl n g).ge = s.ge := rfl
@[simp] theorem State.modIsl_fallback (n : Nat) (g : IslSt → IslSt) : (s.modIsl n g).fallback = s.fallback := rfl
@[simp] theorem State.modIsl_mir (n : Nat) (g : IslSt → IslSt) : (s.modIsl n g).mir = s.mir := rfl
@[simp] theorem State.modIsl_prot (n : Nat) (g : IslSt → IslSt) : (s.modIsl n g).prot = s.prot := rfl
@[simp] theorem State.modIsl_frer (n : Nat) (g : IslSt → IslSt) : (s.modIsl n g).frer = s.frer := rfl
@[simp] theorem State.modIsl_rx (n : Nat) (g : IslSt → IslSt) : (s.modIsl n g).rx = s.rx := rfl
@[simp] theorem State.modIsl_bc (n : Nat) (g : IslSt → IslSt) : (s.modIsl n g).bc = s.bc := rfl
@[simp] theorem State.modIsl_pr (n : Nat) (g : IslSt → IslSt) : (s.modIsl n g).pr = s.pr := rfl
@[simp] theorem State.modIsl_fwd (n : Nat) (g : IslSt → IslSt) : (s.modIsl n g).fwd = s.fwd := rfl
@[simp] theorem State.modIsl_jnl (n : Nat) (g : IslSt → IslSt) : (s.modIsl n g).jnl = s.jnl := rfl
@[simp] theorem State.modIsl_shm (n : Nat) (g : IslSt → IslSt) : (s.modIsl n g).shm = s.shm := rfl
@[simp] theorem State.modIsl_sch (n : Nat) (g : IslSt → IslSt) : (s.modIsl n g).sch = s.sch := rfl
@[simp] theorem State.modIsl_kv (n : Nat) (g : IslSt → IslSt) : (s.modIsl n g).kv = s.kv := rfl
@[simp] theorem State.modIsl_tu (n : Nat) (g : IslSt → IslSt) : (s.modIsl n g).tu = s.tu := rfl
@[simp] theorem State.modIsl_ports (n : Nat) (g : IslSt → IslSt) : (s.modIsl n g).ports = s.ports := rfl
@[simp] theorem State.modIsl_bench (n : Nat) (g : IslSt → IslSt) : (s.modIsl n g).bench = s.bench := rfl
@[simp] theorem State.modIsl_link (n : Nat) (g : IslSt → IslSt) : (s.modIsl n g).link = s.link := rfl
@[simp] theorem State.modIsl_clk (n : Nat) (g : IslSt → IslSt) : (s.modIsl n g).clk = s.clk := rfl
@[simp] theorem State.modIsl_pwr (n : Nat) (g : IslSt → IslSt) : (s.modIsl n g).pwr = s.pwr := rfl
@[simp] theorem State.modIsl_rel (n : Nat) (g : IslSt → IslSt) : (s.modIsl n g).rel = s.rel := rfl
@[simp] theorem State.modIsl_tap (n : Nat) (g : IslSt → IslSt) : (s.modIsl n g).tap = s.tap := rfl
@[simp] theorem State.modIsl_opt (n : Nat) (g : IslSt → IslSt) : (s.modIsl n g).opt = s.opt := rfl
@[simp] theorem State.modIsl_lanes (n : Nat) (g : IslSt → IslSt) : (s.modIsl n g).lanes = s.lanes := rfl

@[simp] theorem State.modTree_pending (t : Nat) (g : TreeSt → TreeSt) : (s.modTree t g).pending = s.pending := rfl
@[simp] theorem State.modTree_inputs (t : Nat) (g : TreeSt → TreeSt) : (s.modTree t g).inputs = s.inputs := rfl
@[simp] theorem State.modTree_fld (t : Nat) (g : TreeSt → TreeSt) : (s.modTree t g).fld = s.fld := rfl
@[simp] theorem State.modTree_mem (t : Nat) (g : TreeSt → TreeSt) : (s.modTree t g).mem = s.mem := rfl
@[simp] theorem State.modTree_poison (t : Nat) (g : TreeSt → TreeSt) : (s.modTree t g).poison = s.poison := rfl
@[simp] theorem State.modTree_us (t : Nat) (g : TreeSt → TreeSt) : (s.modTree t g).us = s.us := rfl
@[simp] theorem State.modTree_freeCtr (t : Nat) (g : TreeSt → TreeSt) : (s.modTree t g).freeCtr = s.freeCtr := rfl
@[simp] theorem State.modTree_latch (t : Nat) (g : TreeSt → TreeSt) : (s.modTree t g).latch = s.latch := rfl
@[simp] theorem State.modTree_todLatch (t : Nat) (g : TreeSt → TreeSt) : (s.modTree t g).todLatch = s.todLatch := rfl
@[simp] theorem State.modTree_last (t : Nat) (g : TreeSt → TreeSt) : (s.modTree t g).last = s.last := rfl
@[simp] theorem State.modTree_wpAnswer (t : Nat) (g : TreeSt → TreeSt) : (s.modTree t g).wpAnswer = s.wpAnswer := rfl
@[simp] theorem State.modTree_wpAck (t : Nat) (g : TreeSt → TreeSt) : (s.modTree t g).wpAck = s.wpAck := rfl
@[simp] theorem State.modTree_islands (t : Nat) (g : TreeSt → TreeSt) : (s.modTree t g).islands = s.islands := rfl
@[simp] theorem State.modTree_sil (t : Nat) (g : TreeSt → TreeSt) : (s.modTree t g).sil = s.sil := rfl
@[simp] theorem State.modTree_terms (t : Nat) (g : TreeSt → TreeSt) : (s.modTree t g).terms = s.terms := rfl
@[simp] theorem State.modTree_windows (t : Nat) (g : TreeSt → TreeSt) : (s.modTree t g).windows = s.windows := rfl
@[simp] theorem State.modTree_allocs (t : Nat) (g : TreeSt → TreeSt) : (s.modTree t g).allocs = s.allocs := rfl
@[simp] theorem State.modTree_ge (t : Nat) (g : TreeSt → TreeSt) : (s.modTree t g).ge = s.ge := rfl
@[simp] theorem State.modTree_fallback (t : Nat) (g : TreeSt → TreeSt) : (s.modTree t g).fallback = s.fallback := rfl
@[simp] theorem State.modTree_mir (t : Nat) (g : TreeSt → TreeSt) : (s.modTree t g).mir = s.mir := rfl
@[simp] theorem State.modTree_prot (t : Nat) (g : TreeSt → TreeSt) : (s.modTree t g).prot = s.prot := rfl
@[simp] theorem State.modTree_frer (t : Nat) (g : TreeSt → TreeSt) : (s.modTree t g).frer = s.frer := rfl
@[simp] theorem State.modTree_rx (t : Nat) (g : TreeSt → TreeSt) : (s.modTree t g).rx = s.rx := rfl
@[simp] theorem State.modTree_bc (t : Nat) (g : TreeSt → TreeSt) : (s.modTree t g).bc = s.bc := rfl
@[simp] theorem State.modTree_pr (t : Nat) (g : TreeSt → TreeSt) : (s.modTree t g).pr = s.pr := rfl
@[simp] theorem State.modTree_fwd (t : Nat) (g : TreeSt → TreeSt) : (s.modTree t g).fwd = s.fwd := rfl
@[simp] theorem State.modTree_jnl (t : Nat) (g : TreeSt → TreeSt) : (s.modTree t g).jnl = s.jnl := rfl
@[simp] theorem State.modTree_shm (t : Nat) (g : TreeSt → TreeSt) : (s.modTree t g).shm = s.shm := rfl
@[simp] theorem State.modTree_sch (t : Nat) (g : TreeSt → TreeSt) : (s.modTree t g).sch = s.sch := rfl
@[simp] theorem State.modTree_kv (t : Nat) (g : TreeSt → TreeSt) : (s.modTree t g).kv = s.kv := rfl
@[simp] theorem State.modTree_tu (t : Nat) (g : TreeSt → TreeSt) : (s.modTree t g).tu = s.tu := rfl
@[simp] theorem State.modTree_ports (t : Nat) (g : TreeSt → TreeSt) : (s.modTree t g).ports = s.ports := rfl
@[simp] theorem State.modTree_bench (t : Nat) (g : TreeSt → TreeSt) : (s.modTree t g).bench = s.bench := rfl
@[simp] theorem State.modTree_link (t : Nat) (g : TreeSt → TreeSt) : (s.modTree t g).link = s.link := rfl
@[simp] theorem State.modTree_clk (t : Nat) (g : TreeSt → TreeSt) : (s.modTree t g).clk = s.clk := rfl
@[simp] theorem State.modTree_pwr (t : Nat) (g : TreeSt → TreeSt) : (s.modTree t g).pwr = s.pwr := rfl
@[simp] theorem State.modTree_rel (t : Nat) (g : TreeSt → TreeSt) : (s.modTree t g).rel = s.rel := rfl
@[simp] theorem State.modTree_tap (t : Nat) (g : TreeSt → TreeSt) : (s.modTree t g).tap = s.tap := rfl
@[simp] theorem State.modTree_opt (t : Nat) (g : TreeSt → TreeSt) : (s.modTree t g).opt = s.opt := rfl
@[simp] theorem State.modTree_lanes (t : Nat) (g : TreeSt → TreeSt) : (s.modTree t g).lanes = s.lanes := rfl

@[simp] theorem State.modTerm_pending (t o : Nat) (g : Term → Term) : (s.modTerm t o g).pending = s.pending := rfl
@[simp] theorem State.modTerm_inputs (t o : Nat) (g : Term → Term) : (s.modTerm t o g).inputs = s.inputs := rfl
@[simp] theorem State.modTerm_fld (t o : Nat) (g : Term → Term) : (s.modTerm t o g).fld = s.fld := rfl
@[simp] theorem State.modTerm_mem (t o : Nat) (g : Term → Term) : (s.modTerm t o g).mem = s.mem := rfl
@[simp] theorem State.modTerm_poison (t o : Nat) (g : Term → Term) : (s.modTerm t o g).poison = s.poison := rfl
@[simp] theorem State.modTerm_us (t o : Nat) (g : Term → Term) : (s.modTerm t o g).us = s.us := rfl
@[simp] theorem State.modTerm_freeCtr (t o : Nat) (g : Term → Term) : (s.modTerm t o g).freeCtr = s.freeCtr := rfl
@[simp] theorem State.modTerm_latch (t o : Nat) (g : Term → Term) : (s.modTerm t o g).latch = s.latch := rfl
@[simp] theorem State.modTerm_todLatch (t o : Nat) (g : Term → Term) : (s.modTerm t o g).todLatch = s.todLatch := rfl
@[simp] theorem State.modTerm_last (t o : Nat) (g : Term → Term) : (s.modTerm t o g).last = s.last := rfl
@[simp] theorem State.modTerm_wpAnswer (t o : Nat) (g : Term → Term) : (s.modTerm t o g).wpAnswer = s.wpAnswer := rfl
@[simp] theorem State.modTerm_wpAck (t o : Nat) (g : Term → Term) : (s.modTerm t o g).wpAck = s.wpAck := rfl
@[simp] theorem State.modTerm_islands (t o : Nat) (g : Term → Term) : (s.modTerm t o g).islands = s.islands := rfl
@[simp] theorem State.modTerm_sil (t o : Nat) (g : Term → Term) : (s.modTerm t o g).sil = s.sil := rfl
@[simp] theorem State.modTerm_trees (t o : Nat) (g : Term → Term) : (s.modTerm t o g).trees = s.trees := rfl
@[simp] theorem State.modTerm_windows (t o : Nat) (g : Term → Term) : (s.modTerm t o g).windows = s.windows := rfl
@[simp] theorem State.modTerm_allocs (t o : Nat) (g : Term → Term) : (s.modTerm t o g).allocs = s.allocs := rfl
@[simp] theorem State.modTerm_ge (t o : Nat) (g : Term → Term) : (s.modTerm t o g).ge = s.ge := rfl
@[simp] theorem State.modTerm_fallback (t o : Nat) (g : Term → Term) : (s.modTerm t o g).fallback = s.fallback := rfl
@[simp] theorem State.modTerm_mir (t o : Nat) (g : Term → Term) : (s.modTerm t o g).mir = s.mir := rfl
@[simp] theorem State.modTerm_prot (t o : Nat) (g : Term → Term) : (s.modTerm t o g).prot = s.prot := rfl
@[simp] theorem State.modTerm_frer (t o : Nat) (g : Term → Term) : (s.modTerm t o g).frer = s.frer := rfl
@[simp] theorem State.modTerm_rx (t o : Nat) (g : Term → Term) : (s.modTerm t o g).rx = s.rx := rfl
@[simp] theorem State.modTerm_bc (t o : Nat) (g : Term → Term) : (s.modTerm t o g).bc = s.bc := rfl
@[simp] theorem State.modTerm_pr (t o : Nat) (g : Term → Term) : (s.modTerm t o g).pr = s.pr := rfl
@[simp] theorem State.modTerm_fwd (t o : Nat) (g : Term → Term) : (s.modTerm t o g).fwd = s.fwd := rfl
@[simp] theorem State.modTerm_jnl (t o : Nat) (g : Term → Term) : (s.modTerm t o g).jnl = s.jnl := rfl
@[simp] theorem State.modTerm_shm (t o : Nat) (g : Term → Term) : (s.modTerm t o g).shm = s.shm := rfl
@[simp] theorem State.modTerm_sch (t o : Nat) (g : Term → Term) : (s.modTerm t o g).sch = s.sch := rfl
@[simp] theorem State.modTerm_kv (t o : Nat) (g : Term → Term) : (s.modTerm t o g).kv = s.kv := rfl
@[simp] theorem State.modTerm_tu (t o : Nat) (g : Term → Term) : (s.modTerm t o g).tu = s.tu := rfl
@[simp] theorem State.modTerm_ports (t o : Nat) (g : Term → Term) : (s.modTerm t o g).ports = s.ports := rfl
@[simp] theorem State.modTerm_bench (t o : Nat) (g : Term → Term) : (s.modTerm t o g).bench = s.bench := rfl
@[simp] theorem State.modTerm_link (t o : Nat) (g : Term → Term) : (s.modTerm t o g).link = s.link := rfl
@[simp] theorem State.modTerm_clk (t o : Nat) (g : Term → Term) : (s.modTerm t o g).clk = s.clk := rfl
@[simp] theorem State.modTerm_pwr (t o : Nat) (g : Term → Term) : (s.modTerm t o g).pwr = s.pwr := rfl
@[simp] theorem State.modTerm_rel (t o : Nat) (g : Term → Term) : (s.modTerm t o g).rel = s.rel := rfl
@[simp] theorem State.modTerm_tap (t o : Nat) (g : Term → Term) : (s.modTerm t o g).tap = s.tap := rfl
@[simp] theorem State.modTerm_opt (t o : Nat) (g : Term → Term) : (s.modTerm t o g).opt = s.opt := rfl
@[simp] theorem State.modTerm_lanes (t o : Nat) (g : Term → Term) : (s.modTerm t o g).lanes = s.lanes := rfl

@[simp] theorem State.modAlloc_pending (t i : Nat) (g : Alloc → Alloc) : (s.modAlloc t i g).pending = s.pending := rfl
@[simp] theorem State.modAlloc_inputs (t i : Nat) (g : Alloc → Alloc) : (s.modAlloc t i g).inputs = s.inputs := rfl
@[simp] theorem State.modAlloc_fld (t i : Nat) (g : Alloc → Alloc) : (s.modAlloc t i g).fld = s.fld := rfl
@[simp] theorem State.modAlloc_mem (t i : Nat) (g : Alloc → Alloc) : (s.modAlloc t i g).mem = s.mem := rfl
@[simp] theorem State.modAlloc_poison (t i : Nat) (g : Alloc → Alloc) : (s.modAlloc t i g).poison = s.poison := rfl
@[simp] theorem State.modAlloc_us (t i : Nat) (g : Alloc → Alloc) : (s.modAlloc t i g).us = s.us := rfl
@[simp] theorem State.modAlloc_freeCtr (t i : Nat) (g : Alloc → Alloc) : (s.modAlloc t i g).freeCtr = s.freeCtr := rfl
@[simp] theorem State.modAlloc_latch (t i : Nat) (g : Alloc → Alloc) : (s.modAlloc t i g).latch = s.latch := rfl
@[simp] theorem State.modAlloc_todLatch (t i : Nat) (g : Alloc → Alloc) : (s.modAlloc t i g).todLatch = s.todLatch := rfl
@[simp] theorem State.modAlloc_last (t i : Nat) (g : Alloc → Alloc) : (s.modAlloc t i g).last = s.last := rfl
@[simp] theorem State.modAlloc_wpAnswer (t i : Nat) (g : Alloc → Alloc) : (s.modAlloc t i g).wpAnswer = s.wpAnswer := rfl
@[simp] theorem State.modAlloc_wpAck (t i : Nat) (g : Alloc → Alloc) : (s.modAlloc t i g).wpAck = s.wpAck := rfl
@[simp] theorem State.modAlloc_islands (t i : Nat) (g : Alloc → Alloc) : (s.modAlloc t i g).islands = s.islands := rfl
@[simp] theorem State.modAlloc_sil (t i : Nat) (g : Alloc → Alloc) : (s.modAlloc t i g).sil = s.sil := rfl
@[simp] theorem State.modAlloc_trees (t i : Nat) (g : Alloc → Alloc) : (s.modAlloc t i g).trees = s.trees := rfl
@[simp] theorem State.modAlloc_terms (t i : Nat) (g : Alloc → Alloc) : (s.modAlloc t i g).terms = s.terms := rfl
@[simp] theorem State.modAlloc_windows (t i : Nat) (g : Alloc → Alloc) : (s.modAlloc t i g).windows = s.windows := rfl
@[simp] theorem State.modAlloc_ge (t i : Nat) (g : Alloc → Alloc) : (s.modAlloc t i g).ge = s.ge := rfl
@[simp] theorem State.modAlloc_fallback (t i : Nat) (g : Alloc → Alloc) : (s.modAlloc t i g).fallback = s.fallback := rfl
@[simp] theorem State.modAlloc_mir (t i : Nat) (g : Alloc → Alloc) : (s.modAlloc t i g).mir = s.mir := rfl
@[simp] theorem State.modAlloc_prot (t i : Nat) (g : Alloc → Alloc) : (s.modAlloc t i g).prot = s.prot := rfl
@[simp] theorem State.modAlloc_frer (t i : Nat) (g : Alloc → Alloc) : (s.modAlloc t i g).frer = s.frer := rfl
@[simp] theorem State.modAlloc_rx (t i : Nat) (g : Alloc → Alloc) : (s.modAlloc t i g).rx = s.rx := rfl
@[simp] theorem State.modAlloc_bc (t i : Nat) (g : Alloc → Alloc) : (s.modAlloc t i g).bc = s.bc := rfl
@[simp] theorem State.modAlloc_pr (t i : Nat) (g : Alloc → Alloc) : (s.modAlloc t i g).pr = s.pr := rfl
@[simp] theorem State.modAlloc_fwd (t i : Nat) (g : Alloc → Alloc) : (s.modAlloc t i g).fwd = s.fwd := rfl
@[simp] theorem State.modAlloc_jnl (t i : Nat) (g : Alloc → Alloc) : (s.modAlloc t i g).jnl = s.jnl := rfl
@[simp] theorem State.modAlloc_shm (t i : Nat) (g : Alloc → Alloc) : (s.modAlloc t i g).shm = s.shm := rfl
@[simp] theorem State.modAlloc_sch (t i : Nat) (g : Alloc → Alloc) : (s.modAlloc t i g).sch = s.sch := rfl
@[simp] theorem State.modAlloc_kv (t i : Nat) (g : Alloc → Alloc) : (s.modAlloc t i g).kv = s.kv := rfl
@[simp] theorem State.modAlloc_tu (t i : Nat) (g : Alloc → Alloc) : (s.modAlloc t i g).tu = s.tu := rfl
@[simp] theorem State.modAlloc_ports (t i : Nat) (g : Alloc → Alloc) : (s.modAlloc t i g).ports = s.ports := rfl
@[simp] theorem State.modAlloc_bench (t i : Nat) (g : Alloc → Alloc) : (s.modAlloc t i g).bench = s.bench := rfl
@[simp] theorem State.modAlloc_link (t i : Nat) (g : Alloc → Alloc) : (s.modAlloc t i g).link = s.link := rfl
@[simp] theorem State.modAlloc_clk (t i : Nat) (g : Alloc → Alloc) : (s.modAlloc t i g).clk = s.clk := rfl
@[simp] theorem State.modAlloc_pwr (t i : Nat) (g : Alloc → Alloc) : (s.modAlloc t i g).pwr = s.pwr := rfl
@[simp] theorem State.modAlloc_rel (t i : Nat) (g : Alloc → Alloc) : (s.modAlloc t i g).rel = s.rel := rfl
@[simp] theorem State.modAlloc_tap (t i : Nat) (g : Alloc → Alloc) : (s.modAlloc t i g).tap = s.tap := rfl
@[simp] theorem State.modAlloc_opt (t i : Nat) (g : Alloc → Alloc) : (s.modAlloc t i g).opt = s.opt := rfl
@[simp] theorem State.modAlloc_lanes (t i : Nat) (g : Alloc → Alloc) : (s.modAlloc t i g).lanes = s.lanes := rfl

@[simp] theorem State.putBytes_pending (a : Nat) (l : List Byte) : (s.putBytes a l).pending = s.pending := rfl
@[simp] theorem State.putBytes_inputs (a : Nat) (l : List Byte) : (s.putBytes a l).inputs = s.inputs := rfl
@[simp] theorem State.putBytes_fld (a : Nat) (l : List Byte) : (s.putBytes a l).fld = s.fld := rfl
@[simp] theorem State.putBytes_poison (a : Nat) (l : List Byte) : (s.putBytes a l).poison = s.poison := rfl
@[simp] theorem State.putBytes_us (a : Nat) (l : List Byte) : (s.putBytes a l).us = s.us := rfl
@[simp] theorem State.putBytes_freeCtr (a : Nat) (l : List Byte) : (s.putBytes a l).freeCtr = s.freeCtr := rfl
@[simp] theorem State.putBytes_latch (a : Nat) (l : List Byte) : (s.putBytes a l).latch = s.latch := rfl
@[simp] theorem State.putBytes_todLatch (a : Nat) (l : List Byte) : (s.putBytes a l).todLatch = s.todLatch := rfl
@[simp] theorem State.putBytes_last (a : Nat) (l : List Byte) : (s.putBytes a l).last = s.last := rfl
@[simp] theorem State.putBytes_wpAnswer (a : Nat) (l : List Byte) : (s.putBytes a l).wpAnswer = s.wpAnswer := rfl
@[simp] theorem State.putBytes_wpAck (a : Nat) (l : List Byte) : (s.putBytes a l).wpAck = s.wpAck := rfl
@[simp] theorem State.putBytes_islands (a : Nat) (l : List Byte) : (s.putBytes a l).islands = s.islands := rfl
@[simp] theorem State.putBytes_sil (a : Nat) (l : List Byte) : (s.putBytes a l).sil = s.sil := rfl
@[simp] theorem State.putBytes_trees (a : Nat) (l : List Byte) : (s.putBytes a l).trees = s.trees := rfl
@[simp] theorem State.putBytes_terms (a : Nat) (l : List Byte) : (s.putBytes a l).terms = s.terms := rfl
@[simp] theorem State.putBytes_windows (a : Nat) (l : List Byte) : (s.putBytes a l).windows = s.windows := rfl
@[simp] theorem State.putBytes_allocs (a : Nat) (l : List Byte) : (s.putBytes a l).allocs = s.allocs := rfl
@[simp] theorem State.putBytes_ge (a : Nat) (l : List Byte) : (s.putBytes a l).ge = s.ge := rfl
@[simp] theorem State.putBytes_fallback (a : Nat) (l : List Byte) : (s.putBytes a l).fallback = s.fallback := rfl
@[simp] theorem State.putBytes_mir (a : Nat) (l : List Byte) : (s.putBytes a l).mir = s.mir := rfl
@[simp] theorem State.putBytes_prot (a : Nat) (l : List Byte) : (s.putBytes a l).prot = s.prot := rfl
@[simp] theorem State.putBytes_frer (a : Nat) (l : List Byte) : (s.putBytes a l).frer = s.frer := rfl
@[simp] theorem State.putBytes_rx (a : Nat) (l : List Byte) : (s.putBytes a l).rx = s.rx := rfl
@[simp] theorem State.putBytes_bc (a : Nat) (l : List Byte) : (s.putBytes a l).bc = s.bc := rfl
@[simp] theorem State.putBytes_pr (a : Nat) (l : List Byte) : (s.putBytes a l).pr = s.pr := rfl
@[simp] theorem State.putBytes_fwd (a : Nat) (l : List Byte) : (s.putBytes a l).fwd = s.fwd := rfl
@[simp] theorem State.putBytes_jnl (a : Nat) (l : List Byte) : (s.putBytes a l).jnl = s.jnl := rfl
@[simp] theorem State.putBytes_shm (a : Nat) (l : List Byte) : (s.putBytes a l).shm = s.shm := rfl
@[simp] theorem State.putBytes_sch (a : Nat) (l : List Byte) : (s.putBytes a l).sch = s.sch := rfl
@[simp] theorem State.putBytes_kv (a : Nat) (l : List Byte) : (s.putBytes a l).kv = s.kv := rfl
@[simp] theorem State.putBytes_tu (a : Nat) (l : List Byte) : (s.putBytes a l).tu = s.tu := rfl
@[simp] theorem State.putBytes_ports (a : Nat) (l : List Byte) : (s.putBytes a l).ports = s.ports := rfl
@[simp] theorem State.putBytes_bench (a : Nat) (l : List Byte) : (s.putBytes a l).bench = s.bench := rfl
@[simp] theorem State.putBytes_link (a : Nat) (l : List Byte) : (s.putBytes a l).link = s.link := rfl
@[simp] theorem State.putBytes_clk (a : Nat) (l : List Byte) : (s.putBytes a l).clk = s.clk := rfl
@[simp] theorem State.putBytes_pwr (a : Nat) (l : List Byte) : (s.putBytes a l).pwr = s.pwr := rfl
@[simp] theorem State.putBytes_rel (a : Nat) (l : List Byte) : (s.putBytes a l).rel = s.rel := rfl
@[simp] theorem State.putBytes_tap (a : Nat) (l : List Byte) : (s.putBytes a l).tap = s.tap := rfl
@[simp] theorem State.putBytes_opt (a : Nat) (l : List Byte) : (s.putBytes a l).opt = s.opt := rfl
@[simp] theorem State.putBytes_lanes (a : Nat) (l : List Byte) : (s.putBytes a l).lanes = s.lanes := rfl

@[simp] theorem State.drawn_pending : (s.drawn).pending = s.pending := rfl
@[simp] theorem State.drawn_inputs : (s.drawn).inputs = s.inputs := rfl
@[simp] theorem State.drawn_fld : (s.drawn).fld = s.fld := rfl
@[simp] theorem State.drawn_mem : (s.drawn).mem = s.mem := rfl
@[simp] theorem State.drawn_poison : (s.drawn).poison = s.poison := rfl
@[simp] theorem State.drawn_us : (s.drawn).us = s.us := rfl
@[simp] theorem State.drawn_latch : (s.drawn).latch = s.latch := rfl
@[simp] theorem State.drawn_todLatch : (s.drawn).todLatch = s.todLatch := rfl
@[simp] theorem State.drawn_last : (s.drawn).last = s.last := rfl
@[simp] theorem State.drawn_wpAnswer : (s.drawn).wpAnswer = s.wpAnswer := rfl
@[simp] theorem State.drawn_wpAck : (s.drawn).wpAck = s.wpAck := rfl
@[simp] theorem State.drawn_islands : (s.drawn).islands = s.islands := rfl
@[simp] theorem State.drawn_sil : (s.drawn).sil = s.sil := rfl
@[simp] theorem State.drawn_trees : (s.drawn).trees = s.trees := rfl
@[simp] theorem State.drawn_terms : (s.drawn).terms = s.terms := rfl
@[simp] theorem State.drawn_windows : (s.drawn).windows = s.windows := rfl
@[simp] theorem State.drawn_allocs : (s.drawn).allocs = s.allocs := rfl
@[simp] theorem State.drawn_ge : (s.drawn).ge = s.ge := rfl
@[simp] theorem State.drawn_fallback : (s.drawn).fallback = s.fallback := rfl
@[simp] theorem State.drawn_mir : (s.drawn).mir = s.mir := rfl
@[simp] theorem State.drawn_prot : (s.drawn).prot = s.prot := rfl
@[simp] theorem State.drawn_frer : (s.drawn).frer = s.frer := rfl
@[simp] theorem State.drawn_rx : (s.drawn).rx = s.rx := rfl
@[simp] theorem State.drawn_bc : (s.drawn).bc = s.bc := rfl
@[simp] theorem State.drawn_pr : (s.drawn).pr = s.pr := rfl
@[simp] theorem State.drawn_fwd : (s.drawn).fwd = s.fwd := rfl
@[simp] theorem State.drawn_jnl : (s.drawn).jnl = s.jnl := rfl
@[simp] theorem State.drawn_shm : (s.drawn).shm = s.shm := rfl
@[simp] theorem State.drawn_sch : (s.drawn).sch = s.sch := rfl
@[simp] theorem State.drawn_kv : (s.drawn).kv = s.kv := rfl
@[simp] theorem State.drawn_tu : (s.drawn).tu = s.tu := rfl
@[simp] theorem State.drawn_ports : (s.drawn).ports = s.ports := rfl
@[simp] theorem State.drawn_bench : (s.drawn).bench = s.bench := rfl
@[simp] theorem State.drawn_link : (s.drawn).link = s.link := rfl
@[simp] theorem State.drawn_clk : (s.drawn).clk = s.clk := rfl
@[simp] theorem State.drawn_pwr : (s.drawn).pwr = s.pwr := rfl
@[simp] theorem State.drawn_rel : (s.drawn).rel = s.rel := rfl
@[simp] theorem State.drawn_tap : (s.drawn).tap = s.tap := rfl
@[simp] theorem State.drawn_opt : (s.drawn).opt = s.opt := rfl
@[simp] theorem State.drawn_lanes : (s.drawn).lanes = s.lanes := rfl

@[simp] theorem State.markPoison_pending (lo hi : Nat) : (s.markPoison lo hi).pending = s.pending := rfl
@[simp] theorem State.markPoison_inputs (lo hi : Nat) : (s.markPoison lo hi).inputs = s.inputs := rfl
@[simp] theorem State.markPoison_fld (lo hi : Nat) : (s.markPoison lo hi).fld = s.fld := rfl
@[simp] theorem State.markPoison_mem (lo hi : Nat) : (s.markPoison lo hi).mem = s.mem := rfl
@[simp] theorem State.markPoison_us (lo hi : Nat) : (s.markPoison lo hi).us = s.us := rfl
@[simp] theorem State.markPoison_freeCtr (lo hi : Nat) : (s.markPoison lo hi).freeCtr = s.freeCtr := rfl
@[simp] theorem State.markPoison_latch (lo hi : Nat) : (s.markPoison lo hi).latch = s.latch := rfl
@[simp] theorem State.markPoison_todLatch (lo hi : Nat) : (s.markPoison lo hi).todLatch = s.todLatch := rfl
@[simp] theorem State.markPoison_last (lo hi : Nat) : (s.markPoison lo hi).last = s.last := rfl
@[simp] theorem State.markPoison_wpAnswer (lo hi : Nat) : (s.markPoison lo hi).wpAnswer = s.wpAnswer := rfl
@[simp] theorem State.markPoison_wpAck (lo hi : Nat) : (s.markPoison lo hi).wpAck = s.wpAck := rfl
@[simp] theorem State.markPoison_islands (lo hi : Nat) : (s.markPoison lo hi).islands = s.islands := rfl
@[simp] theorem State.markPoison_sil (lo hi : Nat) : (s.markPoison lo hi).sil = s.sil := rfl
@[simp] theorem State.markPoison_trees (lo hi : Nat) : (s.markPoison lo hi).trees = s.trees := rfl
@[simp] theorem State.markPoison_terms (lo hi : Nat) : (s.markPoison lo hi).terms = s.terms := rfl
@[simp] theorem State.markPoison_windows (lo hi : Nat) : (s.markPoison lo hi).windows = s.windows := rfl
@[simp] theorem State.markPoison_allocs (lo hi : Nat) : (s.markPoison lo hi).allocs = s.allocs := rfl
@[simp] theorem State.markPoison_ge (lo hi : Nat) : (s.markPoison lo hi).ge = s.ge := rfl
@[simp] theorem State.markPoison_fallback (lo hi : Nat) : (s.markPoison lo hi).fallback = s.fallback := rfl
@[simp] theorem State.markPoison_mir (lo hi : Nat) : (s.markPoison lo hi).mir = s.mir := rfl
@[simp] theorem State.markPoison_prot (lo hi : Nat) : (s.markPoison lo hi).prot = s.prot := rfl
@[simp] theorem State.markPoison_frer (lo hi : Nat) : (s.markPoison lo hi).frer = s.frer := rfl
@[simp] theorem State.markPoison_rx (lo hi : Nat) : (s.markPoison lo hi).rx = s.rx := rfl
@[simp] theorem State.markPoison_bc (lo hi : Nat) : (s.markPoison lo hi).bc = s.bc := rfl
@[simp] theorem State.markPoison_pr (lo hi : Nat) : (s.markPoison lo hi).pr = s.pr := rfl
@[simp] theorem State.markPoison_fwd (lo hi : Nat) : (s.markPoison lo hi).fwd = s.fwd := rfl
@[simp] theorem State.markPoison_jnl (lo hi : Nat) : (s.markPoison lo hi).jnl = s.jnl := rfl
@[simp] theorem State.markPoison_shm (lo hi : Nat) : (s.markPoison lo hi).shm = s.shm := rfl
@[simp] theorem State.markPoison_sch (lo hi : Nat) : (s.markPoison lo hi).sch = s.sch := rfl
@[simp] theorem State.markPoison_kv (lo hi : Nat) : (s.markPoison lo hi).kv = s.kv := rfl
@[simp] theorem State.markPoison_tu (lo hi : Nat) : (s.markPoison lo hi).tu = s.tu := rfl
@[simp] theorem State.markPoison_ports (lo hi : Nat) : (s.markPoison lo hi).ports = s.ports := rfl
@[simp] theorem State.markPoison_bench (lo hi : Nat) : (s.markPoison lo hi).bench = s.bench := rfl
@[simp] theorem State.markPoison_link (lo hi : Nat) : (s.markPoison lo hi).link = s.link := rfl
@[simp] theorem State.markPoison_clk (lo hi : Nat) : (s.markPoison lo hi).clk = s.clk := rfl
@[simp] theorem State.markPoison_pwr (lo hi : Nat) : (s.markPoison lo hi).pwr = s.pwr := rfl
@[simp] theorem State.markPoison_rel (lo hi : Nat) : (s.markPoison lo hi).rel = s.rel := rfl
@[simp] theorem State.markPoison_tap (lo hi : Nat) : (s.markPoison lo hi).tap = s.tap := rfl
@[simp] theorem State.markPoison_opt (lo hi : Nat) : (s.markPoison lo hi).opt = s.opt := rfl
@[simp] theorem State.markPoison_lanes (lo hi : Nat) : (s.markPoison lo hi).lanes = s.lanes := rfl

@[simp] theorem State.answer_pending (r c : Nat) (d : List Word64) : (s.answer r c d).pending = s.pending := rfl
@[simp] theorem State.answer_inputs (r c : Nat) (d : List Word64) : (s.answer r c d).inputs = s.inputs := rfl
@[simp] theorem State.answer_fld (r c : Nat) (d : List Word64) : (s.answer r c d).fld = s.fld := rfl
@[simp] theorem State.answer_mem (r c : Nat) (d : List Word64) : (s.answer r c d).mem = s.mem := rfl
@[simp] theorem State.answer_poison (r c : Nat) (d : List Word64) : (s.answer r c d).poison = s.poison := rfl
@[simp] theorem State.answer_us (r c : Nat) (d : List Word64) : (s.answer r c d).us = s.us := rfl
@[simp] theorem State.answer_freeCtr (r c : Nat) (d : List Word64) : (s.answer r c d).freeCtr = s.freeCtr := rfl
@[simp] theorem State.answer_latch (r c : Nat) (d : List Word64) : (s.answer r c d).latch = s.latch := rfl
@[simp] theorem State.answer_todLatch (r c : Nat) (d : List Word64) : (s.answer r c d).todLatch = s.todLatch := rfl
@[simp] theorem State.answer_wpAnswer (r c : Nat) (d : List Word64) : (s.answer r c d).wpAnswer = s.wpAnswer := rfl
@[simp] theorem State.answer_wpAck (r c : Nat) (d : List Word64) : (s.answer r c d).wpAck = s.wpAck := rfl
@[simp] theorem State.answer_islands (r c : Nat) (d : List Word64) : (s.answer r c d).islands = s.islands := rfl
@[simp] theorem State.answer_sil (r c : Nat) (d : List Word64) : (s.answer r c d).sil = s.sil := rfl
@[simp] theorem State.answer_trees (r c : Nat) (d : List Word64) : (s.answer r c d).trees = s.trees := rfl
@[simp] theorem State.answer_terms (r c : Nat) (d : List Word64) : (s.answer r c d).terms = s.terms := rfl
@[simp] theorem State.answer_windows (r c : Nat) (d : List Word64) : (s.answer r c d).windows = s.windows := rfl
@[simp] theorem State.answer_allocs (r c : Nat) (d : List Word64) : (s.answer r c d).allocs = s.allocs := rfl
@[simp] theorem State.answer_ge (r c : Nat) (d : List Word64) : (s.answer r c d).ge = s.ge := rfl
@[simp] theorem State.answer_fallback (r c : Nat) (d : List Word64) : (s.answer r c d).fallback = s.fallback := rfl
@[simp] theorem State.answer_mir (r c : Nat) (d : List Word64) : (s.answer r c d).mir = s.mir := rfl
@[simp] theorem State.answer_prot (r c : Nat) (d : List Word64) : (s.answer r c d).prot = s.prot := rfl
@[simp] theorem State.answer_frer (r c : Nat) (d : List Word64) : (s.answer r c d).frer = s.frer := rfl
@[simp] theorem State.answer_rx (r c : Nat) (d : List Word64) : (s.answer r c d).rx = s.rx := rfl
@[simp] theorem State.answer_bc (r c : Nat) (d : List Word64) : (s.answer r c d).bc = s.bc := rfl
@[simp] theorem State.answer_pr (r c : Nat) (d : List Word64) : (s.answer r c d).pr = s.pr := rfl
@[simp] theorem State.answer_fwd (r c : Nat) (d : List Word64) : (s.answer r c d).fwd = s.fwd := rfl
@[simp] theorem State.answer_jnl (r c : Nat) (d : List Word64) : (s.answer r c d).jnl = s.jnl := rfl
@[simp] theorem State.answer_shm (r c : Nat) (d : List Word64) : (s.answer r c d).shm = s.shm := rfl
@[simp] theorem State.answer_sch (r c : Nat) (d : List Word64) : (s.answer r c d).sch = s.sch := rfl
@[simp] theorem State.answer_kv (r c : Nat) (d : List Word64) : (s.answer r c d).kv = s.kv := rfl
@[simp] theorem State.answer_tu (r c : Nat) (d : List Word64) : (s.answer r c d).tu = s.tu := rfl
@[simp] theorem State.answer_ports (r c : Nat) (d : List Word64) : (s.answer r c d).ports = s.ports := rfl
@[simp] theorem State.answer_bench (r c : Nat) (d : List Word64) : (s.answer r c d).bench = s.bench := rfl
@[simp] theorem State.answer_link (r c : Nat) (d : List Word64) : (s.answer r c d).link = s.link := rfl
@[simp] theorem State.answer_clk (r c : Nat) (d : List Word64) : (s.answer r c d).clk = s.clk := rfl
@[simp] theorem State.answer_pwr (r c : Nat) (d : List Word64) : (s.answer r c d).pwr = s.pwr := rfl
@[simp] theorem State.answer_rel (r c : Nat) (d : List Word64) : (s.answer r c d).rel = s.rel := rfl
@[simp] theorem State.answer_tap (r c : Nat) (d : List Word64) : (s.answer r c d).tap = s.tap := rfl
@[simp] theorem State.answer_opt (r c : Nat) (d : List Word64) : (s.answer r c d).opt = s.opt := rfl
@[simp] theorem State.answer_lanes (r c : Nat) (d : List Word64) : (s.answer r c d).lanes = s.lanes := rfl

@[simp] theorem State.get_modIsl (n : Nat) (g : IslSt → IslSt) (x : Fld) : (s.modIsl n g).get x = s.get x := rfl
@[simp] theorem State.get_modTree (t : Nat) (g : TreeSt → TreeSt) (x : Fld) : (s.modTree t g).get x = s.get x := rfl
@[simp] theorem State.get_modTerm (t o : Nat) (g : Term → Term) (x : Fld) : (s.modTerm t o g).get x = s.get x := rfl
@[simp] theorem State.get_modAlloc (t i : Nat) (g : Alloc → Alloc) (x : Fld) : (s.modAlloc t i g).get x = s.get x := rfl
@[simp] theorem State.get_putBytes (a : Nat) (l : List Byte) (x : Fld) : (s.putBytes a l).get x = s.get x := rfl
@[simp] theorem State.get_drawn (x : Fld) : (s.drawn).get x = s.get x := rfl
@[simp] theorem State.get_markPoison (lo hi : Nat) (x : Fld) : (s.markPoison lo hi).get x = s.get x := rfl
@[simp] theorem State.get_answer (r c : Nat) (d : List Word64) (x : Fld) : (s.answer r c d).get x = s.get x := rfl

@[simp] theorem State.tree_modTree_self (t : Nat) (g : TreeSt → TreeSt) : (s.modTree t g).tree t = g (s.tree t) :=
  mgetD_mmod_self t _ g s.trees

theorem State.tree_modTree_other {t u : Nat} (h : u ≠ t) (g : TreeSt → TreeSt) : (s.modTree t g).tree u = s.tree u :=
  mgetD_mmod_other h _ _ g s.trees

@[simp] theorem State.term_modTerm_self (t o : Nat) (g : Term → Term) : (s.modTerm t o g).term t o = g (s.term t o) :=
  mgetD_mmod_self _ _ g s.terms

theorem State.term_modTerm_other {t o u p : Nat} (h : termKey u p ≠ termKey t o) (g : Term → Term) :
    (s.modTerm t o g).term u p = s.term u p := mgetD_mmod_other h _ _ g s.terms

@[simp] theorem State.islSt_modIsl_self (n : Nat) (g : IslSt → IslSt) : (s.modIsl n g).islSt n = g (s.islSt n) :=
  mgetD_mmod_self n _ g s.islands

theorem State.islSt_modIsl_other {n m : Nat} (h : m ≠ n) (g : IslSt → IslSt) : (s.modIsl n g).islSt m = s.islSt m :=
  mgetD_mmod_other h _ _ g s.islands

@[simp] theorem State.alloc_modAlloc_self (t i : Nat) (g : Alloc → Alloc) : (s.modAlloc t i g).alloc t i = g (s.alloc t i) :=
  mgetD_mmod_self _ _ g s.allocs

end Sys2Proof.Machine
end

