-- ==== Sys2Proof/Laws/Settle.lean ====
section
/-! SUPPORT. What sending a message, writing a work item and settling after a command can change, said once. -/

namespace Sys2Proof.Machine

variable (s : State)

/-! ## Messages -/

/-- Sending changes the queue, the unacknowledged messages, the sequence number, the credits, the turn and what waits on the line, and
nothing else of the link. -/
theorem Link.pump_eq (n : Nat) (l : Link) : ∃ q u x a p e,
    Link.pump n l = { l with txq := q, unacked := u, nextTx := x, txAvail := a, altPool2 := p, line := e } := by
  induction n generalizing l with
  | zero => exact ⟨_, _, _, _, _, _, rfl⟩
  | succ n ih =>
    simp only [Link.pump]
    split
    · exact ⟨_, _, _, _, _, _, rfl⟩
    · rename_i m _
      obtain ⟨q, u, x, a, p, e, h⟩ := ih (l.sendOne m)
      exact ⟨q, u, x, a, p, e, by rw [h]; rfl⟩

theorem State.sendMsg_eq (pool : Nat) (b : List (BitVec 64)) : ∃ q u x a p e,
    s.sendMsg pool b = { s with link := { s.link with
      txq := q, unacked := u, nextTx := x, txAvail := a, altPool2 := p, line := e } } := by
  unfold State.sendMsg
  split
  · obtain ⟨q, u, x, a, p, e, h⟩ := Link.pump_eq (s.link.txq ++ [LMsg.mk pool b]).length
      { s.link with txq := s.link.txq ++ [LMsg.mk pool b] }
    exact ⟨q, u, x, a, p, e, by simp only [h]⟩
  · exact ⟨_, _, _, _, _, _, rfl⟩

/-! ## Work items -/

/-- The fields that a work item may write. -/
def wqField (k : Nat) : Prop := k = POL_WQ_FULL_CNT.count.key ∨ ∃ c, c < 10 ∧ k = (POL_WQ_PROD.index c).key

/-- An octet that lies in no work queue entry. -/
def State.outsideWq (s : State) (a : Nat) : Prop :=
  ∀ c e, c < 10 → e < 4096 → a < s.wqAddr c e ∨ s.wqAddr c e + 4160 ≤ a

theorem octetsBE_length (n v : Nat) : (octetsBE n v).length = n := by simp [octetsBE]

theorem itemOctets_length (k q d t n : Nat) (b : List Byte) : (itemOctets k q d t n b).length = 32 + b.length := by
  simp [itemOctets, octetsBE_length]; omega

/-- A work item goes to one of the ten cores, and to an entry of its ring. -/
theorem State.itemSlot_bound {kind tree tenant c e : Nat} (h : s.itemSlot kind tree tenant = some (c, e)) : c < 10 ∧ e < 4096 := by
  simp only [State.itemSlot, Option.map_eq_some_iff] at h
  obtain ⟨x, hx, h⟩ := h
  simp only [Prod.mk.injEq] at h
  obtain ⟨rfl, rfl⟩ := h
  refine ⟨?_, by omega⟩
  have act : ∀ y ∈ s.activeCores, y < 10 := fun y hy => by
    simpa using (List.mem_filter.mp hy).1
  have rot : ∀ n : Nat, ∀ y ∈ s.activeCores.drop n ++ s.activeCores.take n, y < 10 := fun n y hy => by
    rcases List.mem_append.mp hy with hy | hy
    · exact act y (List.mem_of_mem_drop hy)
    · exact act y (List.mem_of_mem_take hy)
  simp only [State.coreOfRank] at hx
  split at hx
  · rename_i z hz
    cases hx
    exact rot _ _ (List.mem_of_find?_eq_some hz)
  · exact rot _ _ (List.mem_of_mem_head? hx)

/-- Everything that writing a work item can do. -/
theorem State.workItem_eq (kind tree tenant : Nat) (b : List Byte) : ∃ f m w n,
    s.workItem kind tree tenant b = { s with fld := f, mem := m, rel := { s.rel with wq := w, wqSeq := n } } ∧
      (∀ x : Fld, ¬wqField x.key → (s.workItem kind tree tenant b).get x = s.get x) ∧
      (b.length ≤ 4128 → ∀ a, s.outsideWq a → memGet a m = memGet a s.mem) := by
  unfold State.workItem
  split
  · exact ⟨_, _, _, _, rfl, fun _ _ => rfl, fun _ _ _ => rfl⟩
  · rename_i c e hce
    have hb := s.itemSlot_bound hce
    split
    · refine ⟨_, _, _, _, rfl, fun x hx => ?_, fun _ _ _ => rfl⟩
      exact State.get_put_other (fun h => hx (.inl h)) s _
    · refine ⟨_, _, _, _, rfl, fun x hx => ?_, fun hl a ha => ?_⟩
      · rw [State.get_put_other (fun h => hx (.inr ⟨c, hb.1, h⟩))]
        rfl
      · refine memGet_memPuts_other _ ?_ s.mem
        have := ha c e hb.1 hb.2
        rw [itemOctets_length]
        omega

theorem State.wqAddr_congr {s t : State} (h : ∀ x : Fld, ¬wqField x.key → t.get x = s.get x) (c e : Nat) :
    t.wqAddr c e = s.wqAddr c e := by
  have hk : ¬wqField POL_WQ_BASE.base.key := by
    simp only [wqField, Fld.key, POL_WQ_BASE.base, POL_WQ_FULL_CNT.count, POL_WQ_PROD.index]
    rintro (h | ⟨c, _, h⟩) <;> omega
  simp only [State.wqAddr, State.hbmReg, h _ hk]

/-- Everything that a row of alarm items can do. -/
theorem State.alarms_eq (l : List Nat) (s : State) : ∃ f m w n,
    s.alarms l = { s with fld := f, mem := m, rel := { s.rel with wq := w, wqSeq := n } } ∧
      (∀ x : Fld, ¬wqField x.key → (s.alarms l).get x = s.get x) ∧
      (∀ a, s.outsideWq a → memGet a m = memGet a s.mem) := by
  induction l generalizing s with
  | nil => exact ⟨_, _, _, _, rfl, fun _ _ => rfl, fun _ _ => rfl⟩
  | cons b l ih =>
    simp only [State.alarms]
    obtain ⟨f1, m1, w1, n1, e1, g1, r1⟩ := s.workItem_eq 5 0 0 s.alarmBody
    obtain ⟨f2, m2, w2, n2, e2, g2, r2⟩ := ih (s.workItem 5 0 0 s.alarmBody)
    refine ⟨f2, m2, w2, n2, by rw [e2, e1], fun x hx => (g2 x hx).trans (g1 x hx), fun a ha => ?_⟩
    have hb : s.alarmBody.length ≤ 4128 := by simp [State.alarmBody, octetsBE_length]
    have ha2 : (s.workItem 5 0 0 s.alarmBody).outsideWq a := fun c e hc he => by
      rw [State.wqAddr_congr g1]
      exact ha c e hc he
    have hm : (s.workItem 5 0 0 s.alarmBody).mem = m1 := by rw [e1]
    rw [r2 a ha2, hm, r1 hb a ha]

/-! ## Settling -/

/-- The fields that settling may write. -/
def settleField (k : Nat) : Prop := wqField k ∨ k = CLK_STATUS.trim_locked.key ∨ k = CLK_EVENT.trim_lost.key

theorem State.trimWatch_eq : ∃ f o g,
    s.trimWatch = { s with fld := f, clk := { s.clk with trimOk := o, trimGood := g } } ∧
      (∀ x : Fld, x.key ≠ CLK_STATUS.trim_locked.key → x.key ≠ CLK_EVENT.trim_lost.key →
        s.trimWatch.get x = s.get x) := by
  unfold State.trimWatch
  split
  · exact ⟨_, _, _, rfl, fun _ _ _ => rfl⟩
  · split
    · exact ⟨_, _, _, rfl, fun _ _ _ => rfl⟩
    · refine ⟨_, _, _, rfl, fun x h1 h2 => ?_⟩
      exact (State.get_put_other h2 (s.put CLK_STATUS.trim_locked 0) 1).trans (State.get_put_other h1 s 0)

/-- Everything that the interrupt logic can do. -/
theorem State.irq_eq (s : State) : ∃ f m w n q u x a p e,
    s.irq = { s with
      fld := f, mem := m
      rel := { s.rel with wq := w, wqSeq := n, lastPol := s.polMasked }
      link := { s.link with
        txq := q, unacked := u, nextTx := x, txAvail := a, altPool2 := p, line := e, lastMasked := s.hostMasked } } ∧
    (∀ y : Fld, ¬wqField y.key → s.irq.get y = s.get y) ∧
    (∀ y, s.outsideWq y → memGet y m = memGet y s.mem) := by
  have h1 : ∃ q u x a p e, (if s.link.lastMasked = 0 ∧ s.hostMasked ≠ 0 then s.sendInt s.hostMasked else s) =
      { s with link := { s.link with txq := q, unacked := u, nextTx := x, txAvail := a, altPool2 := p, line := e } } := by
    split
    · exact s.sendMsg_eq _ _
    · exact ⟨_, _, _, _, _, _, rfl⟩
  obtain ⟨q, u, x, a, p, e, e1⟩ := h1
  obtain ⟨f, m, w, n, e2, g2, r2⟩ := State.alarms_eq s.risen
    { s with link := { s.link with txq := q, unacked := u, nextTx := x, txAvail := a, altPool2 := p, line := e } }
  refine ⟨f, m, w, n, q, u, x, a, p, e, ?_, ?_, ?_⟩
  · simp only [State.irq, e1, e2]
  · intro y hy
    have := g2 y hy
    simp only [State.irq, e1]
    exact this
  · exact r2

/-- Everything that settling after a command can do. -/
theorem State.settle_eq (s : State) : ∃ f m w n lp q u x a p e lm o g,
    s.settle = { s with
      fld := f, mem := m
      clk := { s.clk with trimOk := o, trimGood := g }
      rel := { s.rel with wq := w, wqSeq := n, lastPol := lp }
      link := { s.link with txq := q, unacked := u, nextTx := x, txAvail := a, altPool2 := p, line := e, lastMasked := lm } } ∧
    (∀ y : Fld, ¬settleField y.key → s.settle.get y = s.get y) ∧
    (∀ y, s.outsideWq y → memGet y m = memGet y s.mem) := by
  obtain ⟨f1, o, g, e1, g1⟩ := s.trimWatch_eq
  obtain ⟨f, m, w, n, q, u, x, a, p, e, e2, g2, r2⟩ := s.trimWatch.irq_eq
  refine ⟨f, m, w, n, s.trimWatch.polMasked, q, u, x, a, p, e, s.trimWatch.hostMasked, o, g, ?_, ?_, ?_⟩
  · simp only [State.settle, e2]
    simp only [e1]
  · intro y hy
    have hy1 : ¬wqField y.key := fun h => hy (.inl h)
    exact (g2 y hy1).trans (g1 y (fun h => hy (.inr (.inl h))) (fun h => hy (.inr (.inr h))))
  · intro y hy
    have hm : s.trimWatch.mem = s.mem := by rw [e1]
    have hb : s.trimWatch.get POL_WQ_BASE.base = s.get POL_WQ_BASE.base :=
      g1 _ (by decide) (by decide)
    have hw : s.trimWatch.outsideWq y := fun c e hc he => by
      have := hy c e hc he
      simpa only [State.wqAddr, State.hbmReg, hb] using this
    rw [r2 y hw, hm]

/-- The fields that settling may write lie at and above CLK_STATUS. -/
theorem not_settleField_of_lt {k : Nat} (h : k < 0xC0000010 * 32) : ¬settleField k := by
  simp only [settleField, wqField, Fld.key, POL_WQ_FULL_CNT.count, POL_WQ_PROD.index, CLK_STATUS.trim_locked, CLK_EVENT.trim_lost]
  rintro ((h' | ⟨c, _, h'⟩) | h' | h') <;> omega

/-- A field that settling does not write reads as before. -/
theorem State.settle_get {y : Fld} (h : ¬settleField y.key) : s.settle.get y = s.get y := by
  obtain ⟨_, _, _, _, _, _, _, _, _, _, _, _, _, _, _, h1, _⟩ := s.settle_eq
  exact h1 y h

@[simp] theorem State.settle_pending : s.settle.pending = s.pending := by
  obtain ⟨_, _, _, _, _, _, _, _, _, _, _, _, _, _, h, _⟩ := s.settle_eq
  rw [h]

@[simp] theorem State.settle_poison : s.settle.poison = s.poison := by
  obtain ⟨_, _, _, _, _, _, _, _, _, _, _, _, _, _, h, _⟩ := s.settle_eq
  rw [h]

@[simp] theorem State.settle_us : s.settle.us = s.us := by
  obtain ⟨_, _, _, _, _, _, _, _, _, _, _, _, _, _, h, _⟩ := s.settle_eq
  rw [h]

@[simp] theorem State.settle_freeCtr : s.settle.freeCtr = s.freeCtr := by
  obtain ⟨_, _, _, _, _, _, _, _, _, _, _, _, _, _, h, _⟩ := s.settle_eq
  rw [h]

@[simp] theorem State.settle_latch : s.settle.latch = s.latch := by
  obtain ⟨_, _, _, _, _, _, _, _, _, _, _, _, _, _, h, _⟩ := s.settle_eq
  rw [h]

@[simp] theorem State.settle_todLatch : s.settle.todLatch = s.todLatch := by
  obtain ⟨_, _, _, _, _, _, _, _, _, _, _, _, _, _, h, _⟩ := s.settle_eq
  rw [h]

@[simp] theorem State.settle_last : s.settle.last = s.last := by
  obtain ⟨_, _, _, _, _, _, _, _, _, _, _, _, _, _, h, _⟩ := s.settle_eq
  rw [h]

@[simp] theorem State.settle_wpAnswer : s.settle.wpAnswer = s.wpAnswer := by
  obtain ⟨_, _, _, _, _, _, _, _, _, _, _, _, _, _, h, _⟩ := s.settle_eq
  rw [h]

@[simp] theorem State.settle_islands : s.settle.islands = s.islands := by
  obtain ⟨_, _, _, _, _, _, _, _, _, _, _, _, _, _, h, _⟩ := s.settle_eq
  rw [h]

@[simp] theorem State.settle_sil : s.settle.sil = s.sil := by
  obtain ⟨_, _, _, _, _, _, _, _, _, _, _, _, _, _, h, _⟩ := s.settle_eq
  rw [h]

@[simp] theorem State.settle_trees : s.settle.trees = s.trees := by
  obtain ⟨_, _, _, _, _, _, _, _, _, _, _, _, _, _, h, _⟩ := s.settle_eq
  rw [h]

@[simp] theorem State.settle_terms : s.settle.terms = s.terms := by
  obtain ⟨_, _, _, _, _, _, _, _, _, _, _, _, _, _, h, _⟩ := s.settle_eq
  rw [h]

@[simp] theorem State.settle_windows : s.settle.windows = s.windows := by
  obtain ⟨_, _, _, _, _, _, _, _, _, _, _, _, _, _, h, _⟩ := s.settle_eq
  rw [h]

@[simp] theorem State.settle_allocs : s.settle.allocs = s.allocs := by
  obtain ⟨_, _, _, _, _, _, _, _, _, _, _, _, _, _, h, _⟩ := s.settle_eq
  rw [h]

@[simp] theorem State.settle_ge : s.settle.ge = s.ge := by
  obtain ⟨_, _, _, _, _, _, _, _, _, _, _, _, _, _, h, _⟩ := s.settle_eq
  rw [h]

@[simp] theorem State.settle_fallback : s.settle.fallback = s.fallback := by
  obtain ⟨_, _, _, _, _, _, _, _, _, _, _, _, _, _, h, _⟩ := s.settle_eq
  rw [h]

@[simp] theorem State.settle_mir : s.settle.mir = s.mir := by
  obtain ⟨_, _, _, _, _, _, _, _, _, _, _, _, _, _, h, _⟩ := s.settle_eq
  rw [h]

@[simp] theorem State.settle_prot : s.settle.prot = s.prot := by
  obtain ⟨_, _, _, _, _, _, _, _, _, _, _, _, _, _, h, _⟩ := s.settle_eq
  rw [h]

@[simp] theorem State.settle_frer : s.settle.frer = s.frer := by
  obtain ⟨_, _, _, _, _, _, _, _, _, _, _, _, _, _, h, _⟩ := s.settle_eq
  rw [h]

@[simp] theorem State.settle_rx : s.settle.rx = s.rx := by
  obtain ⟨_, _, _, _, _, _, _, _, _, _, _, _, _, _, h, _⟩ := s.settle_eq
  rw [h]

@[simp] theorem State.settle_bc : s.settle.bc = s.bc := by
  obtain ⟨_, _, _, _, _, _, _, _, _, _, _, _, _, _, h, _⟩ := s.settle_eq
  rw [h]

@[simp] theorem State.settle_pr : s.settle.pr = s.pr := by
  obtain ⟨_, _, _, _, _, _, _, _, _, _, _, _, _, _, h, _⟩ := s.settle_eq
  rw [h]

@[simp] theorem State.settle_fwd : s.settle.fwd = s.fwd := by
  obtain ⟨_, _, _, _, _, _, _, _, _, _, _, _, _, _, h, _⟩ := s.settle_eq
  rw [h]

@[simp] theorem State.settle_jnl : s.settle.jnl = s.jnl := by
  obtain ⟨_, _, _, _, _, _, _, _, _, _, _, _, _, _, h, _⟩ := s.settle_eq
  rw [h]

@[simp] theorem State.settle_shm : s.settle.shm = s.shm := by
  obtain ⟨_, _, _, _, _, _, _, _, _, _, _, _, _, _, h, _⟩ := s.settle_eq
  rw [h]

@[simp] theorem State.settle_sch : s.settle.sch = s.sch := by
  obtain ⟨_, _, _, _, _, _, _, _, _, _, _, _, _, _, h, _⟩ := s.settle_eq
  rw [h]

@[simp] theorem State.settle_kv : s.settle.kv = s.kv := by
  obtain ⟨_, _, _, _, _, _, _, _, _, _, _, _, _, _, h, _⟩ := s.settle_eq
  rw [h]

@[simp] theorem State.settle_tu : s.settle.tu = s.tu := by
  obtain ⟨_, _, _, _, _, _, _, _, _, _, _, _, _, _, h, _⟩ := s.settle_eq
  rw [h]

@[simp] theorem State.settle_ports : s.settle.ports = s.ports := by
  obtain ⟨_, _, _, _, _, _, _, _, _, _, _, _, _, _, h, _⟩ := s.settle_eq
  rw [h]

@[simp] theorem State.settle_bench : s.settle.bench = s.bench := by
  obtain ⟨_, _, _, _, _, _, _, _, _, _, _, _, _, _, h, _⟩ := s.settle_eq
  rw [h]

@[simp] theorem State.settle_inputs : s.settle.inputs = s.inputs := by
  obtain ⟨_, _, _, _, _, _, _, _, _, _, _, _, _, _, h, _⟩ := s.settle_eq
  rw [h]

@[simp] theorem State.settle_wpAck : s.settle.wpAck = s.wpAck := by
  obtain ⟨_, _, _, _, _, _, _, _, _, _, _, _, _, _, h, _⟩ := s.settle_eq
  rw [h]

@[simp] theorem State.settle_tap : s.settle.tap = s.tap := by
  obtain ⟨_, _, _, _, _, _, _, _, _, _, _, _, _, _, h, _⟩ := s.settle_eq
  rw [h]

@[simp] theorem State.settle_opt : s.settle.opt = s.opt := by
  obtain ⟨_, _, _, _, _, _, _, _, _, _, _, _, _, _, h, _⟩ := s.settle_eq
  rw [h]

@[simp] theorem State.settle_lanes : s.settle.lanes = s.lanes := by
  obtain ⟨_, _, _, _, _, _, _, _, _, _, _, _, _, _, h, _⟩ := s.settle_eq
  rw [h]

@[simp] theorem State.settle_pwr : s.settle.pwr = s.pwr := by
  obtain ⟨_, _, _, _, _, _, _, _, _, _, _, _, _, _, h, _⟩ := s.settle_eq
  rw [h]

end Sys2Proof.Machine
end

