-- ==== Sys2Proof/Laws/Step.lean ====
section
/-! SUPPORT. What a step does, said once: the front command of the queue, the front input, or one microsecond of the MGT clock. -/

namespace Sys2Proof.Machine

/-- A command's last act: the trim loop and the interrupt logic look at the state. -/
theorem State.done_eq (s : State) : s.done = .next s.settle := rfl

/-- A step with a command at the front of its queue is that command on the state with the queue's rest. -/
theorem step_of_pending {s : State} {c : Instr} {rest : List Instr} (h : s.pending = c :: rest) :
    step s = exec c { s with pending := rest } := by
  unfold step
  rw [h]

/-- A step with no command waiting is the front input on the state with the rest of the inputs. -/
theorem step_of_input {s : State} {x : Input} {rest : List Input} (h : s.pending = []) (hx : s.inputs = x :: rest) :
    step s = .next (State.input { s with inputs := rest } x).settle := by
  unfold step
  rw [h, hx]
  rfl

/-- A step with neither a command nor an input waiting is a tick. -/
theorem step_of_empty {s : State} (h : s.pending = []) (hi : s.inputs = []) : step s = .next s.tick := by
  unfold step
  rw [h, hi]

/-- An island in Run or Idle answers. -/
theorem State.up_of_lt {s : State} {n : Nat} (h : s.isl n < 2) : s.up n = true := by
  simp [State.up]
  omega

/-- An island in reset, Off or Failed does not. -/
theorem State.up_of_ge {s : State} {n : Nat} (h : 2 ≤ s.isl n) : s.up n = false := by
  simp [State.up]
  omega

/-- A register of one island answers while the island is in Run or Idle. -/
theorem State.answers_one {s : State} {n : Nat} (h : s.isl n < 2) : s.answers [n] = true := by
  simp [State.answers, State.up_of_lt h]

/-- A one-bit field that is not 0 is on. -/
theorem State.on_of_ne {s : State} {f : Fld} (h : s.get f ≠ 0) : s.on f = true := by simpa [State.on] using h

/-- A one-bit field that is 0 is not. -/
theorem State.on_of_eq {s : State} {f : Fld} (h : s.get f = 0) : s.on f = false := by simpa [State.on] using h

end Sys2Proof.Machine
end

