-- ==== Sys2Proof/WellFormed.lean ====
section
/-! DEFINITION. Which commands are well-formed: the operands that lists and numbers hold lie within what the spec lets a message, a
frame or a table have. -/

namespace Sys2Proof

/-- A frame on a line: 64 to 16,384 octets with its FCS (R328, R402). -/
def frameLenOk (l : List Byte) : Bool := decide (64 ≤ l.length) && decide (l.length ≤ 16384)

/-- A PLOAM message has at most 48 octets (R117, the longer of the two standards). -/
def ploamLenOk (l : List Byte) : Bool := decide (l.length ≤ 48)

/-- A delimiter candidate names terminals, allocations and octets that exist (R95, R145). -/
def Candidate.wf (c : Candidate) : Bool :=
  c.reports.all (fun e => decide (e.1 < 512)) && c.idle.all (fun e => decide (e.1 < 512)) &&
    c.frames.all fun f => decide (f.payload.length ≤ 16384)

/-- What a transfer carries differs in nothing that the command could get wrong, and it goes from one island to another (R15). -/
def transferOk (src dst : Isl) : Bool := src != dst

/-- The command is well-formed. -/
def Instr.wf (c : Instr) : Bool :=
  match c with
  | .islandTransfer src dst _ _ => transferOk src dst
  | .stageWrite off octets => decide (0 < octets.length) && decide (off.toNat + octets.length ≤ 0x100000)
  | .loadStepTimeout n => decide (n ≤ 96)
  | .upstreamBurstDue _ cands => cands.all Candidate.wf
  | .optTransactionEnd _ nack read => decide (read.octets.length ≤ 16) && (nack.isNone || read.octets.isEmpty)
  | .snResponse _ _ _ _ _ msg => ploamLenOk msg.octets
  | .ploamReceived _ _ _ _ body => ploamLenOk body
  | .mapBuildEnd _ diffs => decide ((diffs.map (·.tree)).Nodup)
  | .mapSeal unacked => decide unacked.Nodup
  | .prismPassEnd ids => decide ids.Nodup
  | .bufferSpill ids => decide ids.Nodup
  | .uplinkFrameRx _ octets => frameLenOk octets
  | .messageReceived _ _ _ body => decide (0 < body.length) && decide (body.length ≤ 2054)
  | .dmaWr _ _ words => decide (0 < words.length) && decide (words.length ≤ 1024)
  | .excTx _ octets => decide (octets.length ≤ 16380)
  | .wpClearAlert octets => decide (octets.length ≤ 32)
  | _ => true

end Sys2Proof
end

