-- ==== Sys2Proof/Tests/Slice0.lean ====
section
/-! SUPPORT. Tests of the model on small states: the well-formedness checks, the worked examples of the spec, and for each statement with
hypotheses a state and operands that meet them. -/

namespace Sys2Proof.Tests

set_option Elab.async false

open Sys2Proof.Machine

/-! ## Well-formed commands: an ill-formed term for each check -/

theorem test_wf_transfer : (Instr.islandTransfer 3 3 .other false).wf = false ∧ (Instr.islandTransfer 3 4 .other false).wf = true := by decide
theorem test_wf_stage_write : (Instr.stageWrite 0xFFFFF [0, 1]).wf = false ∧ (Instr.stageWrite 0 []).wf = false ∧
    (Instr.stageWrite 0xFFFFF [0]).wf = true := by decide
theorem test_wf_load_step : (Instr.loadStepTimeout 97).wf = false ∧ (Instr.loadStepTimeout 96).wf = true := by decide
theorem test_wf_optics : (Instr.optTransactionEnd 0 (some 1) ⟨false, [1]⟩).wf = false ∧
    (Instr.optTransactionEnd 0 none ⟨false, List.replicate 17 0⟩).wf = false ∧ (Instr.optTransactionEnd 0 none ⟨false, [1]⟩).wf = true := by decide +kernel
theorem test_wf_sn_response : (Instr.snResponse 0 0 0 0 0 ⟨true, true, List.replicate 49 0⟩).wf = false := by decide +kernel
theorem test_wf_ploam : (Instr.ploamReceived 0 0 .acknowledge true (List.replicate 49 0)).wf = false := by decide +kernel
theorem test_wf_map_build_end : (Instr.mapBuildEnd 0 [⟨1, false, 0⟩, ⟨1, true, 1⟩]).wf = false := by decide
theorem test_wf_map_seal : (Instr.mapSeal [1, 1]).wf = false ∧ (Instr.mapSeal [1, 2]).wf = true := by decide
theorem test_wf_pass_end : (Instr.prismPassEnd [1, 1]).wf = false := by decide
theorem test_wf_spill : (Instr.bufferSpill [2, 2]).wf = false := by decide
theorem test_wf_uplink_frame : (Instr.uplinkFrameRx 0 (List.replicate 63 0)).wf = false ∧
    (Instr.uplinkFrameRx 0 (List.replicate 64 0)).wf = true := by decide +kernel
theorem test_wf_message : (Instr.messageReceived 0 0 true []).wf = false ∧ (Instr.messageReceived 0 0 true [0]).wf = true := by decide
theorem test_wf_dma_wr : (Instr.dmaWr 0 false []).wf = false ∧ (Instr.dmaWr 0 false (List.replicate 1025 0)).wf = false ∧
    (Instr.dmaWr 0 false [0]).wf = true := by decide +kernel
theorem test_wf_exc_tx : (Instr.excTx 0 (List.replicate 16381 0)).wf = false ∧ (Instr.excTx 0 [0]).wf = true := by
  simp only [Instr.wf, List.length_replicate]
  decide
theorem test_wf_long_frames : (Instr.uplinkFrameRx 0 (List.replicate 16385 0)).wf = false ∧
    (Instr.messageReceived 0 0 true (List.replicate 2055 0)).wf = false := by
  simp only [Instr.wf, frameLenOk, List.length_replicate]
  decide
theorem test_wf_candidates : (Instr.upstreamBurstDue 0 [⟨0, 0, true, 0, false, [(512, 0)], [], [], ⟨0, 0, 0, 0, 0, 0, 0, 0⟩⟩]).wf = false := by
  decide +kernel
theorem test_wf_clear_alert : (Instr.wpClearAlert (List.replicate 33 0)).wf = false := by decide +kernel

/-! ## States to test on -/

/-- The state that an outcome answers. -/
def nextOf (o : Host.Outcome State Fault Refusal) : State := match o with | .next t => t | _ => State.reset

/-- Every island in Run, the device in Run and Structured. -/
def run : State :=
  { (List.range 28).foldl (fun s n => s.put (MGT_ISLAND_STATE.island n) 0) ((State.reset.put PWR_STATUS.state 1).put SIL_STATUS.state 2)
      with islands := (List.range 28).map fun n => (n, { off := false }) }

/-- A state whose tree t has a TREE Drawer entry and a state. -/
def withTree (t : Nat) (e : TreeEntry) (st : Nat) (s : State) : State :=
  State.put { s with sil := { s.sil with running := { s.sil.running with trees := mset t e s.sil.running.trees } } } (TE_STATUS.state t) st

/-- Tree 5 in 50G mode at 49.7664 Gb/s upstream with a reach of 20 km (an example of the spec). -/
def tree5 : State := withTree 5 { enabled := true, maxReachKm := 20, diffReachKm := 20 } 3 run

/-- Run with the time keeper running. -/
def timed : State := { run with tu := { run.tu with running := true } }

/-- An element of an option is there, with a property. -/
theorem some_of {α : Type} {o : Option α} {p : α → Bool} (h : o.any p = true) : ∃ x, o = some x ∧ p x = true := by
  cases o with
  | none => simp at h
  | some x => exact ⟨x, rfl, by simpa using h⟩

/-! ## Worked examples of the spec -/

/-- A Registration at a time after z on tree 5, for a terminal in its ranging window. -/
def registered (n : Nat) : Term :=
  let d := n + 8 * tree5.preOct 5 3
  let s := (tree5.modTerm 5 1 fun x => { x with state := .ranging, step := .range, respNs := tree5.bitsNs 5 d }).setWindows 5
    [⟨some 1, 0, 52000, 0, false, true, 0⟩]
  (nextOf (exec (.registrationBurst 5 1 (BitVec.ofNat 25 d)) s)).term 5 1

/-- R125, R127: the three terminals of tree 5 in the example. -/
theorem test_eqd : tree5.teqBits 5 = 11695104 ∧ tree5.rmaxBits 5 = 9953280 ∧ (registered 6860000).eqd = 4835104 ∧
    (registered 9900000).eqd = 1795104 := by decide +kernel
theorem test_out_of_reach : (registered 10100000).state = .quarantine ∧ (registered 10100000).lastCause = 3 := by decide +kernel

/-- Tree 5 on trunk 1, of 1,450 m where trunk 0 has 1,200 m. -/
def onTrunk1 : State :=
  ((((State.put { tree5 with sil := { tree5.sil with running := { tree5.sil.running with asym := [(5, ⟨0, 1200, 0, 1450⟩)] } } }
    (TE_TRUNK.active 5) 1).put (TE_TRUNK.rt_ps_per_m 5) 9795).modTerm 5 1 fun x => { x with state := .operation, eqd := 4835104 }).modTerm 5 2
      fun x => { x with state := .operation, eqd := 1795104 })

/-- R133: the correction of the example, and the terminal that falls below the floor. -/
theorem test_trunk_delta : onTrunk1.trunkDelta 5 = -121865 := by decide +kernel
theorem test_trunk_correct : ((onTrunk1.trunkCorrect 5).term 5 1).eqd = 4713239 ∧ ((onTrunk1.trunkCorrect 5).term 5 2).lastCause = 3 ∧
    (onTrunk1.trunkCorrect 5).get (TE_RNG_EVENT.trunk_reach 5) = 1 := by decide +kernel

/-- The TDD pattern of the example: 40 slots, 0 to 23 at weight 1, 24 to 31 at 6, 32 to 39 protected. -/
def tdd5 : State :=
  (List.range 40).foldl (fun s j => s.put (TE_TDD_W.weight 5 j) (if j < 24 then 1 else if j < 32 then 6 else 15))
    ((tree5.put (TE_TDD_CFG.en 5) 1).put (TE_TDD_CFG.period_slots 5) 40)

/-- R123: the costs of the example, and the window placed at the start of slot 22. -/
theorem test_tdd_cost : tdd5.tddCost 5 (22 * 125000) 250000 = some 250000 ∧ tdd5.tddCost 5 (22 * 125000 + 15625) 250000 = some 328125 ∧
    tdd5.tddCost 5 (31 * 125000) 250000 = none := by decide +kernel

/-- An allocation of the example of map k of tree 12: index, class, agr_en, ONU, guar_oct, agr_max_oct, na_oct, weight, demand and age. -/
def alloc12 (i cls agr onu g a n wt dem age : Nat) : SnapAlloc :=
  ⟨i, BitVec.ofNat 64 (1 <<< 63 ||| cls <<< 61 ||| agr <<< 60 ||| 1 <<< 59 ||| onu <<< 48),
    BitVec.ofNat 64 (g <<< 44 ||| 194400 <<< 24 ||| a <<< 4), BitVec.ofNat 64 (n <<< 44 ||| wt <<< 36), dem, age, 224, 1, false, 0, {}⟩

/-- Allocations A to F of the example. -/
def allocs12 : List SnapAlloc :=
  [alloc12 0 0 0 3 20000 0 0 0 0 0, alloc12 1 3 0 3 0 0 0 4 8192 0, alloc12 2 1 1 7 30000 64000 0 0 16000 0,
    alloc12 3 2 0 9 0 0 40960 0 70000 0, alloc12 4 3 0 9 0 0 0 1 51200 7, alloc12 5 3 0 12 0 0 0 2 600000 0]

/-- The amounts of the example, the calibration burst taking 1,504 octets. -/
def amounts12 : Amt :=
  let m := pass3 32 allocs12 (pass2 32 allocs12 [⟨12, 7, 2, 30000, 60000, 51200, 0, 0, false⟩] (pass1 32 allocs12 { avail := 388800 }))
  pass7 32 allocs12 (pass6 32 0 allocs12 (pass5 32 256 allocs12 { m with avail := m.avail - 1504 }))

/-- R162: what A to F receive, and the 4,448 octets left. -/
theorem test_amounts : (List.range 6).map amounts12.g = [20000, 8192, 67200, 40960, 51200, 194400] ∧ amounts12.avail = 4448 := by decide +kernel

/-- The flow bucket of the example of R337 after tick 1. -/
def bucket4100 : State :=
  (State.putWord { timed with sch := { timed.sch with buckets := [(4100, ⟨-5720000000, 10000000, 16384, false⟩)] } }
    (schedAddr 4100) (1 <<< 63 ||| 2000000)).putWord (schedAddr 4100 + 8) (4096 <<< 39)

/-- Refill ticks of the flow's bucket. -/
def ticks (n : Nat) (s : State) : State := (List.range n).foldl (fun s _ => s.refill 4100) s

/-- R333, R336, R337: the balances of the example at ticks 2, 24 and 40, and a balance above the new burst. -/
theorem test_refill : ((ticks 1 bucket4100).bucket 4100).bal = -5464000000 ∧ ((ticks 23 bucket4100).bucket 4100).bal = 168000000 ∧
    ((ticks 39 bucket4100).bucket 4100).bal = 4096000000 := by decide +kernel
theorem test_refill_cuts : ((ticks 1 (bucket4100.setBucket 4100 ⟨12000000000, 10000000, 16384, false⟩)).bucket 4100).bal = 4096000000 := by
  decide +kernel

/-- R340: the gate list of the example: the longest class 7 window, a frame that fits and one that does not. -/
theorem test_gate_length :
    let l := layGates 250000 0 0 [(0x80, 800), (0x7F, 249200)]
    let s := (run.put (SCH_PORT_CFG.oct_per_us 33) 12500).put (SCH_PORT_CFG.ovh_adj 33) 20
    longestWindow 7 l = some 800 ∧ s.lengthOk 33 7 9600 0 l = true ∧ s.lengthOk 33 7 12000 0 l = false := by decide +kernel

/-- R408: the step-downs of the example, lanes 5, 2, 0 and 1 failing in turn. -/
theorem test_step_down :
    let has (bad : List Nat) (k : Nat) : Bool := !bad.contains k
    stepDown (has [5]) 0 8 5 8 = (3, 0) ∧ stepDown (has [5, 2]) 0 4 5 4 = (2, 0) ∧ stepDown (has [5, 2, 0]) 0 2 5 2 = (1, 1) ∧
    stepDown (has [5, 2, 0, 1]) 1 1 5 1 = (0, 1) := by decide +kernel

/-- R477, R479: the cap of the example with 22, 21 and 20 phases, and the trees that are shed. -/
theorem test_cap : (run.put PWR_PHASE.in_service 22).cap = 1720 ∧ (run.put PWR_PHASE.in_service 21).cap = 1641 ∧
    (run.put PWR_PHASE.in_service 20).cap = 1563 := by decide +kernel

/-- 32 trees Active, shed in descending order. -/
def allActive : State :=
  State.put ((List.range 32).foldl (fun s t => s.put (TE_STATUS.state t) 3)
    { run with sil := { run.sil with running := { run.sil.running with shed := (List.range 32).reverse } } }) PWR_PHASE.in_service 21

theorem test_shed : allActive.est = 1720 ∧ allActive.shed.get PWR_SHED_CNT.count = 4 ∧ allActive.shed.est = 1620 := by decide +kernel

/-- n correctable errors in group 17. -/
def errors (n : Nat) (s : State) : State :=
  (List.range n).foldl (fun s _ => s.ceError 17) s

/-- n leak instants of group 17. -/
def leaks (n : Nat) (s : State) : State := (List.range n).foldl (fun s _ => s.leakGroup 17) s

/-- Group 17 of the example of R499, with a threshold of 8, up to the errors at 350 ms. -/
def group17 : State := errors 2 (leaks 1 (errors 4 (leaks 2 (errors 5 (run.put REL_CE_CFG.threshold 8)))))

theorem test_leaky_bucket : group17.get (REL_CE_LEVEL.value 17) = 8 ∧ bit1 (group17.get REL_CE_SUMMARY.value) 17 = true ∧
    17 ∈ group17.rel.disarmed := by decide +kernel
theorem test_leaky_bucket_rearms : 17 ∈ (leaks 3 group17).rel.disarmed ∧ 17 ∉ (leaks 4 group17).rel.disarmed := by decide +kernel

/-- R459: the counts of the two examples lie in the window, a crystal 6 % off does not. -/
theorem test_stability : run.inWindow 2 262144 = true ∧ run.inWindow 0 83886 = true ∧ run.inWindow 2 277873 = false := by decide +kernel

/-- The amount of a relative step (R391): S = -1 with M = 500,000,000. -/
theorem test_step_amount : ((run.put TU_STEP_S.value 0xFFFFFFFFFFFF).put TU_STEP_NS.value 500000000).relAmount = -500000000 := by decide +kernel

/-- The example of the address map: an event of tree 19 sets bit 2 of the summary. -/
theorem test_summary : (run.put (TE_EVENT.cs_took_over 19) 1).summary = 4 := by decide +kernel

/-! ## From reset -/

/-- R489: the boot order begins when a feed is there. -/
theorem test_boot : (nextOf (exec (.feedRestore false) State.reset)).pwr.step = .feed ∧
    (nextOf (exec .bootFeedEnd (nextOf (exec (.feedRestore false) State.reset)))).pwr.step = .island0 := by decide +kernel

/-- A command at the front of the queue is what a step runs; an empty queue is a tick of 1 µs. -/
theorem test_step : step { State.reset with pending := [.feedRestore false] } = exec (.feedRestore false) State.reset := by rfl
theorem test_tick : (nextOf (step State.reset)).us = 1 := by decide +kernel

/-- The table gives no bits to any row, so no word spells a command. -/
theorem test_no_words : decodeTableWord 32 0 = none ∧ State.reset.withFetchWord 32 0 = State.reset := by decide +kernel

/-- R9: MGT_IDENTITY is read-only; a write changes nothing, and it reads as it stood. -/
theorem test_read_only : (nextOf (exec (.wr32 1 0 0xFFFFFFFF) run)).last.status = 0 ∧
    (nextOf (exec (.rd32 1 0) (nextOf (exec (.wr32 1 0 0xFFFFFFFF) run)))).last.data = (nextOf (exec (.rd32 1 0) run)).last.data := by
  decide +kernel

/-! ## Witnesses: a state and operands that meet the hypotheses of each statement -/

theorem witness_StepRunsFrontCommand : ({ run with pending := [.sofTick] } : State).pending = .sofTick :: [] := rfl

theorem witness_EmptyQueueStepIsOneMicrosecond : State.reset.pending = [] ∧
    MGT_PROT_CFG.en.key ≠ TU_REMAIN.offset_ns.key ∧ MGT_PROT_CFG.en.key ≠ CLK_HOLDOVER.seconds.key := by decide +kernel

theorem witness_InputIsTaken : ({ run with inputs := [.tapClock true false] } : State).pending = [] ∧
    ({ run with inputs := [.tapClock true false] } : State).inputs = .tapClock true false :: [] := ⟨rfl, rfl⟩

theorem witness_EveryStepKeepsTheStateSettled : (State.reset.link.lastMasked = State.reset.hostMasked ∧
    State.reset.rel.lastPol = State.reset.polMasked ∧ State.reset.clk.trimOk = State.reset.trimUsable) ∧
    step State.reset = .next (nextOf (step State.reset)) := ⟨by decide +kernel, rfl⟩

theorem witness_SettlingLeavesTheRestAlone : MGT_PROT_CFG.en.key ≠ CLK_STATUS.trim_locked.key ∧
    MGT_PROT_CFG.en.key ≠ CLK_EVENT.trim_lost.key ∧ MGT_PROT_CFG.en.key ≠ POL_WQ_FULL_CNT.count.key ∧
    (∀ c < 10, MGT_PROT_CFG.en.key ≠ (POL_WQ_PROD.index c).key) ∧ ∀ c e, 0 < State.reset.wqAddr c e := by
  have h : 0 < State.reset.hbmReg POL_WQ_BASE.base := by decide +kernel
  refine ⟨by decide +kernel, by decide +kernel, by decide +kernel, by decide +kernel, fun c e => ?_⟩
  unfold State.wqAddr
  omega

theorem witness_UnmappedAccessIsCountedAndRecorded : (1 : Requester).val ≠ 0 ∧ ok32 0x0FFFFFFFC = true ∧ inStaging 0x0FFFFFFFC = false ∧
    tlogAt 0x0FFFFFFFC = none ∧ (findReg 0x0FFFFFFFC).isNone = true ∧ ok64 0x10F0000000 = true ∧ (findWin 0x10F0000000).isNone = true ∧
    MGT_PROT_CFG.en.key ≠ MGT_UNMAPPED_CNT.count.key ∧ MGT_PROT_CFG.en.key ≠ MGT_UNMAPPED_LAST.last.key := by decide +kernel

/-- The address of TE_CTRL_5 and of a word of the port table of tree 5, and one that is not aligned. -/
theorem witness_AnswersWithNoEffect : (1 : Requester).val ≠ 0 ∧
    (∃ h, findReg (TE_CTRL.state_req 5).addr = some h ∧ (h.holders == [3]) = true) ∧ ok32 (TE_CTRL.state_req 5).addr = true ∧
    inStaging (TE_CTRL.state_req 5).addr = false ∧ tlogAt (TE_CTRL.state_req 5).addr = none ∧ 2 ≤ State.reset.isl 3 ∧
    (findWin 0x1000028000 = some (.port 5 0) ∧ (Win.port 5 0).holders = [3] ∧ ∀ f t e n, Win.port 5 0 = .prism f t e n → f < 4) ∧
    ok64 0x1000028000 = true ∧ 2 % 4 ≠ 0 ∧ 4 % 8 ≠ 0 :=
  ⟨by decide, some_of (by decide +kernel), by decide +kernel, by decide +kernel, by decide +kernel, by decide +kernel,
    ⟨by rfl, by decide +kernel, fun _ _ _ _ h => by cases h⟩, by decide +kernel, by decide, by decide⟩

theorem witness_AccessReachesItsRegisterOrWord : (∃ h, findReg (TE_CTRL.state_req 5).addr = some h ∧ (h.holders == [3]) = true) ∧
    (∃ h, findReg MGT_PROT_CFG.en.addr = some h ∧ h.holders.isEmpty = true) ∧ run.isl 3 < 2 ∧ ok32 MGT_PROT_CFG.en.addr = true ∧
    inStaging MGT_PROT_CFG.en.addr = false ∧ tlogAt MGT_PROT_CFG.en.addr = none ∧ findWin 0x1000028000 = some (.port 5 0) ∧
    (Win.port 5 0).holders = [3] ∧ run.writeAnswers (.port 5 0) = true :=
  ⟨some_of (by decide +kernel), some_of (by decide +kernel), by decide +kernel, by decide +kernel, by decide +kernel, by decide +kernel,
    by rfl, by decide +kernel, by decide +kernel⟩

/-- TE_EVENT_5 (W1CS), MGT_PROT_CFG (RW), TE_STATUS_5 (RO) and TE_DELIM_FALSE_CNT_5 (RC) have fields of each kind. -/
theorem witness_RegisterAccessTypes : ∀ x ∈ [((TE_EVENT.key_wrap 5).addr, Acc.w1cs), (MGT_PROT_CFG.en.addr, .rw), ((TE_STATUS.state 5).addr, .ro),
      ((TE_DELIM_FALSE_CNT.count 5).addr, .rc)],
    ∃ h, findReg x.1 = some h ∧ (decide ((h.row.fields h.i h.j).map fun e => e.1.key).Nodup &&
      (h.row.fields h.i h.j).any (fun e => e.2 == x.2) && (h.row.fields h.i h.j).all fun e => decide (run.get e.1 < 2 ^ e.1.width)) = true :=
  fun x hx => some_of (by revert x; decide +kernel)

theorem witness_PairReadsFormOneValue : ∃ lo, findReg (PR_KPROF.mask 2).addr = some lo ∧ (!lo.hi && !lo.row.name.isTodS) = true :=
  some_of (by decide +kernel)

theorem witness_AWrittenWordReadsBack : Memory.wf (State.reset.putWord 0x1000028000 7).mem = true := by decide +kernel

/-- A request of the host in pool 0: an opcode, an address and data. -/
def asked (op a : Nat) (d : List Word64) : State :=
  { run with link := { run.link with rxq := [⟨0, 0, BitVec.ofNat 64 (op <<< 56 ||| a) :: d, false⟩], txAvail := [(0, 100)] } }

theorem witness_HostRegisterRequestIsExecuted :
    (∀ x ∈ [(asked 1 0x100 [], 1, 0x100), (asked 3 0x1000028000 [], 3, 0x1000028000), (asked 2 0x100 [5], 2, 0x100),
        (asked 4 0x1000028000 [9], 4, 0x1000028000)],
      ∃ q, x.1.headReq 0 = some q ∧ (x.1.ordOk q && x.1.holdsCredits 0 1 && q.isOp x.2.1 x.2.2) = true) ∧
    ((asked 2 0x100 [5]).headReq 0).any (fun q => q.body.getD 1 0 == (5#32).setWidth 64) = true :=
  ⟨fun x hx => some_of (by revert x; decide +kernel), by decide +kernel⟩

theorem witness_DmaFillAndExceptionFrames : run.headReq 1 = none ∧ run.headReq 2 = none ∧ run.linkUp = false ∧
    dmaOk 0x1000028000 16 8192 = true ∧ dmaOk 0x1000028000 8 (2 ^ 36) = true ∧ excWordOk (60 <<< 46) 60 = true ∧
    (run.dmaPuts [(0x1000028000, 1)]).2 = 0 ∧ (run.dmaPuts [(0x1000028004, 1)]).2 ≠ 0 := by decide +kernel

/-- The host's credits for responses in pool 1, with LINK about to reset after two words or not. -/
def dmaRun (c : Option Nat) : State := { run with link := { run.link with txAvail := [(1, 2000)], caught := c } }

theorem witness_DmaCommandsAreTaken :
    (∀ c ∈ [none, some 2], (dmaRun c).link.caught = c ∧
      ((dmaRun c).takeReq 1 1 (fun q => q.isDmaWr 0x1000028000 true [0, 0]) = some (dmaRun c, 0)) ∧
      ((dmaRun c).takeReq 1 1 (fun q => q.isFill 0x1000028000 16 7) = some (dmaRun c, 0)) ∧
      (dmaRun c).takeReq 1 (ceilDiv (1 + 16 / 8) 8) (fun q => q.isDmaRd 0x1000028000 16) = some (dmaRun c, 0)) ∧
    dmaOk 0x1000028000 ((dmaRun none).dmaWrLen [0, 0]) 8192 = true ∧ dmaOk 0x1000028004 ((dmaRun none).dmaWrLen [0, 0]) 8192 = false ∧
    dmaOk 0x1000028000 8200 8192 = false ∧ dmaOk 0x1000028000 (2 ^ 36 + 8) (2 ^ 36) = false := by decide +kernel

/-- Island n in reset, at a step. -/
def resetting (n : Nat) (p : RstStep) : State :=
  (run.put (MGT_ISLAND_STATE.island n) 2).modIsl n fun x => { x with step := p, off := false, heldSummary := 5 }

theorem witness_IslandResetRequestsBeginFence : run.isl 3 ≠ 2 ∧ run.isOff 3 = false ∧ run.isl 3 = 0 ∧ (resetting 3 .fence).isl 3 = 2 ∧
    State.reset.isOff 3 = true ∧ State.reset.isl 3 ≠ 0 := by decide +kernel

theorem witness_ResetSequenceStepsInOrder : (∀ p ∈ [RstStep.fence, .assert, .restore, .rejoin],
      (resetting 3 p).isl 3 = 2 ∧ ((resetting 3 p).islSt 3).step = p) ∧
    (resetting 18 .rejoin).isl 18 = 2 ∧ ((resetting 18 .rejoin).islSt 18).step = .rejoin ∧
    ((resetting 18 .rejoin).put JNL_STATUS.none 1).inService true = false := by decide +kernel

theorem witness_ClockGatingHandshake : run.isl 3 = 0 ∧ Config.idleCapable 3 = true ∧ run.get (MGT_IDLE_TIMER.timer_us 3) ≠ 0 ∧
    Config.idleCapable 0 = false ∧ (run.put (MGT_IDLE_TIMER.timer_us 3) 0).get (MGT_IDLE_TIMER.timer_us 3) = 0 ∧ State.reset.isl 3 ≠ 0 ∧
    (let s := run.modIsl 3 fun x => { x with gateReq := true }
     (s.islSt 3).gateReq = true ∧ s.isl 3 = 0) ∧ (run.put (MGT_ISLAND_STATE.island 3) 1).isl 3 = 1 ∧ run.isl 3 ≠ 1 := by decide +kernel

/-- A state in which a frame with id 4 stands in the Prism. -/
def withFrame (f : InFrame) (s : State) : State := { s with pr := { s.pr with frames := s.pr.frames ++ [f] } }

theorem witness_TransfersAndTheirParity : run.isl 4 < 2 ∧ (run.put (MGT_ISLAND_STATE.island 4) 1).isl 4 < 2 ∧
    (withFrame { id := 4, octets := [], origin := .uplink 0, stage := .spill, slice := 0 } run).frame 4 =
      some { id := 4, octets := [], origin := .uplink 0, stage := .spill, slice := 0 } ∧
    (∀ k ∈ [1, 2], mgetD (3 * 32 + 4) 0 (nset (3 * 32 + 4) k []) = k) ∧ mgetD (3 * 32 + 4) 0 run.rel.crossRetry = 0 := by decide +kernel

theorem witness_SummaryBitIsHeldFromFenceToRejoin : ∃ b < 23, b ≠ 2 ∧ blockIslands b = [10] ∧ (resetting 10 .fence).isl 10 = 2 := by
  decide +kernel

theorem witness_BusySilIgnoresStagingAndLoad : (run.put SIL_STATUS.busy 1).get SIL_STATUS.busy ≠ 0 := by decide +kernel

/-- A load at a step, of an image with a magic that is wrong, or of no length. -/
def loading (p : SilStep) : State :=
  let s := (run.put SIL_STATUS.busy 1).put SIL_STATUS.state 1
  { s with sil := { s.sil with step := p } }

/-- A load in Parse of an image of 288 octets of 0, and of none. -/
def badImage : State := (loading .parse).put SIL_STAGE_LEN.length 288

/-- A partial image with the PRIV Drawer alone, of zeros: header, directory, Drawer, signature block. -/
def privImage : List Byte :=
  octetsBE 4 0x4E425349 ++ octetsBE 2 1 ++ [2, BitVec.ofNat 8 (run.get MGT_IDENTITY.rev)] ++ octetsBE 4 288 ++ [1, 0] ++ octetsBE 2 0 ++
    List.replicate 20 0 ++ octetsBE 4 88 ++ List.replicate 24 0 ++
    ([6, 1, 0, 0] ++ octetsBE 4 80 ++ octetsBE 4 8 ++ octetsBE 4 (crc32 (List.replicate 8 0))) ++ List.replicate 8 0 ++ octetsBE 2 1 ++
    List.replicate 198 0

/-- The partial image staged, in a load of a device that was Structured. -/
def staged (p : SilStep) : State :=
  let s := ((loading p).putBytes stageBase privImage).put SIL_STAGE_LEN.length 288
  { s.put SIL_STATUS.partial 1 with sil := { s.sil with step := p, wasStructured := true } }

theorem witness_LoadSequenceAndItsFailures : run.get SIL_STATUS.busy = 0 ∧ ((staged .parse).sil.step = .parse ∧ (staged .parse).parseErr = none) ∧
    (loading .verify).sil.step = .verify ∧ ((staged .check).sil.step = .check ∧ (staged .check).checkErr true = none) ∧
    (badImage.sil.step = .parse ∧ badImage.parseErr = some ⟨1, 0, 0, 0⟩) ∧ ((loading .parse).parseErr = some ⟨4, 0, 0, 0⟩) ∧ ((staged .check).checkErr false = some ⟨0x10, 0, 0, 0⟩) ∧
    ((loading .apply).sil.step = .apply ∧ (loading .apply).get SIL_STATUS.partial = 0) ∧ (staged .apply).get SIL_STATUS.partial ≠ 0 ∧
    (staged .apply).sil.step = .apply ∧ (0xFFFFF#20).toNat + [(0 : Byte)].length ≤ 0x100000 := by
  decide +kernel

theorem witness_WrongKindOfImageIsError10 :
    (loading .check).imgFull = (loading .check).sil.wasStructured ∧ (loading .check).sil.step = .check ∧
    run.get SIL_STATUS.busy = 0 := by decide +kernel

theorem witness_ApplyUnstructureAndFuses : (loading .apply).applyWaits = false ∧ (loading .apply).get SIL_STATUS.partial = 0 ∧
    (staged .apply).applyWaits = false ∧ (staged .apply).get SIL_STATUS.partial ≠ 0 ∧ (loading .apply).get SIL_STATUS.busy ≠ 0 ∧
    run.get SIL_STATUS.busy = 0 ∧ run.get SIL_STATUS.state = 2 ∧ State.reset.get SIL_STATUS.state ≠ 2 ∧
    (run.put SIL_FUSE_KEY.revoked 0xF).get SIL_FUSE_KEY.revoked < 16 := by decide +kernel

theorem witness_TreeFrameTickAndSuperframeCount : timed.tu.running = true ∧ State.reset.sends 5 = false ∧ tree5.sends 5 = true ∧ (tree5.tree 5).sfcLoadPending = false ∧
    (tree5.put (TE_SFC.sfc 5) (2 ^ 51 - 1)).get (TE_SFC.sfc 5) + 1 = 2 ^ 51 ∧ tree5.get (TE_SFC.sfc 5) + 1 < 2 ^ 51 ∧
    ((tree5.modTree 5 fun x => { x with sfcLoadPending := true }).tree 5).sfcLoadPending = true := by decide +kernel

/-- A burst of terminal 3 with allocation 1 that tree 5 expects. -/
def burst3 : Burst := ⟨0, 3, .data, [(1, 400)], 3, false, 0, 500, false, {}, none⟩

/-- Tree 5 with a burst expected. -/
def expecting : State := tree5.modTree 5 fun x => { x with expected := [burst3] }

/-- A delimiter whose header names another terminal. -/
def wrongOnu : Candidate := ⟨0, 0, true, 4, false, [], [], [], ⟨0, 0, 0, 0, 0, 0, 0, 0⟩⟩

theorem witness_SequencerReassemblyAndBurstReset : State.reset.txdis 5 = true ∧ tree5.txdis 5 = false ∧ tree5.engineSends 5 = true ∧
    (expecting.tree 5).expected = [burst3] ∧ expecting.receives 5 = true ∧ expecting.covered 5 = false ∧
    (expecting.modTree 5 fun x => { x with bufferDry := true }).covered 5 = true ∧
    (let s := (expecting.put (MGT_ISLAND_STATE.island 3) 2).modIsl 3 fun x => { x with step := .assert }
     s.receives 5 = true ∧ s.covered 5 = false ∧ s.deaf 5 = true ∧ s.isl (treeIsl 5) = 2) ∧ expecting.deaf 5 = false ∧
    (expecting.candOk 5 burst3 wrongOnu = true ∧ wrongOnu.hecOk = true ∧ wrongOnu.onu.toNat ≠ burst3.onu) ∧
    (tree5.modTree 5 fun x => { x with reasm := [⟨3, 900, [1]⟩] }).reasmAt 5 3 900 = some ⟨3, 900, [1]⟩ ∧ tree5.isl (treeIsl 5) < 2 ∧
    ((TE_BRST_CFG.mode 5).of 0x0F0F = 0 ∧ 20 < (TE_BRST_CFG.delay 5).of 0x0F0F + (TE_BRST_CFG.width 5).of 0x0F0F) ∧
    (TE_BRST_CFG.delay 5).of 0x0A0A + (TE_BRST_CFG.width 5).of 0x0A0A ≤ 20 ∧ (TE_BRST_CFG.mode 5).of 0x20F0F ≠ 0 := by
  decide +kernel

/-- Tree 5 in a state, and in a step of its sequence. -/
def at5 (st : Nat) (p : TreeStep) : State :=
  (withTree 5 { enabled := true, dozeEn := true, maxReachKm := 20, diffReachKm := 20 } st run).modTree 5 fun x => { x with step := p }

/-- Tree 5 under an interlock that another device holds. -/
def blocked5 (st : Nat) (p : TreeStep) : State := ((at5 st p).put MGT_PROT_CFG.en 1).put MGT_PROT_TREES.trees 0x20

theorem witness_TreesFromDarkToLitAndBack : ((at5 1 .none).isl (treeIsl 5) < 2 ∧ ((at5 1 .none).ungate (treeIsl 5)).laneLost 5 = false ∧
      ((at5 1 .none).ungate (treeIsl 5)).loadHolds 5 = false ∧ ((at5 1 .none).ungate (treeIsl 5)).treeState 5 = 1) ∧
    (let s := at5 5 .power
     let g := { s with pwr := { s.pwr with granted := [5] } }
     s.treeState 5 = 5 ∧ (s.tree 5).step = .power ∧ (s.tree 5).powerRetried = false ∧ 5 ∈ g.pwr.granted) ∧
    ((at5 5 .laser).protBlocked 5 = false ∧ (blocked5 5 .laser).protBlocked 5 = true ∧ ((at5 5 .laser).tree 5).step = .laser) ∧
    (∀ st ∈ [2, 3, 4], (at5 st .none).treeState 5 = st) ∧ (at5 3 .none).isl (treeIsl 5) ≠ 2 ∧
    ((at5 6 .stop).treeState 5 = 6 ∧ ((at5 6 .stop).tree 5).step = .stop ∧ ((at5 6 .drain).tree 5).step = .drain) ∧
    (((at5 2 .none).treeEntry 5).dozeEn = true ∧ (at5 2 .none).activeCount 5 = 0) ∧
    ((at5 4 .none).ungate (treeIsl 5)).treeState 5 = 4 ∧ (at5 4 .none).get (TE_DOZE_CFG.disc_period 5) ≠ 0 := by
  decide +kernel

theorem witness_BanksAreChecked : (((at5 2 .none).modTree 5 fun x => { x with bankCheck := true }).tree 5).bankCheck = true := by decide +kernel

/-- Tree 5 with broadcast key slot 2 valid and slot 1 in use. -/
def keyed : State := tree5.modTree 5 fun x => { x with bkeys := [(2, ⟨true, 0, 7⟩)], bInUse := 1 }

theorem witness_KeySwitchIsScheduledOrRefused : keyed.isl (treeIsl 5) < 2 ∧
    ((TE_KEY_SWITCH.go 5).of (1 + 2 + 2 * 4 + 8 * 4096) = 1 ∧ keyed.switchRefused 5 0 2 8 true = false) ∧
    keyed.switchRefused 5 0 1 8 true = true ∧ (7 < 8 ∨ 4095 < 7) ∧ (TE_KEY_SWITCH.ahead 5).of (7 * 4096) < 8 := by
  decide +kernel

theorem witness_OpticsTransactions : State.reset.get (MGT_OPT_STATUS.busy 2) = 0 ∧ (State.reset.put (MGT_OPT_CFG.en 2) 1).get (MGT_OPT_CFG.en 2) ≠ 0 ∧
    (let d := 2 ^ 31 + 16 * 2 ^ 24 + 16 * 2 ^ 16
     (MGT_OPT_CMD.go 2).of d = 1 ∧ (2 ^ 31 + 16 * 2 ^ 24 + 16 * 2 ^ 16 : BitVec 32).toNat = d ∧ (MGT_OPT_CMD.wr_len 2).of d = 16 ∧ (MGT_OPT_CMD.rd_len 2).of d = 16) ∧
    16 < (MGT_OPT_CMD.wr_len 2).of (17 * 2 ^ 24) ∧ 16 < (MGT_OPT_CMD.rd_len 2).of (17 * 2 ^ 16) ∧
    (MGT_OPT_CMD.wr_len 2).of (2 ^ 31) + (MGT_OPT_CMD.rd_len 2).of (2 ^ 31) = 0 ∧ State.reset.get (MGT_OPT_CFG.en 2) = 0 ∧
    (State.reset.put (MGT_OPT_STATUS.busy 2) 1).get (MGT_OPT_STATUS.busy 2) ≠ 0 ∧
    (⟨0x50, [3], 0, []⟩ : OptBus).wr ≠ [] ∧ (⟨0x50, [3], 0, []⟩ : OptBus).rd = 0 ∧
    (⟨0x50, [], 16, []⟩ : OptBus).wr = [] ∧ (⟨0x50, [], 16, []⟩ : OptBus).rd ≠ 0 := by decide +kernel

/-- A terminal of tree 5 in a state and a step, with its window open. -/
def term5 (st : TermState) (p : RngStep) : State :=
  (tree5.modTerm 5 1 fun x => { x with state := st, step := p }).setWindows 5 [⟨some 1, 0, 52000, 0, false, true, 0⟩, ⟨none, 0, 250000, 0, false, true, 0⟩]

theorem witness_ActivationStepsInOrder : (tree5.put (TE_ACT_CFG.disc_en 5) 1).cycleRuns 5 = true ∧ tree5.treeRuns 5 = true ∧
    tree5.inQuiet 5 1000 = false ∧ (term5 .ranging .range).inQuiet 5 1000 = true ∧ tree5.holderOf 5 7 = none ∧
    (7 : BitVec 64) ∉ (tree5.tree 5).disabledSn ∧ (tree5.anyFree 5).isSome = true ∧ ((term5 .acquired .place).term 5 1).step = .place ∧
    (((term5 .ranging .range).term 5 1).step = .range ∧ (term5 .ranging .range).rangingOpen 5 1 = true) ∧
    ((term5 .ranging .range).term 5 1).retries < (term5 .ranging .range).get (TE_ACT_CFG.rng_retries 5) ∧
    ((term5 .ranging .range).put (TE_ACT_CFG.rng_retries 5) 0).get (TE_ACT_CFG.rng_retries 5) ≤ ((term5 .ranging .range).term 5 1).retries ∧
    ((term5 .ranging .equalise).term 5 1).step = .equalise := by decide +kernel

/-- Tree 5 with terminal 1 in a state with serial number 7, and every other context taken or not. -/
def serial7 (st : TermState) (full : Bool) : State :=
  let s := tree5.modTerm 5 1 fun x => { x with state := st, serial := 7 }
  if full then { s with terms := (List.range 256).map fun o => (5 * 256 + o, { state := st, serial := if o = 1 then 7 else 9 }) } else s

theorem witness_ActivationOrder :
    ((7 : BitVec 64) ∈ ((tree5.modTree 5 fun x => { x with disabledSn := [7] }).tree 5).disabledSn) ∧
    (((serial7 .held false).holderOf 5 7).map fun e => (e.1, e.2.state)) = some (1, .held) ∧
    (((serial7 .operation false).holderOf 5 7).map fun e => (e.1, e.2.state)) = some (1, .operation) ∧
    ((serial7 .held true).holderOf 5 8 = none ∧ (serial7 .held true).anyFree 5 = none) ∧
    (tree5.holderOf 5 7 = none ∧ tree5.anyFree 5 = some (0#8).toNat) := by decide +kernel

/-- Terminal 1 of tree 5 in its ranging window, its response having come at a delimiter so many bit periods after z. -/
def ranging5 (n : Nat) : State :=
  (term5 .ranging .range).modTerm 5 1 fun x => { x with respNs := tree5.bitsNs 5 n }

theorem witness_RegistrationInItsWindow : (ranging5 100000).treeRuns 5 = true ∧ ((ranging5 100000).term 5 1).step = .range ∧
    (ranging5 100000).rangingOpen 5 1 = true ∧ (ranging5 100000).inRangingWindow 5 1 (100000#25).toNat = true ∧
    (100000#25).toNat - 8 * (ranging5 100000).preOct 5 3 ≤ (ranging5 100000).rmaxBits 5 ∧
    (ranging5 11000000).inRangingWindow 5 1 (11000000#25).toNat = true ∧
    (ranging5 11000000).rmaxBits 5 < (11000000#25).toNat - 8 * (ranging5 11000000).preOct 5 3 := by decide +kernel

theorem witness_TerminalCommandsTimersAndRecords : tree5.isl (treeIsl 5) < 2 ∧
    (let w (x : State) : State := ((x.ungate (treeIsl 5)).put (TE_TERM_CMD.cmd 5) 1).put (TE_TERM_CMD.onu 5) 1
     2 ≤ (w (term5 .ranged .approve)).treeState 5 ∧ ((w (term5 .ranged .approve)).term 5 1).state = .ranged ∧
     ((w (term5 .held .none)).term 5 1).state ≠ .ranged ∧ ((w (term5 .operation .none)).term 5 1).state = .operation ∧
     ((w (term5 .operation .none)).term 5 1).state ≠ .free ∧ ((w (term5 .operation .none)).term 5 1).state ≠ .quarantine ∧
     ((w tree5).term 5 1).state = .free ∧ ((w (term5 .quarantine .none)).term 5 1).state = .quarantine ∧
     (w (at5 1 .none)).treeState 5 ≤ 1 ∧ ((w (term5 .held .none)).term 5 1).state ≠ .operation) ∧
    ((term5 .ranged .approve).term 5 1).step = .approve ∧ ((term5 .held .none).term 5 1).state = .held ∧
    ((term5 .quarantine .none).term 5 1).state = .quarantine ∧ (tree5.treeRuns 5 = true ∧ 2 ≤ tree5.treeState 5) ∧
    (stateOfCode (bitsOf (5 <<< 61) 61 3)).isSome = true ∧ UpPloam.registration ≠ .acknowledge ∧
    (let s := (term5 .operation .none).modTerm 5 1 fun x => { x with correcting := true, acks := 1 }
     (s.term 5 1).step ≠ .equalise ∧ (s.term 5 1).correcting = true ∧ 0 < (s.term 5 1).acks) ∧
    ((term5 .operation .none).term 5 1).correcting = false ∧ ({ correcting := true, acks := 1 } : Term).acks = 1 ∧
    1 < ({ correcting := true, acks := 2 } : Term).acks ∧ ((term5 .ranging .equalise).term 5 1).step = .equalise ∧
    ((at5 1 .none).ungate (treeIsl 5)).treeState 5 = 1 ∧ ((blocked5 3 .none).ungate (treeIsl 5)).protBlocked 5 = true ∧
    ((tree5.ungate (treeIsl 5)).treeState 5 ≠ 1 ∧ (tree5.ungate (treeIsl 5)).protBlocked 5 = false ∧
      ((tree5.ungate (treeIsl 5)).term 5 1).unknown = false) ∧
    (((tree5.modTerm 5 1 fun x => { x with unknown := true }).ungate (treeIsl 5)).term 5 1).unknown = true ∧
    (∀ p ∈ [1, 80], ∃ d ∈ (List.range 128).map (· * 2 ^ (TE_TDD_CFG.period_slots 5).lo), (TE_TDD_CFG.period_slots 5).of d = p ∧ 8000 % p = 0) ∧
    (∀ p ∈ [81, 3], ∃ d ∈ (List.range 128).map (· * 2 ^ (TE_TDD_CFG.period_slots 5).lo), (TE_TDD_CFG.period_slots 5).of d = p ∧ (80 < p ∨ 8000 % p ≠ 0)) ∧
    (TE_TDD_CFG.period_slots 5).of 0 = 0 := by decide +kernel

/-- Word 0 of an enabled best-effort allocation (class 3) of terminal 1 of tenant 3, and its words 1 and 2. -/
def beWord : BitVec 64 := BitVec.ofNat 64 (1 <<< 63 ||| 3 <<< 61 ||| 1 <<< 48 ||| 1000 <<< 32 ||| 3 <<< 24)

theorem witness_AllocationCommits : (term5 .operation .none).isl 10 < 2 ∧ aEn beWord = true ∧ aEn 0 = false ∧
    (let w := ((term5 .operation .none).modAlloc 5 7 fun x => { x with s1 := BitVec.ofNat 64 (4096 <<< 24), s2 := BitVec.ofNat 64 (1 <<< 36) }).ungate 10
     w.commitReason 5 7 (w.candidate 5 7 beWord) = 0) ∧
    (let w := tree5.ungate 10
     w.commitReason 5 7 (w.candidate 5 7 beWord) ≠ 0) := by decide +kernel

/-- Tree 5 privileged, with the Mirror's core 0 in service. -/
def mirroredTree : State :=
  State.put { tree5 with sil := { tree5.sil with running := { tree5.sil.running with privTrees := 0x20 } } } (mirCore 0) 0

theorem witness_CommitsReachTheMirror : mirroredTree.mirrors 5 = true ∧ tree5.mirrors 5 = false ∧
    (let s := tree5.modAlloc 5 7 fun x => { x with w0 := BitVec.ofNat 64 (1 <<< 63) }
     ((s.ungate 10).alloc 5 7).fixedOn = true ∧ (s.ungate 10).treeState 5 ≠ 0) ∧ ((tree5.ungate 10).alloc 5 7).fixedOn = false := by decide +kernel

theorem witness_ReserveFloorAboveTheField :
    (let s := tree5.put (GE_TREE_CFG.be_min_oct 5) 16384
     (GE_TREE_RES.be_res_oct 5).of (1#32).toNat = 1 ∧ 2 ^ 20 ≤ max 1 ((s.ungate 10).beResFloor 5)) ∧
    (GE_TREE_RES.be_res_oct 5).of (0#32).toNat = 0 := by
  have h : ((tree5.put (GE_TREE_CFG.be_min_oct 5) 16384).ungate 10).beMin 5 = 16384 := by decide +kernel
  refine ⟨⟨by decide +kernel, ?_⟩, by decide +kernel⟩
  unfold State.beResFloor
  omega

theorem witness_ReservesRunAheadAndProfiles : tree5.isl 10 < 2 ∧ tree5.isl 12 < 2 ∧
    (let w := tree5.ungate 10
     let y := w.put (GE_TREE_CALRES.cal_res_oct 5) 0x7FFFF
     let z := w.put (GE_TREE_CALRES.cal_res_oct 5) 64
     w.frameOctets125 5 = 777600 ∧ z.committed 5 ≤ z.frameOctets125 5 ∧ y.committed 5 ≤ y.frameOctets125 5) ∧
    ((withTree 5 { enabled := true, usRate := 2, maxReachKm := 20 } 3 run).put (GE_TREE_CALRES.cal_res_oct 5) 0x7FFFF).frameOctets125 5 <
      ((withTree 5 { enabled := true, usRate := 2, maxReachKm := 20 } 3 run).put (GE_TREE_CALRES.cal_res_oct 5) 0x7FFFF).committed 5 ∧
    (at5 1 .none).allDark = true ∧ tree5.allDark = false ∧ (1 ≤ GE_MAP_CTRL.run_ahead.of 1 ∧ GE_MAP_CTRL.run_ahead.of 4 = 4) ∧
    GE_MAP_CTRL.run_ahead.of 0 = 0 ∧ 4 < GE_MAP_CTRL.run_ahead.of 5 ∧
    (at5 1 .none).isl 10 < 2 ∧
    ((at5 1 .none).ungate 12).profRefused 5 0 (wordOf (bcProfFields 5 0) ((at5 1 .none).ungate 12).get) = false ∧
    ((at5 1 .none).ungate 12).profRefused 5 0 0 = true ∧ (tree5.ungate 12).profRefused 5 0 64 = true := by decide +kernel

/-- Map 1 of tree 5 at a stage, with one slot. -/
def map5 (x : MapStage) (sl : List Slot) (rep : Bool) : GMap :=
  { k := 1, tree := 5, stage := x, snap := [], zones := [], reserved := [], slots := sl, replace := rep }

/-- Tree 5 with a map. -/
def mapped (m : GMap) : State := { tree5 with ge := { tree5.ge with maps := [m], begun := 1 } }

theorem witness_MapLifeAndSeal : tree5.isl 10 < 2 ∧ tree5.ge.begun < tree5.ge.k + tree5.runAhead ∧
    ({ tree5 with ge := { tree5.ge with begun := 9 } } : State).ge.k + ({ tree5 with ge := { tree5.ge with begun := 9 } } : State).runAhead ≤ 9 ∧
    (tree5.put GE_FW_CFG.digest_frames 1).get GE_FW_CFG.digest_frames ≠ 0 ∧ tree5.gmap 5 1 = none ∧ tree5.mapTree 5 = true ∧
    State.reset.mapTree 5 = false ∧
    (∀ x ∈ [MapStage.building, .built, .honoured], (mapped (map5 x [] false)).gmap 5 1 = some (map5 x [] false)) ∧
    (mapped (map5 .built [] false)).limitsOk (map5 .built [] false) = true ∧
    (mapped (map5 .built [⟨1, .data, 0, 800000, 0, [], 3, false, false, 0, {}, 0, none⟩] false)).limitsOk
      (map5 .built [⟨1, .data, 0, 800000, 0, [], 3, false, false, 0, {}, 0, none⟩] false) = false ∧
    (mapped (map5 .built [] true)).limitsOk (map5 .built [] true) = true := by decide +kernel

/-- An AGR frame, and a record whose window ends. -/
def agrState : State := { run with ge := { run.ge with
  agrIn := [⟨3, List.replicate 60 0, none⟩], agr := [⟨5, 1, 7, 0, 1000, 0, 9, 4, false⟩] } }

theorem witness_AdvanceGrantRequests : agrState.ge.agrIn = ⟨3, List.replicate 60 0, none⟩ :: [] ∧ agrState.isl 10 < 2 ∧
    (agrState.put GE_AGR_CFG.en 0).get GE_AGR_CFG.en = 0 ∧ (agrState.put (MGT_ISLAND_STATE.island 10) 3).isl 10 = 3 ∧
    (agrState.ge.agr.find? fun x => x.tree == 5 && x.reqId == 9) = some ⟨5, 1, 7, 0, 1000, 0, 9, 4, false⟩ := by
  decide +kernel

/-- Mirror core 0 in service and core 1 the spare. -/
def mirrored : State := (run.put MIR_STATUS.core0 0).put MIR_STATUS.core1 1

theorem witness_NothingIsMirrored (t : Nat) : State.reset.mirrors t = false := by
  have h : State.reset.mirRuns = false := by decide +kernel
  simp [State.mirrors, h]

theorem witness_OtherEtherType : let s := agrState.put GE_AGR_CFG.en 1
    s.get GE_AGR_CFG.en ≠ 0 ∧ s.isl 10 < 2 ∧ s.ge.agrIn.head?.isSome = true ∧
    fieldAt (List.replicate 60 0) (vlanEnd (s.get PR_PARSE_CFG.tpid3) (List.replicate 60 0) (60 / 4) 12) 2 ≠ s.get GE_AGR_CFG.ethertype := by
  decide +kernel

theorem witness_NoCoreInService : (let s := (run.put MIR_STATUS.core0 2).put MIR_STATUS.core1 1
    (s.ungate 11).mirSpare = some 1 ∧ (s.ungate 11).mirService = none) := by decide +kernel

theorem witness_MirrorChecksAndSpares : ({ mirrored with mir := { mirrored.mir with checking := true } } : State).mir.checking = true ∧
    ({ mirrored with mir := { mirrored.mir with loading := some 1 } } : State).mir.loading = some 1 ∧ mirrored.isl 11 < 2 ∧
    (mirrored.ungate 11).mirSpare = some 1 ∧ (mirrored.ungate 11).mirService = some 0 := by decide +kernel

/-- The interlock enabled, in a state and a step. -/
def prot (st : Nat) (p : ProtStep) (hold : Nat) : State :=
  let s := ((run.put MGT_PROT_CFG.en 1).put MGT_PROT_STATUS.state st).put MGT_PROT_STATUS.hold_in hold
  { s with prot := { s.prot with step := p } }

theorem witness_InterlockSequences : ((prot 0 .none 0).get MGT_PROT_CFG.en ≠ 0 ∧ (prot 0 .none 0).get MGT_PROT_STATUS.state = 0 ∧
      (prot 0 .none 0).get MGT_PROT_STATUS.hold_in = 0 ∧ ((prot 0 .none 0).put MGT_PROT_CFG.auto_take 1).get MGT_PROT_CFG.auto_take ≠ 0 ∧
      (prot 0 .none 0).get SIL_STATUS.state = 2) ∧ (prot 0 .none 1).get MGT_PROT_STATUS.hold_in ≠ 0 ∧
    ((prot 1 .assert 0).get MGT_PROT_STATUS.state = 1 ∧ (prot 1 .assert 0).prot.step = .assert) ∧
    ((prot 1 .confirm 0).prot.step = .confirm ∧ (prot 1 .confirm 0).get MGT_PROT_STATUS.hold_in = 0) ∧
    ((prot 1 .confirm 1).get MGT_PROT_STATUS.prio = 0 ∧ ((prot 1 .confirm 1).put MGT_PROT_STATUS.prio 1).get MGT_PROT_STATUS.prio ≠ 0) ∧
    5 ∈ ({ prot 2 .none 0 with prot := { laser := [5] } } : State).laserNext ∧ (prot 2 .none 0).isl 10 < 2 ∧
    ((prot 2 .none 0).get MGT_PROT_STATUS.state = 2 ∧ ((prot 2 .none 0).put MGT_PROT_CFG.rel_uplink_ms 5).get MGT_PROT_CFG.rel_uplink_ms ≠ 0 ∧
      ∀ p < 4, (prot 2 .none 0).portDown p = true) ∧
    (((prot 2 .none 1).put MGT_PROT_STATUS.hold_out 1).get MGT_PROT_STATUS.hold_out ≠ 0) ∧
    ({ prot 3 .none 0 with prot := { offDelay := true } } : State).prot.offDelay = true ∧
    ((prot 0 .none 1).get MGT_PROT_STATUS.hold_in ≠ 0 ∧ (prot 0 .none 1).holdsLock = false) := by decide +kernel

theorem witness_InterlockEnableIsIgnoredUnlessIdle : (prot 2 .none 0).get MGT_PROT_STATUS.state ≠ 0 ∧ run.get MGT_PROT_STATUS.state = 0 ∧
    MGT_PROT_TREES.trees.addr ≠ MGT_PROT_CFG.en.addr ∧ MGT_PROT_TREES.trees.lo < 32 := by decide +kernel

/-- Port 0 on lanes 0 to 7, raw-up and up, with frames none. -/
def port0 : State :=
  ((run.put (UL_PORT_STATUS.mode 0) 4).put (UL_PORT_STATUS.raw_up 0) 1).put (UL_PORT_STATUS.link 0) 1

/-- 64 octets that end with their FCS. -/
def goodFrame : List Byte := List.replicate 60 0 ++ fcsOctets (List.replicate 60 0)

theorem witness_UplinkPortsAndElimination :
    (let s := port0.put (UL_PORT_STATUS.raw_up 0) 0
     s.get (UL_PORT_STATUS.mode 0) ≠ 0 ∧ s.get (UL_PORT_STATUS.raw_up 0) = 0 ∧ s.portLanes 0 ≠ [] ∧
     (s.put (UL_PORT_CFG.admin_en 0) 0).get (UL_PORT_CFG.admin_en 0) = 0) ∧
    ((run.put (UL_PORT_STATUS.mode 0) 4).get (UL_PORT_STATUS.mode 0) ≠ 0 ∧ ({ run with sil := {} } : State).portLanes 9 = [] ∧
      (180#16).toNat ≤ 180 ∧ 180 < (181#16).toNat) ∧
    port0.get (UL_PORT_STATUS.raw_up 0) ≠ 0 ∧
    (let s := (port0.put (UL_PORT_CFG.admin_en 0) 1).setPort 0 { upRun := true, downRun := true }
     (s.portSt 0).upRun = true ∧ (s.portSt 0).downRun = true ∧ s.get (UL_PORT_CFG.admin_en 0) ≠ 0 ∧ s.get (UL_PORT_STATUS.link 0) ≠ 0) ∧
    ((UL_PORT_CFG.admin_en 0).of (2 ^ (UL_PORT_CFG.admin_en 0).lo) = 1 ∧ (∃ k ∈ port0.portLanes 0, (port0.put (BENCH_CFG.en k) 1).get (BENCH_CFG.en k) ≠ 0) ∧
      ∀ k ∈ port0.portLanes 0, port0.get (BENCH_CFG.en k) = 0) ∧
    (port0.put (UL_PORT_STATUS.swap_hold 0) 1).get (UL_PORT_STATUS.swap_hold 0) ≠ 0 ∧
    (run.get (UL_PORT_STATUS.link 0) = 0 ∧ State.reset.isl 22 = 3 ∧ port0.isl 22 < 2) ∧
    ((port0.putWord (frerAddr 4 0) (1 <<< 63)).frerValid = [4] ∧ ((port0.setFrer 4 { take := false }).frerSt 4).take = false) ∧
    (fcsGood goodFrame = true ∧ fcsGood (List.replicate 64 0) = false ∧ (List.replicate 63 (0 : Byte)).length < 64) := by
  decide +kernel

/-- The vector recovery of 802.1CB on a history of 4: the newest number is 10. -/
theorem witness_VectorRecovery : (({ take := false, recovSeq := 10, history := [true, false, false, false] } : FrerStream).recover 4 10).2 = .duplicate ∧
    (({ take := false, recovSeq := 10, history := [true, false, false, false] } : FrerStream).recover 4 11).2 = .pass ∧
    (({ take := false, recovSeq := 10, history := [true, false, false, false] } : FrerStream).recover 4 14).2 = .rogue ∧
    (({ take := true } : FrerStream).recover 128 65535).2 = .pass ∧
    (({ take := false, recovSeq := 10, history := [true, false, false, false] } : FrerStream).recover 4 7).2 = .pass := by decide +kernel

theorem witness_BenchesRunOutOfService : (run.get (BENCH_CFG.en 40) = 0 ∧ (withTree 8 {} 3 run).benchAllowed 40 = false ∧
      (withTree 8 {} 1 run).benchAllowed 40 = true) ∧ (∃ d ∈ [2 ^ (BENCH_CFG.en 40).lo], (BENCH_CFG.en 40).of d = 1) ∧ (BENCH_CFG.en 40).of 0 = 0 ∧
    (let s := (((run.put (BENCH_CFG.en 40) 1).put (BENCH_CFG.gen_en 40) 1).put (BENCH_CFG.chk_en 40) 1).put (BENCH_CFG.pattern 40) 4
     s.benchChecks 40 = true ∧ (s.put (BENCH_STATUS.locked 40) 1).benchChecks 40 = true ∧ (s.put (BENCH_CFG.pattern 40) 3).benchCode 40 = 0 ∧
     (s.put (BENCH_CFG.pattern 40) 9).benchCode 40 = 9 ∧ s.get (BENCH_CFG.en 40) ≠ 0 ∧ s.get (BENCH_CFG.gen_en 40) ≠ 0 ∧ s.get (BENCH_CFG.chk_en 40) ≠ 0 ∧ s.get (BENCH_STATUS.locked 40) = 0 ∧
     (s.put (BENCH_STATUS.locked 40) 1).get (BENCH_STATUS.locked 40) ≠ 0) := by decide +kernel

theorem witness_CalibrationCommands : run.isl 12 < 2 ∧
    (let c (s : State) (n : Nat) : State := (((s.ungate 12).put BC_CMD.cmd n).put BC_CMD.tree 5).put BC_CMD.onu 1
     (∀ n ∈ [1, 2], (c (term5 .operation .none) n).operating 5 1 = true) ∧ ∀ n ∈ [1, 2], (c tree5 n).operating 5 1 = false) ∧
    BC_TERM_TEMP.go.of (2 ^ BC_TERM_TEMP.go.lo) = 1 := by decide +kernel

/-- A frame of the Prism of slice 0. -/
def frame (st : InStage) (l : List Byte) : InFrame := { id := 4, octets := l, origin := .uplink 0, stage := st, slice := 0 }

theorem witness_PrismPassesAndEntries :
    (let f (s : State) : Option InFrame := s.pr.frames.find? fun x => decide (x.stage = .staging) && !s.stageWaits x
     (let s := (withFrame (frame .staging goodFrame) run).put (MGT_ISLAND_STATE.island 13) 2
      s.stageWaits (frame .staging goodFrame) = true ∧ f s = none) ∧
     f (withFrame (frame .staging goodFrame) State.reset) = some (frame .staging goodFrame) ∧ 2 ≤ State.reset.isl (13 + 0) ∧
     f (withFrame (frame .staging goodFrame) run) = some (frame .staging goodFrame) ∧
     f (withFrame (frame .staging (List.replicate 64 0)) run) = some (frame .staging (List.replicate 64 0))) ∧
    (run.get PR_CTRL.en = 0 ∧ (run.put PR_CTRL.en 1).get PR_CTRL.en ≠ 0) ∧ (run.isl 13 < 2 ∧ 2 ≤ State.reset.isl 13) ∧ run.pwr.ingressOff = false ∧
    ((withFrame (frame .token goodFrame) run).pr.frames.find? fun x => decide (x.stage = .token) && x.slice == 0) = some (frame .token goodFrame) ∧
    (run.tokensFree 0 ≠ 0 ∧ ({ run with pr := { run.pr with tokensHeld := [(0, 1024)] } } : State).tokensFree 0 = 0) ∧
    (∀ n, 13 ≤ n → n ≤ 16 → run.isl n < 2) ∧ ((run.put PR_GEN_STATUS.draining 1).wakeForWrite [13, 14, 15, 16]).get PR_GEN_STATUS.draining ≠ 0 ∧
    (run.wakeForWrite [13, 14, 15, 16]).get PR_GEN_STATUS.draining = 0 ∧ 40 < maskCount (2 ^ 41 - 1) ∧ maskCount (2 ^ 40 - 1) ≤ 40 ∧
    (prismWindow 0x1010000010 = some (0, 0x10) ∧ prismEntry 0x10 = some (.p0, 0x10, 0)) ∧
    (prismWindow 0x1018400008 = some (4, 0x400008) ∧ prismEntry 0x400008 = some (.p2, 0x400000, 1) ∧ PTable.p2.ro 1 = false) ∧
    (prismEntry 0x400030 = some (.p2, 0x400000, 6) ∧ PTable.p2.ro 6 = true) ∧
    (run.commitOk 0 .p2 (prismBase 0 + 0x400000) (7 <<< 61) [] = true ∧
      (run.put PR_GEN_STATUS.draining 1).commitOk 0 .p2 (prismBase 0 + 0x400000) (7 <<< 61) [] = false) := by
  decide +kernel

/-- FWD enabled, tenant 3 with flow context 0, and the window of requester 2 naming a station. -/
def fwdOn : State :=
  let s : State := { run with sil := { run.sil with running := { run.sil.running with flows := [⟨0, 16, 3, 1, 0, false, 0⟩] } } }
  ((((s.put FWD_CTRL.en 1).put (FWD_CMD.tenant 2) 3).put (FWD_CMD_KEY1.vid 2) 100).put (FWD_CMD_KEY0.mac_lo 2) 77)

/-- The data word that names tenant 3. -/
def tenant3 : Nat := 3 * 2 ^ (FWD_CMD.tenant 2).lo

/-- The station entered by the window of requester 2. -/
def stationIn : State := fwdOn.fwdInsert 2

/-- The index of its entry. -/
def stationAt : Nat := (stationIn.fwdFind (stationIn.winKey 2)).getD 0

theorem witness_ForwardingCommandsAndAgeing : fwdOn.isl 17 < 2 ∧ (FWD_CMD.tenant 2).of tenant3 = 3 ∧
    (run.fwdRefused 2 = true ∧ fwdOn.fwdRefused 2 = false) ∧ stationIn.fwdFind (stationIn.winKey 2) = some stationAt ∧
    fwdOn.fwdFind (fwdOn.winKey 2) = none ∧ (fwdOn.freeWay (fwdOn.winKey 2)).isSome = true := by decide +kernel

theorem witness_ForwardingVersionsAndLocks :
    ((stationIn.put (FWD_CMD_EXP.expected 2) 5).fwdVer stationAt ≠ (stationIn.put (FWD_CMD_EXP.expected 2) 5).get (FWD_CMD_EXP.expected 2)) ∧
    (stationIn.fwdVer stationAt = (stationIn.put (FWD_CMD_EXP.expected 2) (stationIn.fwdVer stationAt)).get (FWD_CMD_EXP.expected 2)) ∧
    bit1 (stationIn.fwdWord stationAt 0) 60 = false ∧
    (let l := (stationIn.fwdSet stationAt 0 60 1 1).fwdSet stationAt 2 12 4 3
     bit1 (l.fwdWord stationAt 0) 60 = true ∧ bitsOf (l.fwdWord stationAt 2) 12 4 ≠ 2 ∧ l.fwdValid stationAt = true) ∧
    (fwdWindow 0x1020000008 = true ∧ 0x1020000008 % 32 = 8 ∧ 0x1020000008 < 0x1020800000) ∧ fwdOn.get FWD_CTRL.en ≠ 0 ∧ run.get FWD_CTRL.en = 0 ∧
    stationIn.flowAllowed (stationIn.fwdKey stationAt).tenant (bitsOf (5 <<< 40) 40 16) = true ∧
    (run.get FWD_AGE_CFG.en ≠ 0 ∧ (run.put FWD_AGE_CFG.en 0).get FWD_AGE_CFG.en = 0) ∧
    (bit1 (stationIn.fwdWord stationAt 0) 61 = true ∧ bit1 ((stationIn.fwdSet stationAt 0 61 1 0).fwdWord stationAt 0) 61 = false) ∧
    (bitsOf (stationIn.fwdWord stationAt 1) 12 2 = 0 ∧ bitsOf ((stationIn.fwdSet stationAt 1 12 2 1).fwdWord stationAt 1) 12 2 ≠ 0) ∧
    ({ run with fwd := { run.fwd with copy := some (1, 8) } } : State).fwd.copy = some (1, 8) := by decide +kernel

theorem witness_ForwardingIsCaught :
    ({ fwdOn with fwd := { fwdOn.fwd with caught := [2] } } : State).fwd.caught.contains (2 : Requester).val = true ∧
    fwdOn.fwd.caught.contains (2 : Requester).val = false ∧
    (let s : State := { fwdOn with fwd := { fwdOn.fwd with copy := some (7, 8) } }
     7 < 8 ∧ s.fwd.copy = some (7, 8)) ∧ (fwdOn.fwdScrub (fwdOn.winKey 2)).fwdFind (fwdOn.winKey 2) = none ∧
    (stationIn.fwdScrub (stationIn.winKey 2)).fwdFind (stationIn.winKey 2) = some stationAt := by decide +kernel

theorem witness_ForwardingBucketFull :
    let s := (List.range 4).foldl (fun (s : State) w => s.putWord (fwdAddr (stationAt / 4 * 4 + w) 0) (1 <<< 63)) fwdOn
    s.freeWay (s.winKey 2) = none ∧ s.fwdFind (s.winKey 2) = none := by decide +kernel

/-- A frame that waits for its commit, in slot 9, for flow 2 of tenant 3. -/
def frame9 : InFrame := { frame .commit goodFrame with slot := some 9, flow := 2, tenant := 3 }

/-- That frame held, with its flow to the host's ring scheduled or not. -/
def committing (scheduled : Bool) : State :=
  let s : State := { run with sil := { run.sil with running := { run.sil.running with flows := [⟨0, 16, 3, 2, 0, false, 0⟩] } } }
  let s1 := withFrame frame9 ((s.put SCH_CTRL.en 1).put JNL_STATUS.copy_a 0)
  if scheduled then (s1.putWord (schedAddr 2) (1 <<< 63)).putWord (nodeAddr 0) (1 <<< 63) else s1

/-- Departures of port 4, which has sent all, and of ring 37, and a completion log with an entry. -/
def leaving : State :=
  { run with sch := { run.sch with leaving := [(4, [⟨9, 1, [], 0, 0⟩]), (37, [⟨9, 1, [], 0, 0⟩])] }, jnl := { run.jnl with logs := [(4, [⟨9, 1⟩])] } }

theorem witness_CommitsDeparturesAndDelivery : ((committing true).frame 4 = some frame9 ∧ frame9.slot = some 9 ∧ frame9.stage = .commit) ∧
    ((committing true).jnl.phaseA ≠ .close ∧ (committing true).jnl.phaseB ≠ .close) ∧
    ({ committing true with jnl := { (committing true).jnl with phaseB := .close } } : State).jnl.phaseB = .close ∧
    (committing true).enqueueCause frame9 = 0 ∧ (committing false).enqueueCause frame9 ≠ 0 ∧
    ((leaving.departures 4).find? fun x => x.left == 0) = some ⟨9, 1, [], 0, 0⟩ ∧
    ((leaving.departures 37).find? fun x => x.left == 0) = some ⟨9, 1, [], 0, 0⟩ ∧ mgetD 4 [] leaving.jnl.logs = ⟨9, 1⟩ :: [] ∧
    (leaving.put JNL_STATUS.copy_a 0).inService false = true ∧ (leaving.inService false = false ∧ leaving.inService true = false) := by
  decide +kernel

/-- Copy B returning while copy A is in service. -/
def returning (p : JnlPhase) : State := let s := run.put JNL_STATUS.copy_a 0; { s with jnl := { s.jnl with phaseB := p } }

theorem witness_JournalCopiesAndLostPseudoChannels :
    ((returning .copy).inService false = true ∧ (returning .copy).phaseOf true = .copy ∧ (returning .close).phaseOf true = .close) ∧
    bit1 (run.get (SHM_PC_FAILED.map 0)) 5 = false ∧ bit1 ((run.put (SHM_PC_FAILED.map 0) 32).get (SHM_PC_FAILED.map 0)) 5 = true ∧
    ({ run with shm := { run.shm with rebuilding := [5] } } : State).shm.rebuilding = 5 :: [] ∧ run.sil.step ≠ .apply ∧
    ({ loading .apply with shm := { run.shm with rebuilding := [5] } } : State).sil.step = .apply ∧ run.shm.rebuilding = [] ∧
    (let s : State := { run with shm := { run.shm with cuts := [(0, 2, 10)] } }
     s.shm.cuts = (0, 2, 10) :: [] ∧ (∀ i ∈ s.busyBufs 2, i < 10) ∧
     ∃ i ∈ ({ s with shm := { s.shm with groups := [(0, ⟨2, [11], 3, false, 1, []⟩)] } } : State).busyBufs 2, 10 ≤ i) := by
  decide +kernel

theorem witness_NoSpentSet (p : Nat) : (State.reset.dataSegs p).filter (fun e => State.reset.setSpent e.1) = [] := by
  have h : ∀ v, State.reset.setSpent v = false := fun v => by
    have : State.reset.get (SHM_SET_SPENT.map (v / 32)) = 0 := by simp [State.reset, State.get, mgetD, mget, SHM_SET_SPENT.map]
    simp [State.setSpent, this, bit1]
  simp [h]

theorem witness_SchedulingEntriesAndBuckets : run.isl 13 < 2 ∧ schedWindow 0x1030000020 = some (false, 1, 0) ∧ schedWindow 0x1030200028 = some (true, 1, 1) ∧
    schedWindow 0x1030000030 = some (false, 1, 2) ∧
    ((SCH_PORT_BURST.burst_oct 0).of 63 < 64 ∧ 16777216 < (SCH_PORT_BURST.burst_oct 0).of 16777217 ∧ (SCH_PORT_BURST.burst_oct 0).of 16777216 = 16777216) ∧
    (800000000 < (SCH_PORT_RATE.rate_kbps 0).of 800000001 ∧ (SCH_PORT_RATE.rate_kbps 0).of 800000000 = 800000000) ∧ timed.tu.running = true ∧
    (bucket4100.isl (bucket4100.bucketIsl 4100) ≠ 2 ∧ (bucket4100.bucketCfg 4100).1 ≠ 0 ∧ (bucket4100.bucketCfg 4100).2.2 = false) ∧
    (run.bucketCfg 4100).1 = 0 ∧
    (let s : State := { bucket4100 with sch := { bucket4100.sch with flowQ := [(4100, [9])] } }
     s.bucketEmpty 4100 = false) := by decide +kernel

/-- A gate list of two entries in force on port 33. -/
def gated33 : State :=
  State.setGate (((timed.put (SCH_PORT_CFG.gate_en 33) 1).putWord (gateAddr 33 0 0) (0x80 <<< 32 ||| 800)).putWord (gateAddr 33 0 1) (0x7F <<< 32 ||| 249200))
    33 { operLen := 2, operCycle := 250000 }

theorem witness_SelectionGatesAndTheLens : run.portTakes 37 = false ∧ (run.put JNL_STATUS.copy_a 0).portTakes 37 = true ∧
    (run.isl 13 < 2 ∧ (SCH_GATE_CTRL.go 33).of (2 ^ (SCH_GATE_CTRL.go 33).lo) = 1 ∧ 128 < (SCH_GATE_CTRL.admin_len 33).of (129 * 2 ^ (SCH_GATE_CTRL.admin_len 33).lo)) ∧
    (run.put (SCH_GATE_STATUS.pending 33) 1).get (SCH_GATE_STATUS.pending 33) ≠ 0 ∧
    (gated33.gated 33 = true ∧ (gated33.operGates 33).head?.isSome = true ∧
      ∀ x ∈ (gated33.put (SCH_GATE_STATUS.entry 33) 1).operGates 33, x.2.2.2 ≤ (gated33.put (SCH_GATE_STATUS.entry 33) 1).get (SCH_GATE_STATUS.entry 33)) ∧
    run.get LNS_CTRL.en = 0 ∧ ((run.put LNS_CTRL.en 1).put LNS_CTRL.freeze 1).get LNS_CTRL.freeze ≠ 0 ∧ (run.put LNS_CTRL.en 1).get LNS_CTRL.freeze = 0 ∧
    (let h : Held := ⟨9, 1, 2, 0, 0, false, none, .uplink 0, none, 0, [], [], [], [], none, true, 0, none, none, none, false⟩
     (run.setHeld h).heldAt 9 = some h) := by decide +kernel

/-- A Key Vault command of requester 0. -/
def kvCmd (op slot : Nat) : KvCmd := ⟨0, op, slot, 5, 3, 1, false, false, 0, 0, [], false⟩

/-- The command runs. -/
def kvRun (c : KvCmd) : State := { run with kv := { run.kv with cmds := [c], started := true, slots := [(5 * 64 + 1, { state := .valid, tree := 5, tenant := 3, idx := 1 })] } }

theorem witness_KeyVaultAndCipherEntries : run.isl 20 < 2 ∧ ((run.put (KV_CMD.go 3) 1).ungate 20).get (KV_CMD.go 3) ≠ 0 ∧
    (run.ungate 20).get (KV_CMD.go 3) = 0 ∧ (run.ungate 20).kv.started = false ∧ (run.ungate 20).kv.cmds = [] ∧
    (∃ op ∈ List.range 16, (kvRun (kvCmd op 0)).kvLoadHeld (kvCmd op 0) = false ∧ (kvRun (kvCmd op 0)).kvUnnamed (kvCmd op 0) = false ∧
      (kvRun (kvCmd op 0)).kvResult (kvCmd op 0) = 1) ∧
    ((kvRun (kvCmd 2 0)).kvLoadHeld (kvCmd 2 0) = false ∧ (kvRun (kvCmd 2 0)).kvUnnamed (kvCmd 2 0) = false ∧
      (kvRun (kvCmd 2 0)).kvResult (kvCmd 2 0) ≠ 1) ∧ (kvCmd 3 0).req < 11 ∧
    (kvRun (kvCmd 3 0)).kv.cmds.drop 1 = [] ∧ run.get KV_STATUS.entropy_fail = 0 ∧ (run.put KV_STATUS.entropy_fail 1).get KV_STATUS.entropy_fail ≠ 0 ∧
    (∃ d ∈ [0, 2 ^ 64 - 1, 1 <<< 63], (run.ungate 20).cipherReason 2 d = 0) ∧ (∃ d ∈ [0, 2 ^ 64 - 1, 1 <<< 63], (run.ungate 20).cipherReason 2 d ≠ 0) := by
  decide +kernel

theorem witness_StepsSlewsAndAlignment : run.isl 21 < 2 ∧ ((at5 1 .none).put TU_STATUS.time_set 1).allDark = true ∧
    ((at5 1 .none).put TU_STATUS.time_set 1).get TU_STATUS.time_set ≠ 0 ∧ tree5.allDark = false ∧ run.get TU_STATUS.time_set = 0 ∧
    (run.put TU_STATUS.step_armed 0).get TU_STATUS.step_armed = 0 ∧ (run.put TU_STATUS.step_armed 1).get TU_STATUS.step_armed ≠ 0 ∧
    (bit1 4 2 = true ∧ bit1 0 2 = false) ∧ 1000000000 ≤ (run.put TU_STEP_NS.value 1000000000).stepNs ∧
    (run.put TU_STEP_NS.value 999999999).stepNs < 1000000000 ∧
    run.tu.absPending = none ∧ ({ run with tu := { run.tu with absPending := some 7 } } : State).tu.absPending.isSome = true ∧
    ({ run with tu := { run.tu with absPending := some 7 } } : State).tu.absPending = some 7 ∧ (1 : Requester) ≠ 0 := by
  decide +kernel

theorem witness_StampsPulsesAndTodMessages : run.isl 21 < 2 ∧ run.txts 2 = [] ∧
    ({ run with tu := { run.tu with txts := [(2, [⟨0, 0, 7, 123⟩])] } } : State).txts 2 = ⟨0, 0, 7, 123⟩ :: [] ∧
    (tree5.treeState (TU_TOD_REQ.tree.of (4 * 2 ^ TU_TOD_REQ.tree.lo)) ≠ 2 ∧ tree5.treeState (TU_TOD_REQ.tree.of (4 * 2 ^ TU_TOD_REQ.tree.lo)) ≠ 3) ∧
    tree5.treeState (TU_TOD_REQ.tree.of (5 * 2 ^ TU_TOD_REQ.tree.lo)) = 3 ∧
    (((timed.put TU_PPS_CFG.out_en 1).put TU_STATUS.time_set 1).get TU_PPS_CFG.out_en ≠ 0 ∧
      ((timed.put TU_PPS_CFG.out_en 1).put TU_STATUS.time_set 1).get TU_STATUS.time_set ≠ 0 ∧ timed.tu.running = true) ∧
    (99#32).toNat < 100 ∧ 100 ≤ (100#32).toNat ∧
    ((run.put TU_TOD_CFG.tx_en 1).get TU_TOD_CFG.tx_en ≠ 0 ∧ ({ run with tu := { run.tu with ppsMsgDue := true } } : State).tu.ppsMsgDue = true) ∧
    run.stamping = true ∧ (let s := (run.put (MGT_ISLAND_STATE.island 21) 1)
     s.isl 21 < 2 ∧ s.stamping = true) ∧ run.get TU_TOD_CFG.rx_en = 0 ∧
    (run.put TU_TOD_CFG.rx_en 1).get TU_TOD_CFG.rx_en ≠ 0 ∧ run.tu.todRx.length < 64 ∧ run.tu.todRx = [] ∧
    (let s : State := { run with tu := { run.tu with todRx := List.replicate 64 0 } }
     64 ≤ s.tu.todRx.length ∧ s.tu.todRx = 0 :: List.replicate 63 0) := by decide +kernel

/-- The link in a state. -/
def linked (n : Nat) (i : List Nat) : State := let s := run.put LM_STATUS.state n; { s with link := { s.link with inits := i } }

theorem witness_LinkBringUpAndDown : run.isl 23 < 2 ∧ (∀ n < 6, (linked n []).get LM_STATUS.state = n) ∧
    (1 ≤ widthLanes 0 ∧ widthLanes 0 ≤ (bitList 5 0x1F).length) ∧ mapOk (widthLanes 0) 0x688 = true ∧
    mapOk (widthLanes 0) 0x000 = false ∧
    (let s := (linked 2 []).put (LM_LANE_STATUS.rx_use 1) 1
     s.get (LM_LANE_STATUS.rx_use 1) ≠ 0 ∧ 128 < bitsOf (129 <<< 8) (8 * 1) 8 ∧ bitsOf (128 <<< 8) (8 * 1) 8 ≤ 128) ∧
    ((3 : BitVec 3).toNat < 4 ∧ (∃ p < 4, p ∉ (linked 4 [0]).link.inits) ∧ ∀ p < 4, p ∈ (linked 4 [0, 1, 2, 3]).link.inits) ∧
    ((bitList 5 0).filter fun f => ((linked 5 []).txLogical f).isSome) = [] := by decide +kernel

theorem witness_LinkSignalInAnyState : (linked 5 []).get LM_STATUS.state ≠ 0 ∧ (linked 0 []).get LM_STATUS.state = 0 ∧
    1 ≤ widthLanes (2#2).toNat ∧ widthLanes (2#2).toNat ≤ (bitList 5 (0x1F#5).toNat).length ∧
    ¬ widthLanes (0#2).toNat ≤ (bitList 5 (0#5).toNat).length := by decide +kernel

theorem witness_LinkLaneFailures : ∃ f < 5, ((bitList 5 (2 ^ f)).filter fun g => ((linked 5 []).txLogical g).isSome) = [f] ∧
    (((linked 5 []).put LM_TX_MAP.spare 7).get LM_TX_MAP.spare = 7 ∧ ((linked 5 []).put LM_TX_MAP.spare 4).get LM_TX_MAP.spare ≠ 7 ∧
      bit1 (2 ^ f) 4 = false) := by decide +kernel

theorem witness_SenderKeepsItsWindowAndCredits : run.link.unacked.length ≤ 2048 := by decide +kernel

/-- The link Up with a message not acknowledged. -/
def sent : State := let s := linked 5 [0, 1, 2, 3]; { s with link := { s.link with unacked := [(0, ⟨0, [7]⟩)], lastMasked := 1 } }

theorem witness_LinkMessagesReplaysAndSwaps : sent.isl 23 < 2 ∧ sent.linkUp = true ∧ (3 : BitVec 3).toNat < 4 ∧ (0 : BitVec 12).toNat = sent.link.nextRx ∧
    (1 : BitVec 12).toNat ≠ sent.link.nextRx ∧ sent.link.naked = false ∧ ({ sent with link := { sent.link with naked := true } } : State).link.naked = true ∧
    (∃ s ∈ [((sent.put (TE_EVENT.key_wrap 5) 1).put MGT_INT_HOST_MASK.blocks 0x7FFFFF)], s.get LM_INT_CFG.resend_us ≠ 0 ∧ s.link.lastMasked ≠ 0 ∧ s.hostMasked ≠ 0) ∧
    run.link.unacked = [] ∧ (sent.link.unacked ≠ [] ∧ sent.link.replays < 7) ∧ 7 ≤ ({ sent with link := { sent.link with replays := 7 } } : State).link.replays ∧
    (∀ p ∈ [SwapStep.none, .prepare, .mirror], ({ sent with link := { sent.link with swap := p } } : State).link.swap = p) := by
  decide +kernel

/-- In Standby, with the Beacon's count of good SOF blocks. -/
def asleep (good wake : Nat) : State :=
  let s := run.put PWR_STATUS.state 3; { s with link := { s.link with beaconGood := good, beaconLast := some 6, beaconWake := wake } }

theorem witness_BeaconAndWakePort : (∀ n ∈ [2, 3, 5], (run.put PWR_STATUS.state n).get PWR_STATUS.state = n) ∧
    ((asleep 3 0).link.beaconGood = 3 ∧ (asleep 3 0).link.beaconLast = some ((7 + 2 ^ 32 - 1) % 2 ^ 32)) ∧
    (asleep 3 0).link.beaconLast ≠ some ((9 + 2 ^ 32 - 1) % 2 ^ 32) ∧ ((asleep 4 0).link.beaconWake = 0 ∧ (asleep 4 1).link.beaconWake = 1) ∧
    (asleep 4 0).wpRuns = true ∧ ((run.put WP_CFG.wake_en 1).get WP_CFG.wake_en ≠ 0 ∧ (run.put WP_CFG.wake_en 0).get WP_CFG.wake_en = 0) ∧
    (let p := crc8 [BitVec.ofNat 8 (2 * (asleep 4 0).get WP_CFG.mgmt_addr), 0x02, 1]
     p = (BitVec.ofNat 8 p).toNat ∧ p ≠ (BitVec.ofNat 8 (p + 1)).toNat) ∧ (asleep 4 0).get WP_ALERT.sources < 8 ∧
    ([] : List (BitVec 8)).length ≠ 2 ∧ (run.linkUp = false ∧ run.get PWR_STATUS.state ≤ 2) := by decide +kernel

/-- The clocks at a step of the start-up and of a switch, with every source running. -/
def clocks (p : ClkStep) (w : SwitchStep) : State :=
  let s := (run.put CLK_STATUS.spll_state 2).put CLK_STATUS.qual 7
  { s with clk := { s.clk with step := p, switch := w, xtalRuns := true } }

/-- The crystal stopped. -/
def crystalStopped : State := let s := (clocks .none .none).put CLK_SRC_CFG.xtal_keep 0; { s with clk := { s.clk with xtalRuns := false } }

theorem witness_SourcesStartUpAndSwitches :
    ((clocks .none .none).srcOn (srcNum .xtal) = true ∧ ((clocks .none .none).srcSt (srcNum .xtal)).tripped = false ∧
      ((clocks .none .none).srcSt (srcNum .xtal)).stable = false) ∧
    (run.inWindow 2 262144 = true ∧ run.inWindow 2 277873 = false) ∧ ((run.setSrc 2 { tripped := true }).srcSt 2).tripped = true ∧
    ((clocks .none .none).clkRuns = true ∧ (clocks .none .none).clk.xtalRuns = true ∧ ((clocks .none .none).srcSt 2).stable = false ∧
      (((clocks .none .none).setSrc 2 { stable := true }).srcSt 2).stable = true ∧ ((clocks .none .none).setSrc 2 { stable := true }).clkRuns = true) ∧
    crystalStopped.monThr < (32767 : Int).natAbs ∧
    (let f (s : State) (k : Nat) : State := { s with clk := { s.clk with fallback := k, retried := true } }
     (f (clocks .lock .none) 0).qual 0 = true ∧ (f (run.put CLK_STATUS.qual 0) 0).qual 0 = false ∧ (f (clocks .lock .none) 0).clk.fallback = 0 ∧
     (∀ p ∈ [ClkStep.lock, .derived], ∀ n ∈ [1, 4], ((f (clocks p .none) 0).put PWR_STATUS.state n).clk.step = p ∧
       ((f (clocks p .none) 0).put PWR_STATUS.state n).clk.retried = true ∧ ((f (clocks p .none) 0).put PWR_STATUS.state n).get PWR_STATUS.state = n)) ∧
    ((resetting 13 .rejoin).isl 13 = 2 ∧ ((resetting 13 .rejoin).islSt 13).step = .rejoin) ∧
    ((let s : State := { run with pwr := { run.pwr with step := .wakeRestore, structuredBefore := true } }
      s.pwr.step = .wakeRestore ∧ s.pwr.structuredBefore = true) ∧ Config.islandFeed 23 = 1 ∧
      ({ run with pwr := { run.pwr with step := .bootLink } } : State).pwr.step = .bootLink) ∧
    (crystalStopped.clkRuns = true ∧ crystalStopped.clk.xtalRuns = false ∧ crystalStopped.xtalStopped = true) ∧ (0 : Int).natAbs ≤ crystalStopped.monThr ∧
    ((clocks .none .none).trimUsable = true ∧ 204790 ≤ (204790#32).toNat ∧ (204810#32).toNat ≤ 204810 ∧ 204810 < (204811#32).toNat ∧
      (204789#32).toNat < 204790) ∧
    run.get CLK_STATUS.trim_code < 4096 ∧ 3 ≤ ({ run with clk := { run.clk with trimGood := 3 } } : State).clk.trimGood ∧
    ((clocks .lock .none).clk.step = .lock ∧ (clocks .lock .none).selected = some 0) ∧
    ((clocks .none .relock).clk.step ≠ .lock ∧ (clocks .none .relock).clk.switch = .relock) ∧ (clocks .derived .none).clk.step = .derived ∧
    ((clocks .lock .none).clk.retried = false ∧ (clocks .lock .none).get PWR_STATUS.state ≠ 4) ∧ (clocks .hold .none).clk.step = .hold ∧
    (let s : State := { run with clk := { run.clk with target := [(13, 160)] } }
     s.isl 13 ≠ 2 ∧ mget 13 s.clk.target = some 160 ∧ ((s.put (CLK_ISL_STATUS.div 13) 320).rampStep 13 160).ramps = true ∧
     ((s.put (CLK_ISL_STATUS.div 13) 161).rampStep 13 160).ramps = false ∧ (s.put (CLK_ISL_STATUS.div 13) 320).get (CLK_ISL_STATUS.div 13) < 511) ∧
    (Config.islandFeed 2 = 1 ∧ (loading .apply).sil.step = .apply ∧ (loading .apply).get SIL_STATUS.partial = 0 ∧ (2 : Isl) ≠ 23) ∧
    (let s := ((clocks .none .none).put CLK_SRC_CFG.revertive 1).put CLK_STATUS.active 1
     s.get CLK_SRC_CFG.revertive ≠ 0 ∧ s.get CLK_SRC_CFG.manual = 0 ∧ s.clk.switch = .none ∧ s.get CLK_STATUS.spll_state = 2 ∧ s.selected = some 0 ∧
     s.prioOf 0 < s.prioOf (s.get CLK_STATUS.active)) := by decide +kernel

/-- Both feeds there. -/
def fed : State := (run.put PWR_STATUS.feed_a_ok 1).put PWR_STATUS.feed_b_ok 1

theorem witness_FeedsRailsAndTheSupplyPort : (fed.get PWR_STATUS.feed_a_ok ≠ 0 ∧ fed.get PWR_STATUS.feed_b_ok ≠ 0) ∧
    (fed.put PWR_STATUS.feed_b_ok 0).get PWR_STATUS.feed_b_ok = 0 ∧
    (State.reset.get PWR_STATUS.feed_a_ok = 0 ∧ State.reset.get PWR_STATUS.feed_b_ok = 0 ∧ State.reset.pwr.resetN = false) ∧ run.get PWR_STATUS.state = 1 ∧
    (let s : State := { run with pwr := { run.pwr with neg := .tree, negSet := 800 } }
     s.pwr.neg ≠ .none ∧ 97 * s.pwr.negSet ≤ 10 * (7760#14).toNat ∧ 10 * (8240#14).toNat ≤ 103 * s.pwr.negSet ∧
     10 * (7759#14).toNat < 97 * s.pwr.negSet ∧ 103 * s.pwr.negSet < 10 * (8241#14).toNat ∧ s.pwr.negRetried = false) ∧
    ({ run with pwr := { run.pwr with neg := .tree, negRetried := true } } : State).pwr.negRetried = true ∧
    ((run.put PWR_SUP_CFG.en 1).get PWR_SUP_CFG.en ≠ 0 ∧ run.pwr.neg = .none ∧ run.est ≤ 10 * (run.get PWR_SUP_CFG.thr_w - 10)) := by
  decide +kernel

/-- The power controller at a step. -/
def power (p : PwrStep) (r : Bool) : State := { fed with pwr := { fed.pwr with step := p, retried := r } }

theorem witness_StandbyWakeAndBoot : (run.get PWR_STATUS.state = 1 ∧ run.allDark = true ∧ run.get SIL_STATUS.busy = 0) ∧ tree5.allDark = false ∧
    (loading .parse).get SIL_STATUS.busy ≠ 0 ∧ (1 : Requester) ≠ 0 ∧
    (∀ p ∈ [PwrStep.stop, .drain, .save, .off, .wakeRails, .wakeRestore, .wakeResume, .feed, .island0, .bootRails, .bootLink],
      (power p false).pwr.step = p ∧ (power p true).pwr.retried = true ∧ (power p false).pwr.retried = false) ∧
    (power .drain false).slotsUsed = [] ∧ (let s : State := { fed with jnl := { fed.jnl with copyA := [(9, ⟨1, 2, 1, 0, false, 0, 0, 3, 0, 64, 0, 0, 0, 0, 0, true⟩)] } }
      s.slotsUsed ≠ [] ∨ ({ s with jnl := { s.jnl with reserved := [9] } } : State).slotsUsed ≠ []) ∧
    (power .off false).link.wakeHeld = 0 ∧ (power .island0 false).get PWR_SUP_CFG.en = 0 ∧
    (let s : State := { fed with pwr := { fed.pwr with resetN := true } }
     s.pwr.resetN = true ∧ s.get PWR_STATUS.feed_a_ok ≠ 0) ∧ fed.pwr.resetN = false := by decide +kernel

/-- A slice swap of lane 3 at a step. -/
def swapping (p : SliceStep) : State := { run with rel := { run.rel with swaps := [⟨3, 33, p, false⟩] } }

/-- The same with every slice of the chiplet retired. -/
def lastSlice : State :=
  { swapping .prepare with rel := { (swapping .prepare).rel with retired := (List.range 36).map fun k => (0x1800 + slicePart 0 k, 0) } }

/-- A class under mode 0. -/
def byHand (c : Nat) : State :=
  { run with sil := { run.sil with running := { run.sil.running with spare := [(c, { swapMode := 0 })] } } }

theorem witness_ErrorsTroublesAndSpares :
    ((run.put (REL_CE_LEVEL.value 17) (run.ceThreshold - 1)).get (REL_CE_LEVEL.value 17) + 1 = run.ceThreshold ∧
      (run.put (REL_CE_LEVEL.value 17) (run.ceThreshold - 1)).get (REL_CE_LEVEL.value 17) < 65535 ∧ 17 ∉ run.rel.disarmed ∧
      run.get (REL_CE_LEVEL.value 17) + 1 < run.ceThreshold) ∧
    (run.readsPoison 0x1000028000 = false ∧ ({ run with poison := [⟨0x1000028000, 0x1000028008, true⟩] } : State).readsPoison 0x1000028004 = true) ∧
    (run.uePart 0x1000028000 = none ∧ run.uePart 0x1020000008 = some (6, 0, 8) ∧
      (let l := (mgetD (6 * 4096 + 0) [] run.rel.ueUs).filter (fun u => decide (run.us < u + 1000000)) ++ [run.us]
       l.length < 8) ∧
      (let s : State := { run with rel := { run.rel with ueUs := [(6 * 4096 + 0, List.replicate 7 0)] } }
       8 ≤ ((mgetD (6 * 4096 + 0) [] s.rel.ueUs).filter (fun u => decide (s.us < u + 1000000)) ++ [s.us]).length)) ∧
    ((∀ w ∈ run.rel.swaps, w.lane ≠ 5) ∧ run.partServes 1 5 = true ∧ run.partServes 1 64 = false ∧ (∀ w ∈ run.rel.swaps, w.lane ≠ 64) ∧ (run.partOut 1 5).spareFor 1 5 = true ∧
      (byHand 1).swapMode 1 = 0 ∧ (byHand 1).partServes 1 5 = true ∧ ((byHand 1).partOut 1 5).spareFor 1 5 = true ∧
      ({ run with sil := { run.sil with running := { run.sil.running with spare := [(1, { swapMode := 1 })] } } } : State).swapMode 1 = 1) ∧
    ((loading .apply).sil.step = .apply ∧ run.goRuns = false ∧
      ({ swapping .prepare with rel := { (swapping .prepare).rel with goSwap := some (1, 3) } } : State).goRuns = true) ∧
    0x1000000000 ≤ (0x1000000000#40).toNat ∧ mget 4 run.rel.tlog = none ∧
    mget 4 ({ run with rel := { run.rel with tlog := [(4, ⟨0, 1, 2, 3, 4⟩)] } } : State).rel.tlog = some ⟨0, 1, 2, 3, 4⟩ ∧
    run.wearOf 7 1 = some 1 ∧ run.partServes 4 9 = false ∧
    (∀ c ∈ [2, 4], (byHand c).partServes c 5 = true ∧ (byHand c).swapMode c = 0 ∧ ((byHand c).partOut c 5).spareFor c 5 = true) ∧
    (byHand 2).sil.step ≠ .apply ∧ run.get (REL_SPARE.pending 0) = 0 ∧
    (run.swapAt 3 .prepare = none ∧ (swapping .prepare).swapAt 3 .prepare = some ⟨3, 33, .prepare, false⟩ ∧
      (swapping .upstream).swapAt 3 .upstream = some ⟨3, 33, .upstream, false⟩) ∧
    ((lastSlice.retireSlice 0 33).freeSlice 0 = none ∧ lastSlice.swapAt 3 .prepare = some ⟨3, 33, .prepare, false⟩) ∧
    (((swapping .prepare).retireSlice 0 33).freeSlice 0).isSome = true := by decide +kernel

/-- Core 2 with a work queue entry in a state, crashes at some times, and an entry in its send ring. -/
def core2 (st : WqState) (cr : List Nat) : State :=
  { run with rel := { run.rel with wq := [(wqKey 2 7, ⟨st, 5, 1, 0, 3, 0, []⟩)], crashUs := [(2, cr)] } }

/-- A send ring of slice 1 of core 2 with one entry, of a frame of 60 octets or of none. -/
def sendRing (w : Nat) : State :=
  let s := (run.put (POL_TX_PROD.index 2 1) 1).put POL_RING_CFG.tx_size 16
  s.putWord (s.txAddr 2 1 0) w

theorem witness_CoresQueuesAndRings : ((run.put (POL_CORE.state 2) 1).get (POL_CORE.state 2) ≠ 0 ∧ run.get (POL_CORE.state 2) = 0) ∧
    ((mgetD 2 [] (core2 .written [0]).rel.crashUs).filter fun u => decide ((core2 .written [0]).us < u + 60000000)).length < 2 ∧
    2 ≤ ((mgetD 2 [] (core2 .written [0, 0]).rel.crashUs).filter fun u => decide ((core2 .written [0, 0]).us < u + 60000000)).length ∧
    ((run.put (POL_CORE.state 2) 2).get (POL_CORE.state 2) = 2 ∧ run.rel.fwLoading = false) ∧ State.reset.structured = false ∧ run.structured = true ∧
    run.fwN 0 4 ≠ 0x4E424657 ∧ run.wqOldest 2 = none ∧
    ((core2 .written []).wqOldest 2 = some (wqKey 2 7, ⟨.written, 5, 1, 0, 3, 0, []⟩)) ∧
    (mget (wqKey 2 7) (core2 .taken []).rel.wq = some ⟨.taken, 5, 1, 0, 3, 0, []⟩ ∧ mget (wqKey 2 8) (core2 .taken []).rel.wq = none) ∧
    (run.get (POL_TX_CONS.index 2 1) = run.get (POL_TX_PROD.index 2 1) ∧
      (sendRing (60 <<< 46)).get (POL_TX_CONS.index 2 1) ≠ (sendRing (60 <<< 46)).get (POL_TX_PROD.index 2 1)) ∧
    (let s := sendRing (60 <<< 46)
     let e := s.get (POL_TX_CONS.index 2 1)
     e < 8191 ∧ e + 1 < s.get POL_RING_CFG.tx_size ∧ excWordOk (s.tword (s.txAddr 2 1 e)) (bitsOf (s.tword (s.txAddr 2 1 e)) 46 14) = true ∧
     (s.bytesAt (s.txAddr 2 1 e + 8) 24).any (· != 0) = false) ∧
    (let s := sendRing (59 <<< 46)
     excWordOk (s.tword (s.txAddr 2 1 0)) (bitsOf (s.tword (s.txAddr 2 1 0)) 46 14) = false) := by decide +kernel
end Sys2Proof.Tests
end

section
/-! PROOFS. The Structure Image loader: a busy SIL ignores staging writes and loads (R76), and a load of the wrong kind fails in
Check (R48). -/

namespace Sys2Proof.Machine

variable {s : State}

/-! ## The rows of the loader -/

theorem exec_silLoad_eq (s : State) : exec .silLoad s = .next s.silLoad.settle := rfl

theorem exec_stageWrite_eq (s : State) (off : BitVec 20) (octets : List Byte) :
    exec (.stageWrite off octets) s = .next (s.stageWrite off.toNat octets).settle := rfl

theorem exec_loadCheckEnd_of_check (h : s.sil.step = .check) :
    exec .loadCheckEnd s = .next (s.loadNext (s.checkErr s.sil.wasStructured) .apply 4).settle :=
  if_pos h

/-! ## A write of SIL_CTRL.load and a write of the staging window (R68, R76) -/

theorem State.silLoad_of_busy (h : s.get SIL_STATUS.busy ≠ 0) : s.silLoad = s.inc SIL_FAIL_CNT.busy :=
  if_pos (State.on_of_ne h)

/-- The load remembers whether the device was Structured as it was commanded. -/
theorem State.silLoad_sil_of_idle (h : s.get SIL_STATUS.busy = 0) :
    s.silLoad.sil = { s.sil with step := .parse, applyRetried := false, wasStructured := s.structured } := by
  have hidle : s.on SIL_STATUS.busy = false := State.on_of_eq h
  cases himg : s.imgFull <;> simp [State.silLoad, hidle, himg]

theorem State.stageWrite_of_busy (h : s.get SIL_STATUS.busy ≠ 0) (off : Nat) (octets : List Byte) :
    s.stageWrite off octets = s.put SIL_EVENT.stage_write_busy 1 :=
  if_pos (State.on_of_ne h)

/-! ## What Check finds (R48, R66) -/

theorem firstErr_cons_of_true {b : Bool} (h : b = true) (e : LoadErr) (r : List (Bool × LoadErr)) :
    firstErr ((b, e) :: r) = some e := by
  subst h
  rfl

/-- The kind is judged before every other condition of Check (log 20), so the wrong kind is the failure reported. -/
theorem State.checkErr_of_wrong_kind {was : Bool} (h : s.imgFull = was) : s.checkErr was = some ⟨0x10, 0, 0, 0⟩ :=
  firstErr_cons_of_true (beq_iff_eq.mpr h) _ _

@[simp] theorem State.loadNext_some (s : State) (e : LoadErr) (next : SilStep) (code : Nat) :
    s.loadNext (some e) next code = s.loadFail e := rfl

/-! ## The obligations -/

/-- Settles O22: both commands test SIL_STATUS.busy before they act. -/
theorem busySilIgnoresStagingAndLoad : Obligations.BusySilIgnoresStagingAndLoad := by
  intro s hbusy
  constructor
  · intro off octets
    rw [exec_stageWrite_eq, State.stageWrite_of_busy hbusy]
  · rw [exec_silLoad_eq, State.silLoad_of_busy hbusy]
    rfl

/-- Settles O24: the kind heads the list of conditions that Check judges, against the state that the load remembers. -/
theorem wrongKindOfImageIsError10 : Obligations.WrongKindOfImageIsError10 := by
  refine ⟨fun s hkind hstep => ?_, fun s hkind => ?_, fun s hidle => ⟨s.silLoad, exec_silLoad_eq s, ?_⟩⟩
  · rw [exec_loadCheckEnd_of_check hstep, State.checkErr_of_wrong_kind hkind, State.loadNext_some]
  · simp [State.checkErr_of_wrong_kind hkind]
  · simp only [State.silLoad_sil_of_idle hidle]
    rfl

end Sys2Proof.Machine
end

section
/-! PROOFS. The standby interlock: a write of MGT_PROT_CFG reaches en while the interlock is idle, and not otherwise (R201). -/

namespace Sys2Proof.Machine

/-! ## Fields of a written register word -/

/-- The value that a data word gives a field needs no cut to the field's width. -/
theorem State.get_put_of (s : State) (f : Fld) (d : Nat) : (s.put f (f.of d)).get f = f.of d :=
  (s.get_put_self f _).trans (Nat.mod_mod _ _)

/-- Fields of two registers have different keys. -/
theorem Fld.key_ne_of_addr_ne {f g : Fld} (hf : f.lo < 32) (hg : g.lo < 32) (h : f.addr ≠ g.addr) : f.key ≠ g.key := by
  unfold Fld.key
  omega

/-! ## A write of MGT_PROT_CFG -/

/-- The part of a write of MGT_PROT_CFG that the interlock's state does not hold back: every field but en. -/
def State.protCfgRest (s : State) (d : Nat) : State :=
  ((s.put MGT_PROT_CFG.auto_take (MGT_PROT_CFG.auto_take.of d)).put MGT_PROT_CFG.rel_uplink_ms
    (MGT_PROT_CFG.rel_uplink_ms.of d)).put MGT_PROT_CFG.off_delay_us (MGT_PROT_CFG.off_delay_us.of d)

section
variable (s : State) (d : Nat)

theorem exec_protCfgWrite_eq (d : BitVec 32) : exec (.protCfgWrite d) s = .next (s.protCfg d.toNat).settle := rfl

variable {s} in
theorem State.protCfg_of_idle (h : s.get MGT_PROT_STATUS.state = 0) :
    s.protCfg d = (s.protCfgRest d).put MGT_PROT_CFG.en (MGT_PROT_CFG.en.of d) :=
  if_pos (beq_iff_eq.mpr h)

variable {s} in
theorem State.protCfg_of_not_idle (h : s.get MGT_PROT_STATUS.state ≠ 0) : s.protCfg d = s.protCfgRest d :=
  if_neg (mt beq_iff_eq.mp h)

theorem State.protCfgRest_auto_take : (s.protCfgRest d).get MGT_PROT_CFG.auto_take = MGT_PROT_CFG.auto_take.of d := by
  rw [State.protCfgRest, State.get_put_other (by decide), State.get_put_other (by decide), State.get_put_of]

theorem State.protCfgRest_rel_uplink_ms :
    (s.protCfgRest d).get MGT_PROT_CFG.rel_uplink_ms = MGT_PROT_CFG.rel_uplink_ms.of d := by
  rw [State.protCfgRest, State.get_put_other (by decide), State.get_put_of]

theorem State.protCfgRest_off_delay_us :
    (s.protCfgRest d).get MGT_PROT_CFG.off_delay_us = MGT_PROT_CFG.off_delay_us.of d :=
  State.get_put_of _ _ _

theorem State.protCfgRest_get_other {x : Fld} (hauto : x.key ≠ MGT_PROT_CFG.auto_take.key)
    (hrel : x.key ≠ MGT_PROT_CFG.rel_uplink_ms.key) (hoff : x.key ≠ MGT_PROT_CFG.off_delay_us.key) :
    (s.protCfgRest d).get x = s.get x := by
  rw [State.protCfgRest, State.get_put_other hoff, State.get_put_other hrel, State.get_put_other hauto]

/-- Apart from en, a write of MGT_PROT_CFG leaves what its other fields leave, whatever the interlock's state. -/
theorem State.protCfg_get_of_ne_en {x : Fld} (h : x.key ≠ MGT_PROT_CFG.en.key) :
    (s.protCfg d).get x = (s.protCfgRest d).get x := by
  by_cases hidle : s.get MGT_PROT_STATUS.state = 0
  · rw [State.protCfg_of_idle d hidle, State.get_put_other h]
  · rw [State.protCfg_of_not_idle d hidle]

/-- A write of MGT_PROT_CFG changes register fields only. -/
theorem State.protCfg_eq_fld : ∃ f, s.protCfg d = { s with fld := f } := by
  by_cases hidle : s.get MGT_PROT_STATUS.state = 0
  · exact ⟨_, State.protCfg_of_idle d hidle⟩
  · exact ⟨_, State.protCfg_of_not_idle d hidle⟩

variable {s} in
theorem State.protCfg_en_of_idle (h : s.get MGT_PROT_STATUS.state = 0) :
    (s.protCfg d).get MGT_PROT_CFG.en = MGT_PROT_CFG.en.of d := by
  rw [State.protCfg_of_idle d h, State.get_put_of]

variable {s} in
theorem State.protCfg_en_of_not_idle (h : s.get MGT_PROT_STATUS.state ≠ 0) :
    (s.protCfg d).get MGT_PROT_CFG.en = s.get MGT_PROT_CFG.en := by
  rw [State.protCfg_of_not_idle d h, State.protCfgRest_get_other s d (by decide) (by decide) (by decide)]

theorem State.protCfg_get_other {x : Fld} (haddr : x.addr ≠ MGT_PROT_CFG.en.addr) (hlo : x.lo < 32) :
    (s.protCfg d).get x = s.get x := by
  have hkey : ∀ g : Fld, g.addr = MGT_PROT_CFG.en.addr → g.lo < 32 → x.key ≠ g.key := fun g hg hglo =>
    Fld.key_ne_of_addr_ne hlo hglo (hg ▸ haddr)
  rw [State.protCfg_get_of_ne_en s d (hkey _ rfl (by decide)),
    State.protCfgRest_get_other s d (hkey _ rfl (by decide)) (hkey _ rfl (by decide)) (hkey _ rfl (by decide))]

end

/-! ## The obligation -/

/-- Settles O39: the write puts en behind a test of MGT_PROT_STATUS.state and the other fields of the register outside it. -/
theorem interlockEnableIsIgnoredUnlessIdle : Obligations.InterlockEnableIsIgnoredUnlessIdle := by
  intro d s
  refine ⟨s.protCfg d.toNat, exec_protCfgWrite_eq s d, s.protCfg_eq_fld _, State.protCfg_en_of_not_idle _,
    State.protCfg_en_of_idle _, ?_, ?_, ?_, fun x => s.protCfg_get_other _⟩
  · rw [State.protCfg_get_of_ne_en _ _ (by decide), State.protCfgRest_auto_take]
  · rw [State.protCfg_get_of_ne_en _ _ (by decide), State.protCfgRest_rel_uplink_ms]
  · rw [State.protCfg_get_of_ne_en _ _ (by decide), State.protCfgRest_off_delay_us]

end Sys2Proof.Machine
end

section
/-! PROOFS. The settled state: what a step of the block keeps of the summaries last seen and of the trim loop's source (R444, R461, R513). -/

namespace Sys2Proof.Machine

/-! ## Fields that raise no flag -/

/-- A key of the register fields whose field is no source of the interrupt summary (R523). -/
def quietKey (k : Nat) : Prop := intBlock (k / 32) (k % 32) = none ∧ intTree (k / 32) = none

/-- A fold over a sparse map that passes over a key does not see a value set there. -/
theorem foldl_mset_of_skip {α β : Type} {g : α → Nat × β → α} {k : Nat} (hg : ∀ a v, g a (k, v) = a) (v : β) (m : List (Nat × β))
    (a : α) : (mset k v m).foldl g a = m.foldl g a := by
  induction m generalizing a with
  | nil => simp [mset, hg]
  | cons e m ih =>
    obtain ⟨j, w⟩ := e
    simp only [mset]
    split
    · simp [hg]
    · split
      · rename_i hj
        subst hj
        simp [hg]
      · exact ih _

theorem foldl_mdel_of_skip {α β : Type} {g : α → Nat × β → α} {k : Nat} (hg : ∀ a v, g a (k, v) = a) (m : List (Nat × β)) (a : α) :
    (mdel k m).foldl g a = m.foldl g a := by
  induction m generalizing a with
  | nil => rfl
  | cons e m ih =>
    obtain ⟨j, w⟩ := e
    by_cases hj : j = k
    · subst hj
      simpa [mdel, hg] using ih a
    · simpa [mdel, hj] using ih _

theorem foldl_nset_of_skip {α : Type} {g : α → Nat × Nat → α} {k : Nat} (hg : ∀ a v, g a (k, v) = a) (v : Nat) (m : List (Nat × Nat))
    (a : α) : (nset k v m).foldl g a = m.foldl g a := by
  unfold nset
  split
  · exact foldl_mdel_of_skip hg m a
  · exact foldl_mset_of_skip hg v m a

/-- What the interrupt summary is made of. -/
structure SameFlags (s t : State) : Prop where
  blocks : t.liveBlocks = s.liveBlocks
  trees : t.liveTrees = s.liveTrees
  islands : t.islands = s.islands
  isl : ∀ n < 28, t.isl n = s.isl n
  hostMask : t.get MGT_INT_HOST_MASK.blocks = s.get MGT_INT_HOST_MASK.blocks
  polMask : t.get MGT_INT_POL_MASK.blocks = s.get MGT_INT_POL_MASK.blocks

namespace SameFlags

variable {s t u : State}

theorem refl (s : State) : SameFlags s s := ⟨rfl, rfl, rfl, fun _ _ => rfl, rfl, rfl⟩

theorem trans (h : SameFlags s t) (h' : SameFlags t u) : SameFlags s u :=
  ⟨h'.blocks.trans h.blocks, h'.trees.trans h.trees, h'.islands.trans h.islands, fun n hn => (h'.isl n hn).trans (h.isl n hn),
    h'.hostMask.trans h.hostMask, h'.polMask.trans h.polMask⟩

/-- States with the same fields and the same islands have the same flags. -/
theorem of_eq (hf : t.fld = s.fld) (hi : t.islands = s.islands) : SameFlags s t := by
  have hg : ∀ x : Fld, t.get x = s.get x := fun x => by simp [State.get, hf]
  exact ⟨by simp [State.liveBlocks, hf], by simp [State.liveTrees, hf], hi, fun n _ => hg _, hg _, hg _⟩

/-- A write of a field that raises no flag, outside the states of the islands and the masks. -/
theorem put {f : Fld} (hq : quietKey f.key) (hi : ∀ n < 28, (MGT_ISLAND_STATE.island n).key ≠ f.key)
    (hh : MGT_INT_HOST_MASK.blocks.key ≠ f.key) (hp : MGT_INT_POL_MASK.blocks.key ≠ f.key) (s : State) (v : Nat) :
    SameFlags s (s.put f v) where
  blocks := foldl_nset_of_skip (fun a w => by simp [hq.1]) _ _ _
  trees := foldl_nset_of_skip (fun a w => by simp [hq.2]) _ _ _
  islands := rfl
  isl n hn := State.get_put_other (hi n hn) s v
  hostMask := State.get_put_other hh s v
  polMask := State.get_put_other hp s v

theorem islSt (h : SameFlags s t) (n : Nat) : t.islSt n = s.islSt n := by simp [State.islSt, h.islands]

theorem blockIslands_lt {b n : Nat} (h : n ∈ blockIslands b) : n < 28 := by
  unfold blockIslands at h
  split at h <;> simp at h <;> omega

theorem up (h : SameFlags s t) {n : Nat} (hn : n < 28) : t.up n = s.up n := by simp [State.up, h.isl n hn]

theorem blockHeld (h : SameFlags s t) (b : Nat) : t.blockHeld b = s.blockHeld b := by
  have hany : (blockIslands b).any t.up = (blockIslands b).any s.up := by
    rw [Bool.eq_iff_iff, List.any_eq_true, List.any_eq_true]
    exact exists_congr fun n => and_congr_right fun hn => by rw [h.up (blockIslands_lt hn)]
  have hfind : ((blockIslands b).find? fun n => t.isl n == 2) = (blockIslands b).find? fun n => s.isl n == 2 :=
    List.find?_congr fun n hn => by rw [h.isl n (blockIslands_lt hn)]
  simp only [State.blockHeld, hany, hfind]

theorem intTrees (h : SameFlags s t) : t.intTrees = s.intTrees := by
  simp only [State.intTrees, h.trees, h.islSt]
  refine congrArg bitSum (List.filter_congr fun n hn => ?_)
  rw [h.isl (treeIsl n) (by have := List.mem_range.mp hn; unfold treeIsl; omega)]

theorem summary (h : SameFlags s t) : t.summary = s.summary := by
  simp only [State.summary, h.blocks, h.intTrees, h.blockHeld, h.islSt]

theorem hostMasked (h : SameFlags s t) : t.hostMasked = s.hostMasked := by
  simp only [State.hostMasked, h.summary, h.hostMask]

theorem polMasked (h : SameFlags s t) : t.polMasked = s.polMasked := by
  simp only [State.polMasked, h.summary, h.polMask]

end SameFlags

/-! ## Work items raise no flag -/

theorem quietKey_wqFull : quietKey POL_WQ_FULL_CNT.count.key := ⟨rfl, rfl⟩

theorem sameFlags_put_wqFull (s : State) (v : Nat) : SameFlags s (s.put POL_WQ_FULL_CNT.count v) :=
  .put quietKey_wqFull (by decide) (by decide) (by decide) s v

theorem sameFlags_put_wqProd {c : Nat} (hc : c < 10) (s : State) (v : Nat) : SameFlags s (s.put (POL_WQ_PROD.index c) v) := by
  have h : ∀ c < 10, quietKey (POL_WQ_PROD.index c).key ∧ (∀ n < 28, (MGT_ISLAND_STATE.island n).key ≠ (POL_WQ_PROD.index c).key) ∧
      MGT_INT_HOST_MASK.blocks.key ≠ (POL_WQ_PROD.index c).key ∧ MGT_INT_POL_MASK.blocks.key ≠ (POL_WQ_PROD.index c).key := by
    unfold quietKey
    decide
  obtain ⟨hq, hi, hh, hp⟩ := h c hc
  exact .put hq hi hh hp s v

theorem State.workItem_sameFlags (kind tree tenant : Nat) (b : List Byte) (s : State) :
    SameFlags s (s.workItem kind tree tenant b) := by
  unfold State.workItem
  split
  · exact .refl s
  · rename_i c e hce
    split
    · exact sameFlags_put_wqFull s _
    · refine SameFlags.trans ?_ (sameFlags_put_wqProd (s.itemSlot_bound hce).1 _ _)
      exact .of_eq rfl rfl

theorem State.alarms_sameFlags (l : List Nat) (s : State) : SameFlags s (s.alarms l) := by
  induction l generalizing s with
  | nil => exact .refl s
  | cons b l ih => exact (s.workItem_sameFlags 5 0 0 s.alarmBody).trans (ih _)

theorem State.sendMsg_sameFlags (pool : Nat) (b : List (BitVec 64)) (s : State) : SameFlags s (s.sendMsg pool b) := by
  obtain ⟨q, u, x, a, p, e, h⟩ := s.sendMsg_eq pool b
  rw [h]
  exact .of_eq rfl rfl

/-- The interrupt logic raises no flag. -/
theorem State.irq_sameFlags (s : State) : SameFlags s s.irq := by
  have h : SameFlags s (if s.link.lastMasked = 0 ∧ s.hostMasked ≠ 0 then s.sendInt s.hostMasked else s) := by
    split
    · exact s.sendMsg_sameFlags 3 _
    · exact .refl s
  exact (h.trans (State.alarms_sameFlags s.risen _)).trans (.of_eq rfl rfl)

/-! ## The trim loop's source -/

/-- What decides whether the trim loop has a usable source (R461, R468). -/
structure SameTrim (s t : State) : Prop where
  link : t.link.beaconLock = s.link.beaconLock
  xtalRuns : t.clk.xtalRuns = s.clk.xtalRuns
  step : t.clk.step = s.clk.step
  get : ∀ f ∈ [CLK_TRIM_CFG.auto, CLK_TRIM_CFG.src, CLK_STATUS.qual, LM_STATUS.state, CLK_SRC_CFG.xtal_keep, PWR_STATUS.state],
    t.get f = s.get f

theorem SameTrim.trimUsable {s t : State} (h : SameTrim s t) : t.trimUsable = s.trimUsable := by
  have hget := h.get
  simp only [List.mem_cons, List.not_mem_nil, or_false, forall_eq_or_imp, forall_eq] at hget
  obtain ⟨hauto, hsrc, hqual, hstate, hkeep, hpwr⟩ := hget
  simp only [State.trimUsable, State.sofLock, State.xtalStopped, State.on, h.link, h.xtalRuns, h.step, hauto, hsrc, hqual, hstate, hkeep, hpwr]

theorem State.trimWatch_sameTrim (s : State) : SameTrim s s.trimWatch := by
  obtain ⟨f, o, g, e, hget⟩ := s.trimWatch_eq
  refine ⟨by rw [e], by rw [e], by rw [e], fun x hx => hget x ?_ ?_⟩ <;> revert x <;> decide

theorem State.irq_sameTrim (s : State) : SameTrim s s.irq := by
  obtain ⟨f, m, w, n, q, u, x, a, p, e, h, hget, _⟩ := s.irq_eq
  refine ⟨by rw [h], by rw [h], by rw [h], fun x hx => hget x ?_⟩
  revert x
  simp only [List.mem_cons, List.not_mem_nil, or_false, forall_eq_or_imp, forall_eq]
  have key : ∀ k, k ≠ POL_WQ_FULL_CNT.count.key → (∀ c < 10, k ≠ (POL_WQ_PROD.index c).key) → ¬wqField k := fun k h1 h2 h =>
    h.elim h1 fun ⟨c, hc, hk⟩ => h2 c hc hk
  refine ⟨?_, ?_, ?_, ?_, ?_, ?_⟩ <;> exact key _ (by decide) (by decide)

/-- After a look of the trim loop it knows whether it has a source. -/
theorem State.trimWatch_trimOk (s : State) : s.trimWatch.clk.trimOk = s.trimUsable := by
  unfold State.trimWatch
  split
  · simp [*]
  · split
    · simp [*]
    · simp [*]

/-! ## Settling settles -/

theorem State.irq_lastMasked (s : State) : s.irq.link.lastMasked = s.hostMasked := by
  obtain ⟨_, _, _, _, _, _, _, _, _, _, h, _⟩ := s.irq_eq
  rw [h]

theorem State.irq_lastPol (s : State) : s.irq.rel.lastPol = s.polMasked := by
  obtain ⟨_, _, _, _, _, _, _, _, _, _, h, _⟩ := s.irq_eq
  rw [h]

theorem State.irq_clk (s : State) : s.irq.clk = s.clk := by
  obtain ⟨_, _, _, _, _, _, _, _, _, _, h, _⟩ := s.irq_eq
  rw [h]

/-- What follows every command leaves a settled state. -/
theorem State.settle_settled (s : State) : s.settle.Settled := by
  refine ⟨?_, ?_, ?_⟩
  · exact s.trimWatch.irq_lastMasked.trans s.trimWatch.irq_sameFlags.hostMasked.symm
  · exact s.trimWatch.irq_lastPol.trans s.trimWatch.irq_sameFlags.polMasked.symm
  · calc s.settle.clk.trimOk = s.trimWatch.clk.trimOk := by rw [State.settle, State.irq_clk]
      _ = s.trimUsable := s.trimWatch_trimOk
      _ = s.settle.trimUsable := (s.trimWatch.irq_sameTrim.trimUsable.trans s.trimWatch_sameTrim.trimUsable).symm

/-! ## Every command ends in a settled state -/

/-- The outcome is a next state that has been settled. -/
def Settles (o : Host.Outcome State Fault Refusal) : Prop := ∃ u : State, o = .next u.settle

theorem settles_done (u : State) : Settles u.done := ⟨u, rfl⟩

theorem settles_ite {p : Prop} [Decidable p] {x y : Host.Outcome State Fault Refusal} (hx : Settles x) (hy : Settles y) :
    Settles (if p then x else y) := by
  split <;> assumption

/-- Every branch of every command settles the state that it leaves: 73 commands have one branch, 135 a guard before the one that acts,
and the others choose among more. -/
theorem exec_settles (c : Instr) (s : State) : Settles (exec c s) := by
  cases c
  case bufferSpill | deliveryMark | pcDeclaredFailed | kvInstallSaBlob | kvInstallDerived | kvDeleteSa | kvInstallRoot | kvDeleteRoot |
      kvInstallKek | kvTreeUnicastKey | kvGenBroadcastKey | kvExportBroadcastKey | kvZeroise | entropyHealthFail |
      entropySourceRecovered | fwdInsert | fwdUpdate | fwdDelete | fwdRead | fwdLock | fwdUnlock | fwdSweepPeriod | prismPassEnd |
      ppsOutPulseEnd | tuSlewEnd | freqRampEnd | portAdminWrite | benchEnable | benchClear | benchInject | sfcLoadCmd | treeDarkRequest
      | optTransaction | protTakeCmd | switchoverLaserEnd | protReleaseCmd | protCfgWrite | linkSofLock | initBlock | ackBlock |
      creditBlock | messageReceived | wakeAddressWrite | wpGetStatus | wpClearAlert | silLoad | silUnstructure | silBurnSvn | silRevoke
      | stageWrite | clockStepTimeout | clkSrcWrite | islandWatchdog | islandUngate | feedRestore | supplyNegTimeout | standbyRequest |
      resetNAssert | ceLeak | tlogClear | tlogWord0Read | wearThreshold | partFailure | relSwapPart | relSwapApprove | polWatchdogExpiry
      | polFatalTrap | polFwLoad | wqTake | wqDone | registerWrite | readClear | pairLoRead =>
    exact settles_done _
  case jnlCopyEnd | jnlCloseEnd | jnlCloseTimeout | pcRebuildTimeout | flowCipherWrite | kvCommandEnd | drbgReseed | fwdLockTimeout |
      fwdWindowWrite | fwdSweepNow | laneTempSample | termTempReport | calRecalibrate | calForget | bcDefWrite | snAcquisitionCycle |
      snResponse | rangingPlaceTimeout | registrationBurst | rangingTimeAck | termApprove | approveTimeout | termDeregister |
      termInserviceRanging | treeReactivate | holdExpiry | quarantineExpiry | ploamReceived | terminalRecordWrite | tddCfgWrite |
      genSwap | genDrainTimeout | kprofWrite | tuAlign | tuStep | tuRearm | tuOffsetWrite | txtsRead | todRequest | ppsOutEdge |
      ppsInEdge | todTxMessage | todRxRead | frerResetTimer | uplinkFrameRx | portRawUp | portRawDown | portUpTimer | portDownTimer |
      benchCheckerLock | benchCheckerLockLoss | portSelect | allocShadowWrite | allocCommit | burstProfileWrite | runAheadWrite |
      mapBuildBegin | mapBuildEnd | mapCutoff | mapSeal | grantPolicyDigest | treeFrameTick | csBufferDry | csFillDeadline |
      brstCfgWrite | treeLightRequest | treePowerGrant | treeLaserEnd | treeStopEnd | treeDrainEnd | dozeIdleExpiry | treeWake |
      keySwitchCmd | optStretchTimeout | protAutoTake | protAssertEnd | protConflict | protUplinkRelease | protOffDelayEnd |
      protHoldInChange | linkLaneLock | linkDeskewEnd | linkTrainTimeout | linkUp | laneSwapPrepareEnd | linkRetrain | sofTick |
      replayTimeout | intResend | linkDownAlert | loadParseEnd | loadVerifyEnd | loadCheckEnd | lossMonitorTrip | requalifyWaitEnd |
      derivedPllLock | resetHoldRetry | fixedIslandRelease | relockTimeout | crossingTimeout | islandResetRequest | resetFenceEnd |
      resetFenceTimeout | resetAssertEnd | resetRestoreEnd | gateAcknowledge | gateRequestTimeout | builtinCheckEnd |
      builtinCheckTimeout | mirrorSwapCmd | mirrorForceCheck | schPortWrite | refillTick | gateListSwap | lensSample | lensSlotCommit |
      feedSample | loadLower | standbyStopEnd | standbyDrainEnd | standbyDrainTimeout | standbySaveEnd | standbyOffEnd | wakeRailsGood |
      wakeRestoreEnd | wakeResumeEnd | bootFeedEnd | bootIsland0End | bootRailsGood | bootLinkEnd | resetNRelease | rd32 | wr32 | rd64 |
      wr64 =>
    exact settles_ite (settles_done _) (settles_done _)
  all_goals
    simp only [exec, execDepartureComplete, execPcRebuildEnd, execCapacityCut, execKvCmdTimeout, execFwdBankCopyEnd,
      execRangeWindowTimeout, execEqualiseTimeout, execFrameStaged, execRecircTokenGrant, execPrismStageWrite, execPrismEntryCommit,
      execTuAbsStepEffect, execTodRxOctet, execSwapHoldTimeout, execTreeResWrite, execAgrFrame, execAgrWindowEnd, execUpstreamBurstDue,
      execBurstWindowClose, execReassemblyTimeout, execTreePowerTimeout, execDozeDiscExpiry, execJournalCommitAck,
      execOptTransactionEnd, execProtConfirmEnd, execLinkSignalDetect, execMarkerColumn, execLaneSwapGo, execLinkDown, execBeaconSof,
      execLoadApplyEnd, execLoadStepTimeout, execStabilityCountEnd, execFreqMonitorWindow, execTrimWindow, execSpllLock,
      execDividerRampStep, execRevertiveSwitch, execIslandTransfer, execParityRetry, execResetStepTimeout, execResetRejoinEnd,
      execIdleTimerExpiry, execMirrorRetireEnd, execMirrorRetireTimeout, execSchStageWrite, execSchEntryCommit, execGateListGo,
      execGateEntryChange, execLaunchTimeDue, execFeedLoss, execRailFault, execSupplyVoutPoll, execWakeStepTimeout, execBootStepTimeout,
      execScrubRead, execSlicePrepareEnd, execSlicePrepareTimeout, execSliceRebindEnd, execPolCoreRestarted, execWqItemAged,
      execSendRingEntry, execDmaWr, execDmaRd, execFill, execExcTx]
    repeat' split
    all_goals exact settles_done _

/-! ## One microsecond -/

/-- The fields that a microsecond of the MGT clock may write. -/
theorem sameFlags_put_remain (s : State) (v : Nat) : SameFlags s (s.put TU_REMAIN.offset_ns v) :=
  .put ⟨rfl, rfl⟩ (by decide) (by decide) (by decide) s v

theorem sameFlags_put_holdover (s : State) (v : Nat) : SameFlags s (s.put CLK_HOLDOVER.seconds v) :=
  .put ⟨rfl, rfl⟩ (by decide) (by decide) (by decide) s v

/-- The slew of one microsecond writes TU_REMAIN and the slew's rest. -/
theorem State.slewAdvance_eq (s : State) : s.slewAdvance = s ∨ (∃ r, s.slewAdvance = { s with tu := { s.tu with slewRem := r } }) ∨
    ∃ v r, s.slewAdvance = { s.put TU_REMAIN.offset_ns v with tu := { s.tu with slewRem := r } } := by
  unfold State.slewAdvance
  split
  · exact .inl rfl
  · dsimp only
    split
    · exact .inr (.inl ⟨_, rfl⟩)
    · exact .inr (.inr ⟨_, _, rfl⟩)

theorem State.freqAdvance_eq (s : State) : ∃ u, s.freqAdvance = { s with tu := u } := by
  unfold State.freqAdvance
  split
  · exact ⟨_, rfl⟩
  · dsimp only
    split <;> exact ⟨_, rfl⟩

/-- Everything that one microsecond of the time keeper can do: at most TU_REMAIN and the time keeper change. -/
theorem State.timeTick_eq (s : State) : ∃ f u, s.timeTick = { s with fld := f, tu := u } ∧
    (f = s.fld ∨ ∃ v, f = (s.put TU_REMAIN.offset_ns v).fld) := by
  unfold State.timeTick
  split
  · obtain ⟨u, hu⟩ := s.timeAdvance.slewAdvance.freqAdvance_eq
    rw [hu]
    rcases s.timeAdvance.slewAdvance_eq with h | ⟨r, h⟩ | ⟨v, r, h⟩ <;> rw [h]
    · exact ⟨s.fld, u, rfl, .inl rfl⟩
    · exact ⟨s.fld, u, rfl, .inl rfl⟩
    · exact ⟨_, u, rfl, .inr ⟨v, rfl⟩⟩
  · exact ⟨s.fld, s.tu, rfl, .inl rfl⟩

/-- Everything that one microsecond can do to a holdover. -/
theorem State.holdoverTick_eq (s : State) : ∃ f h, s.holdoverTick = { s with fld := f, clk := { s.clk with holdUs := h } } ∧
    (f = s.fld ∨ ∃ v, f = (s.put CLK_HOLDOVER.seconds v).fld) := by
  unfold State.holdoverTick
  split
  · exact ⟨_, _, rfl, .inr ⟨_, rfl⟩⟩
  · exact ⟨s.fld, s.clk.holdUs, rfl, .inl rfl⟩

/-- The fields after a microsecond: those before, with TU_REMAIN or CLK_HOLDOVER.seconds or both written. -/
theorem State.tick_eq (s : State) : ∃ f u h, s.tick = { s with us := s.us + 1, fld := f, tu := u, clk := { s.clk with holdUs := h } } ∧
    SameFlags s s.tick ∧ ∀ x : Fld, x.key ≠ TU_REMAIN.offset_ns.key → x.key ≠ CLK_HOLDOVER.seconds.key →
      mgetD x.key 0 f = mgetD x.key 0 s.fld := by
  obtain ⟨f, u, ht, hf⟩ := State.timeTick_eq { s with us := s.us + 1 }
  obtain ⟨g, h, hh, hg⟩ := (State.timeTick { s with us := s.us + 1 }).holdoverTick_eq
  have hfld : (State.timeTick { s with us := s.us + 1 }).fld = f := by rw [ht]
  refine ⟨g, u, h, ?_, ?_, fun x hrem hsec => ?_⟩
  · rw [State.tick, hh, ht]
  · have h1 : SameFlags s (State.timeTick { s with us := s.us + 1 }) := by
      rw [ht]
      rcases hf with rfl | ⟨v, rfl⟩
      · exact .of_eq rfl rfl
      · exact (sameFlags_put_remain s v).trans (.of_eq rfl rfl)
    refine h1.trans ?_
    rw [State.tick, hh]
    rcases hg with rfl | ⟨v, rfl⟩
    · exact .of_eq rfl rfl
    · exact (sameFlags_put_holdover _ v).trans (.of_eq rfl rfl)
  · have h1 : mgetD x.key 0 f = mgetD x.key 0 s.fld := by
      rcases hf with rfl | ⟨v, rfl⟩
      · rfl
      · exact mgetD_nset_other hrem _ _
    rcases hg with rfl | ⟨v, rfl⟩
    · rw [hfld, h1]
    · exact (mgetD_nset_other hsec _ _).trans (by rw [hfld, h1])

theorem State.tick_sameTrim (s : State) : SameTrim s s.tick := by
  obtain ⟨f, u, h, e, _, hget⟩ := s.tick_eq
  refine ⟨by rw [e], by rw [e], by rw [e], fun x hx => ?_⟩
  rw [e]
  refine congrArg (· ^^^ x.rst) (hget x ?_ ?_) <;> revert x <;> decide

theorem State.tick_settled {s : State} (h : s.Settled) : s.tick.Settled := by
  obtain ⟨hhost, hpol, htrim⟩ := h
  obtain ⟨f, u, k, e, hflags, _⟩ := s.tick_eq
  refine ⟨?_, ?_, ?_⟩
  · rw [hflags.hostMasked, e]
    exact hhost
  · rw [hflags.polMasked, e]
    exact hpol
  · rw [s.tick_sameTrim.trimUsable, e]
    exact htrim

/-! ## The obligations -/

/-- Settles O1. -/
theorem stepRunsFrontCommand : Obligations.StepRunsFrontCommand := fun _ _ _ h => step_of_pending h

/-- Settles O2: a microsecond changes the count, the time keeper, the holdover and the two fields that show them. -/
theorem emptyQueueStepIsOneMicrosecond : Obligations.EmptyQueueStepIsOneMicrosecond := by
  refine ⟨fun s x rest h hx => step_of_input h hx, fun s h hi => ?_⟩
  obtain ⟨f, u, k, e, _, hget⟩ := s.tick_eq
  exact ⟨f, u, k, by rw [step_of_empty h hi, e], hget⟩

/-- Settles O3: every branch of every command ends with State.done. -/
theorem everyCommandAnswersANextState : Obligations.EveryCommandAnswersANextState := exec_settles

/-- Settles O4: a command and an input are settled as they end, and a microsecond touches nothing that the interrupt logic or the trim loop
looks at. -/
theorem everyStepKeepsTheStateSettled : Obligations.EveryStepKeepsTheStateSettled := by
  intro s t hs hstep
  match hp : s.pending, hi : s.inputs with
  | c :: rest, _ =>
    obtain ⟨u, hu⟩ := exec_settles c { s with pending := rest }
    rw [step_of_pending hp, hu] at hstep
    cases hstep
    exact u.settle_settled
  | [], x :: rest =>
    rw [step_of_input hp hi] at hstep
    cases hstep
    exact State.settle_settled _
  | [], [] =>
    rw [step_of_empty hp hi] at hstep
    cases hstep
    exact State.tick_settled hs

/-- Settles O5. -/
theorem resetStateIsSettled : Obligations.ResetStateIsSettled := by
  unfold Obligations.ResetStateIsSettled State.Settled
  decide

theorem State.reset_isl {n : Nat} (h : 0 < n) : State.reset.isl n = 3 := by
  rw [State.isl, State.reset_get]
  exact if_neg (by omega)

/-- Settles O6: the fields of the reset state are an empty map, in which every field reads its reset value. -/
theorem resetHoldsTheResetValues : Obligations.ResetHoldsTheResetValues := by
  refine ⟨State.reset_get, rfl, rfl, rfl, rfl, by decide, fun n hn => ⟨State.reset_isl hn, ?_⟩, by decide, by decide⟩
  rw [State.isOff, State.reset_isl hn]
  rfl

/-- Settles O7. -/
theorem settlingLeavesTheRestAlone : Obligations.SettlingLeavesTheRestAlone := by
  intro s
  obtain ⟨f, m, w, n, lp, q, u, x, a, p, e, lm, o, g, heq, hget, hmem⟩ := s.settle_eq
  refine ⟨f, m, w, n, lp, q, u, x, a, p, e, lm, o, g, heq, fun y hlock hlost hfull hprod => hget y ?_,
    fun y hy => hmem y fun c e hc he => hy c hc e he⟩
  rintro ((h | ⟨c, hc, h⟩) | h | h)
  exacts [hfull h, hprod c hc h, hlock h, hlost h]

end Sys2Proof.Machine
end

section
/-! PROOFS. Register and table reads: no read depends on a key that the device holds. -/

namespace Sys2Proof.Machine

/-! ## The parts of the state that hold keys -/

/-- A look-up in a map whose values have been changed one by one. -/
theorem mgetD_map {β : Type} {g : β → β} {d : β} (hd : g d = d) (k : Nat) (m : List (Nat × β)) :
    mgetD k d (m.map fun e => (e.1, g e.2)) = g (mgetD k d m) := by
  induction m with
  | nil => exact hd.symm
  | cons e m ih =>
    obtain ⟨j, w⟩ := e
    simp only [mgetD, List.map_cons, mget_cons] at ih ⊢
    split
    · rfl
    · exact ih

variable (s : State)

theorem State.tree_noKeys (t : Nat) : s.noKeys.tree t = (s.tree t).noKeys := mgetD_map rfl t s.trees

theorem State.saSlot_noKeys (k : Nat) : s.noKeys.saSlot k = (s.saSlot k).noKey := mgetD_map rfl k s.kv.slots

theorem SaSlot.wordAt_noKey (x : SaSlot) (w : Nat) : x.noKey.wordAt w = x.wordAt w := rfl

theorem State.slotsIn_noKeys (p : SaState → Bool) : s.noKeys.slotsIn p = s.slotsIn p := by
  simp only [State.slotsIn, State.noKeys, List.filter_map, List.length_map]
  rfl

theorem State.treeCounts_noKeys (t : Nat) : s.noKeys.treeCounts t = s.treeCounts t := by
  unfold State.treeCounts
  rw [State.tree_noKeys]
  rfl

theorem State.est_noKeys : s.noKeys.est = s.est := by
  simp only [State.est, State.treeCounts_noKeys]
  rfl

theorem State.txdis_noKeys (t : Nat) : s.noKeys.txdis t = s.txdis t := by
  unfold State.txdis
  rw [State.tree_noKeys]
  rfl

/-! ## Registers -/

theorem State.viewTe_noKeys (n : RName) (i : Nat) (f : Fld) : s.noKeys.viewTe n i f = s.viewTe n i f := by
  unfold State.viewTe
  rw [State.txdis_noKeys, State.tree_noKeys]
  rfl

theorem State.viewGe_noKeys (n : RName) (i j : Nat) (f : Fld) : s.noKeys.viewGe n i j f = s.viewGe n i j f := rfl

theorem State.viewPr_noKeys (n : RName) (i j : Nat) (f : Fld) : s.noKeys.viewPr n i j f = s.viewPr n i j f := by
  unfold State.viewPr
  rw [State.slotsIn_noKeys, State.slotsIn_noKeys]
  rfl

theorem State.viewSys_noKeys (n : RName) (i : Nat) (f : Fld) : s.noKeys.viewSys n i f = s.viewSys n i f := by
  unfold State.viewSys
  rw [State.est_noKeys]
  rfl

theorem State.view_noKeys (n : RName) (i j : Nat) (f : Fld) : s.noKeys.view n i j f = s.view n i j f := by
  simp only [State.view, State.viewTe_noKeys, State.viewGe_noKeys, State.viewPr_noKeys, State.viewSys_noKeys]

theorem State.regValue_noKeys (h : Hit) : s.noKeys.regValue h = s.regValue h := by
  simp only [State.regValue, State.fieldRead, State.view_noKeys]

theorem State.pairRead_noKeys (r : Nat) (h : Hit) : (s.noKeys.pairRead r h).2 = (s.pairRead r h).2 := by
  simp only [State.pairRead, State.regValue_noKeys]
  split
  · rfl
  · split <;> rfl

/-- Reads of the stamp and ToD FIFOs, of the work queues and of the upstream light reach no key; the others return the register's value. -/
theorem State.readReg_noKeys (r : Nat) (h : Hit) : (s.noKeys.readReg r h).2 = (s.readReg r h).2 := by
  unfold State.readReg
  split
  · unfold State.txtsRead
    split <;> simp_all [State.noKeys, State.txts]
  · unfold State.todRxRead
    split <;> simp_all [State.noKeys]
  · have hold : s.noKeys.wqOldest h.i = s.wqOldest h.i := rfl
    simp only [State.wqTake, hold]
    split <;> rfl
  · rfl
  · split
    · exact s.pairRead_noKeys r h
    · rw [State.regValue_noKeys]
      have hg : s.noKeys.todGroup h.row.name = s.todGroup h.row.name := rfl
      rw [hg]
      split <;> rfl

/-! ## Ungating before a read -/

theorem State.ungate_noKeys (n : Nat) : s.noKeys.ungate n = (s.ungate n).noKeys := by
  have hisl : s.noKeys.isl n = s.isl n := rfl
  unfold State.ungate
  rw [hisl]
  split <;> rfl

theorem State.wakeForRead_noKeys (hs : List Nat) : s.noKeys.wakeForRead hs = (s.wakeForRead hs).noKeys := by
  have hup : s.noKeys.up = s.up := rfl
  unfold State.wakeForRead
  rw [hup]
  split
  · exact s.ungate_noKeys _
  · rfl

/-! ## Table words -/

theorem State.readDegraded_noKeys (a n : Nat) : s.noKeys.readDegraded a n = (s.readDegraded a n).noKeys := by
  have hdeg : s.noKeys.degradedAt a n = s.degradedAt a n := rfl
  unfold State.readDegraded
  rw [hdeg]
  split <;> rfl

/-- A key slot's words show its state and its numbers, not its key; every other word lies outside the keys. -/
theorem State.winData_noKeys (w : Win) (a : Nat) : s.noKeys.winData w a = s.winData w a := by
  cases w with
  | keySlot k n => exact (congrArg (SaSlot.wordAt · n) (s.saSlot_noKeys k)).trans (SaSlot.wordAt_noKey _ n)
  | _ => rfl

/-- What a read of a word finds, once a degraded read has been counted. -/
def State.readCell (s : State) (w : Win) (a : Nat) : State × Nat × Nat :=
  if (w.stored && s.poisoned (w.cell a)) || s.unwrittenRx w then (s.inc REL_POISON_RD_CNT.count, 4, 0) else (s, 0, s.winData w a)

theorem State.readWin_hbm (la a : Nat) : s.readWin (.hbm la) a = (s.readDegraded la 8).readCell (.hbm la) a := rfl

theorem State.readWin_of_ne_hbm {w : Win} (h : ∀ la, w ≠ .hbm la) (a : Nat) : s.readWin w a = s.readCell w a := by
  cases w with
  | hbm la => exact absurd rfl (h la)
  | _ => rfl

theorem State.readCell_noKeys (w : Win) (a : Nat) : (s.noKeys.readCell w a).2 = (s.readCell w a).2 := by
  have hp : s.noKeys.poisoned (w.cell a) = s.poisoned (w.cell a) := rfl
  have hrx : s.noKeys.unwrittenRx w = s.unwrittenRx w := rfl
  simp only [State.readCell, hp, hrx, State.winData_noKeys]
  split <;> rfl

theorem State.readWin_noKeys (w : Win) (a : Nat) : (s.noKeys.readWin w a).2 = (s.readWin w a).2 := by
  by_cases h : ∃ la, w = .hbm la
  · obtain ⟨la, rfl⟩ := h
    rw [State.readWin_hbm, State.readWin_hbm, State.readDegraded_noKeys]
    exact State.readCell_noKeys _ _ a
  · have hne : ∀ la, w ≠ .hbm la := fun la hw => h ⟨la, hw⟩
    rw [State.readWin_of_ne_hbm _ hne, State.readWin_of_ne_hbm _ hne]
    exact s.readCell_noKeys w a

/-! ## Whole accesses -/

theorem State.read32_noKeys (r a : Nat) : (s.noKeys.read32 r a).2 = (s.read32 r a).2 := by
  unfold State.read32
  split
  · rfl
  · split
    · rfl
    · split
      · unfold State.tlogRead
        split <;> rfl
      · split
        · rfl
        · have hans : ∀ hs, s.noKeys.answers hs = s.answers hs := fun _ => rfl
          simp only [hans, State.wakeForRead_noKeys, State.readReg_noKeys]
          split <;> rfl

theorem State.read64_noKeys (r a : Nat) : (s.noKeys.read64 r a).2 = (s.read64 r a).2 := by
  unfold State.read64
  split
  · rfl
  · split
    · rfl
    · have hans : ∀ hs, s.noKeys.answers hs = s.answers hs := fun _ => rfl
      simp only [hans, State.wakeForRead_noKeys]
      split
      · rfl
      · exact State.readWin_noKeys _ _ a

/-! ## The obligation -/

/-- Settles O13: only the key slots' words and the fields that count slots or look at a tree's record lie near a key, and none shows it. -/
theorem noReadReturnsKeyMaterial : Obligations.NoReadReturnsKeyMaterial := fun s r a =>
  ⟨s.read32_noKeys r.val a.toNat, s.read64_noKeys r.val a.toNat⟩

end Sys2Proof.Machine
end

section
/-! PROOFS. Register access: what an access answers, field by field access types, and the halves of a pair (R9, R38, R439, R521, R522). -/

namespace Sys2Proof.Machine

variable {s : State}

/-! ## The branches of an access -/

theorem State.read32_of_not_ok {a : Nat} (h : ok32 a = false) (s : State) (r : Nat) : s.read32 r a = (s, 3, 0) := by
  simp [State.read32, h]

theorem State.write32_of_not_ok {a : Nat} (h : ok32 a = false) (s : State) (r d : Nat) : s.write32 r a d = (s, 3) := by
  simp [State.write32, h]

theorem State.read64_of_not_ok {a : Nat} (h : ok64 a = false) (s : State) (r : Nat) : s.read64 r a = (s, 3, 0) := by
  simp [State.read64, h]

theorem State.write64_of_not_ok {a : Nat} (h : ok64 a = false) (s : State) (r : Requester) (d : Word64) : s.write64 r a d = (s, 3) := by
  simp [State.write64, h]

/-- The address is that of a register word, outside the staging window and the Trouble Log. -/
structure PlainAddr (a : Nat) : Prop where
  ok : ok32 a = true
  staging : inStaging a = false
  tlog : tlogAt a = none

section
variable {a : Nat} (ha : PlainAddr a)
include ha

theorem State.read32_of_unmapped (h : findReg a = none) (s : State) (r : Nat) : s.read32 r a = (s.unmapped r a, 2, 0) := by
  simp [State.read32, ha.ok, ha.staging, ha.tlog, h]

theorem State.write32_of_unmapped (h : findReg a = none) (s : State) (r d : Nat) : s.write32 r a d = (s.unmapped r a, 2) := by
  simp [State.write32, ha.ok, ha.staging, ha.tlog, h]

theorem State.read32_of_absent {h : Hit} (hreg : findReg a = some h) (habs : s.answers h.holders = false) (r : Nat) :
    s.read32 r a = (s, 1, 0) := by
  simp [State.read32, ha.ok, ha.staging, ha.tlog, hreg, habs]

theorem State.write32_of_absent {h : Hit} (hreg : findReg a = some h) (habs : s.answers h.holders = false) (r d : Nat) :
    s.write32 r a d = (s, 1) := by
  simp [State.write32, ha.ok, ha.staging, ha.tlog, hreg, habs]

theorem State.read32_of_answers {h : Hit} (hreg : findReg a = some h) (hans : s.answers h.holders = true) (r : Nat) :
    s.read32 r a = (((s.wakeForRead h.holders).readReg r h).1, 0, ((s.wakeForRead h.holders).readReg r h).2 % 2 ^ 32) := by
  simp [State.read32, ha.ok, ha.staging, ha.tlog, hreg, hans]

theorem State.write32_of_answers {h : Hit} (hreg : findReg a = some h) (hans : s.answers h.holders = true) (r d : Nat) :
    s.write32 r a d = ((s.wakeForWrite h.holders).writeReg r h d, 0) := by
  simp [State.write32, ha.ok, ha.staging, ha.tlog, hreg, hans]

end

section
variable {a : Nat} (ha : ok64 a = true)
include ha

theorem State.read64_of_unmapped (h : findWin a = none) (s : State) (r : Nat) : s.read64 r a = (s.unmapped r a, 2, 0) := by
  simp [State.read64, ha, h]

theorem State.write64_of_unmapped (h : findWin a = none) (s : State) (r : Requester) (d : Word64) :
    s.write64 r a d = (s.unmapped r.val a, 2) := by
  simp [State.write64, ha, h]

theorem State.read64_of_absent {w : Win} (hwin : findWin a = some w) (habs : s.answers w.holders = false) (r : Nat) :
    s.read64 r a = (s, 1, 0) := by
  simp [State.read64, ha, hwin, habs]

theorem State.write64_of_absent {w : Win} (hwin : findWin a = some w) (habs : s.writeAnswers w = false) (r : Requester) (d : Word64) :
    s.write64 r a d = (s, 1) := by
  simp [State.write64, ha, hwin, habs]

theorem State.read64_of_answers {w : Win} (hwin : findWin a = some w) (hans : s.answers w.holders = true) (r : Nat) :
    s.read64 r a = (s.wakeForRead w.holders).readWin w a := by
  simp [State.read64, ha, hwin, hans]

theorem State.write64_of_answers {w : Win} (hwin : findWin a = some w) (hans : s.writeAnswers w = true) (r : Requester) (d : Word64) :
    s.write64 r a d = ((s.wakeForWrite w.holders).writeWin r w a d, 0) := by
  simp [State.write64, ha, hwin, hans]

end

/-! ## Which islands answer -/

theorem State.answers_of_nil {hs : List Nat} (h : hs = []) (s : State) : s.answers hs = true := by simp [State.answers, h]

theorem State.answers_of_mem {hs : List Nat} {n : Nat} (hn : n ∈ hs) (h : s.isl n < 2) : s.answers hs = true := by
  simp only [State.answers, Bool.or_eq_true, List.any_eq_true]
  exact .inr ⟨n, hn, State.up_of_lt h⟩

theorem State.answers_of_runs {hs : List Nat} (h : hs = [] ∨ ∃ n ∈ hs, s.isl n < 2) : s.answers hs = true :=
  h.elim (fun h => s.answers_of_nil h) fun ⟨_, hn, h⟩ => State.answers_of_mem hn h

theorem State.answers_of_absent {hs : List Nat} (hne : hs ≠ []) (h : ∀ n ∈ hs, 2 ≤ s.isl n) : s.answers hs = false := by
  simp only [State.answers, Bool.or_eq_false_iff, List.any_eq_false]
  exact ⟨by simpa using hne, fun n hn => by simp [State.up_of_ge (h n hn)]⟩

/-- A Prism window of one slice lets a write through as its slice answers; that of all slices is the fifth. -/
theorem State.writeAnswers_of_slice {w : Win} (h : ∀ f t e n, w = .prism f t e n → f < 4) (s : State) :
    s.writeAnswers w = s.answers w.holders := by
  cases w with
  | prism f t e n =>
    have := h f t e n rfl
    exact if_neg (by omega)
  | _ => rfl

/-! ## The rows of an access -/

theorem exec_registerWrite_eq (r : Requester) (a : BitVec 40) (d : BitVec 32) (s : State) :
    exec (.registerWrite r a d) s = .next (State.answerWrite (s.write32 r.val a.toNat d.toNat) r.val).settle := rfl

theorem exec_readClear_eq (r : Requester) (a : BitVec 40) (s : State) :
    exec (.readClear r a) s = .next (State.answerRead (s.read32 r.val a.toNat) r.val).settle := rfl

theorem exec_pairLoRead_eq (r : Requester) (a : BitVec 40) (s : State) :
    exec (.pairLoRead r a) s = .next (State.answerRead (s.read32 r.val a.toNat) r.val).settle := rfl

section
variable {r : Requester} (hr : r.val ≠ 0) (a : BitVec 40) (s : State)
include hr

theorem exec_rd32_of_core : exec (.rd32 r a) s = .next (State.answerRead (s.read32 r.val a.toNat) r.val).settle := if_neg hr

theorem exec_wr32_of_core (d : BitVec 32) :
    exec (.wr32 r a d) s = .next (State.answerWrite (s.write32 r.val a.toNat d.toNat) r.val).settle := if_neg hr

theorem exec_rd64_of_core : exec (.rd64 r a) s = .next (State.answerRead (s.read64 r.val a.toNat) r.val).settle := if_neg hr

theorem exec_wr64_of_core (d : BitVec 64) :
    exec (.wr64 r a d) s = .next (State.answerWrite (s.write64 r a.toNat d) r.val).settle := if_neg hr

end

/-! ## Unmapped addresses (R521) -/

theorem State.unmapped_get_count (r a : Nat) :
    (s.unmapped r a).get MGT_UNMAPPED_CNT.count = min (s.get MGT_UNMAPPED_CNT.count + 1) (2 ^ 32 - 1) := by
  rw [State.unmapped, State.get_put_other (by decide)]
  exact State.get_incBy_self _ _ _

theorem State.unmapped_get_last (r : Requester) (a : BitVec 40) :
    (s.unmapped r.val a.toNat).get MGT_UNMAPPED_LAST.last = a.toNat + r.val * 2 ^ 40 := by
  have hw : MGT_UNMAPPED_LAST.last.width = 44 := rfl
  rw [State.unmapped, State.get_put_self, hw, Nat.shiftLeft_eq, Nat.mod_eq_of_lt]
  have := a.isLt
  omega

theorem State.unmapped_get_other {x : Fld} (hcnt : x.key ≠ MGT_UNMAPPED_CNT.count.key) (hlast : x.key ≠ MGT_UNMAPPED_LAST.last.key)
    (r a : Nat) : (s.unmapped r a).get x = s.get x := by
  rw [State.unmapped, State.get_put_other hlast]
  exact State.get_put_other hcnt _ _

/-- Settles O8. -/
theorem unmappedAccessIsCountedAndRecorded : Obligations.UnmappedAccessIsCountedAndRecorded := by
  intro r a s hr
  refine ⟨fun hok hstage htlog hreg => ?_, fun hok hwin => ?_, State.unmapped_get_count _ _, State.unmapped_get_last r a,
    fun x hcnt hlast => State.unmapped_get_other hcnt hlast _ _, _, rfl⟩
  · have ha : PlainAddr a.toNat := ⟨hok, hstage, htlog⟩
    exact ⟨by rw [exec_rd32_of_core hr, State.read32_of_unmapped ha hreg]; rfl,
      fun d => by rw [exec_wr32_of_core hr, State.write32_of_unmapped ha hreg]; rfl⟩
  · exact ⟨by rw [exec_rd64_of_core hr, State.read64_of_unmapped hok hwin]; rfl,
      fun d => by rw [exec_wr64_of_core hr, State.write64_of_unmapped hok hwin]; rfl⟩

/-! ## Absent islands and bad addresses (R38, R439) -/

theorem ok32_eq_false {a : Nat} (h : a % 4 ≠ 0 ∨ 0x1000000000 ≤ a) : ok32 a = false := by
  simp only [ok32, Bool.and_eq_false_iff, beq_eq_false_iff_ne, decide_eq_false_iff_not, not_lt]
  exact h

theorem ok64_eq_false {a : Nat} (h : a % 8 ≠ 0 ∨ a < 0x1000000000) : ok64 a = false := by
  simp only [ok64, Bool.and_eq_false_iff, beq_eq_false_iff_ne, decide_eq_false_iff_not, not_le]
  exact h

/-- Settles O9: the address and then the holders are looked at before anything is read or written. -/
theorem answersWithNoEffect : Obligations.AnswersWithNoEffect := by
  refine ⟨fun r a s hr => ⟨fun h hok hstage htlog hreg hne habs => ?_, fun w hok hwin hne habs => ?_⟩, fun r a s hr => ⟨fun h => ?_, fun h => ?_⟩⟩
  · have ha : PlainAddr a.toNat := ⟨hok, hstage, htlog⟩
    have hread := State.read32_of_absent ha hreg (State.answers_of_absent hne habs) r.val
    have hwrite := State.write32_of_absent ha hreg (State.answers_of_absent hne habs) r.val
    refine ⟨?_, ?_, ?_, fun d => ?_, fun d => ?_⟩
    · rw [exec_rd32_of_core hr, hread]; rfl
    · rw [exec_readClear_eq, hread]; rfl
    · rw [exec_pairLoRead_eq, hread]; rfl
    · rw [exec_wr32_of_core hr, hwrite]; rfl
    · rw [exec_registerWrite_eq, hwrite]; rfl
  · have hans := State.answers_of_absent hne habs
    refine ⟨?_, fun d hslice => ?_⟩
    · rw [exec_rd64_of_core hr, State.read64_of_absent hok hwin hans]; rfl
    · rw [exec_wr64_of_core hr, State.write64_of_absent hok hwin ((s.writeAnswers_of_slice hslice).trans hans)]; rfl
  · have hok := ok32_eq_false h
    exact ⟨by rw [exec_rd32_of_core hr, State.read32_of_not_ok hok]; rfl,
      fun d => by rw [exec_wr32_of_core hr, State.write32_of_not_ok hok]; rfl⟩
  · have hok := ok64_eq_false h
    exact ⟨by rw [exec_rd64_of_core hr, State.read64_of_not_ok hok]; rfl,
      fun d => by rw [exec_wr64_of_core hr, State.write64_of_not_ok hok]; rfl⟩

/-! ## Accesses that reach their register or word -/

/-- A read of a cell answers OK with its data, or the status of poison with 0 (R438). -/
theorem State.readCell_status (s : State) (w : Win) (a : Nat) : (s.readCell w a).2.1 = 0 ∨ (s.readCell w a).2 = (4, 0) := by
  unfold State.readCell
  split
  · exact .inr rfl
  · exact .inl rfl

theorem State.readWin_status (s : State) (w : Win) (a : Nat) : (s.readWin w a).2.1 = 0 ∨ (s.readWin w a).2 = (4, 0) := by
  cases w with
  | hbm la => exact State.readCell_status _ _ a
  | _ => exact State.readCell_status s _ a

/-- Settles O10. -/
theorem accessReachesItsRegisterOrWord : Obligations.AccessReachesItsRegisterOrWord := by
  refine ⟨fun r a h s hok hstage htlog hreg hruns => ?_, fun r a w s hr hok hwin hruns => ?_⟩
  · have ha : PlainAddr a.toNat := ⟨hok, hstage, htlog⟩
    have hread := State.read32_of_answers ha hreg (State.answers_of_runs hruns) r.val
    have hwrite := State.write32_of_answers ha hreg (State.answers_of_runs hruns) r.val
    refine ⟨⟨?_, ?_, fun hr => ?_⟩, fun d => ⟨?_, fun hr => ?_⟩⟩
    · rw [exec_readClear_eq, hread]; rfl
    · rw [exec_pairLoRead_eq, hread]; rfl
    · rw [exec_rd32_of_core hr, hread]; rfl
    · rw [exec_registerWrite_eq, hwrite]; rfl
    · rw [exec_wr32_of_core hr, hwrite]; rfl
  · refine ⟨⟨?_, State.readWin_status _ w _⟩, fun d hans => ?_⟩
    · rw [exec_rd64_of_core hr, State.read64_of_answers hok hwin (State.answers_of_runs hruns)]; rfl
    · rw [exec_wr64_of_core hr, State.write64_of_answers hok hwin hans]; rfl

/-! ## Access types, field by field (R9) -/

theorem State.putRw_get_other {x : Fld} (d : Nat) {fs : List (Fld × Acc)} (h : ∀ e ∈ fs, e.2 = .rw → x.key ≠ e.1.key) (s : State) :
    (s.putRw d fs).get x = s.get x := by
  induction fs generalizing s with
  | nil => rfl
  | cons e fs ih =>
    obtain ⟨f, a⟩ := e
    rw [State.putRw, ih fun e he => h e (List.mem_cons_of_mem _ he)]
    split
    · rename_i hrw
      exact State.get_put_other (h (f, a) List.mem_cons_self hrw) _ _
    · rfl

/-- A member of a list of fields with different keys has its key from no later field. -/
theorem key_ne_of_nodup {fs : List (Fld × Acc)} {e e' : Fld × Acc} (h : ((e :: fs).map fun e => e.1.key).Nodup) (he : e' ∈ fs) :
    e.1.key ≠ e'.1.key := by
  rw [List.map_cons, List.nodup_cons] at h
  intro hk
  exact h.1 (hk ▸ List.mem_map_of_mem he)

theorem State.putRw_get_self (d : Nat) {fs : List (Fld × Acc)} (hn : (fs.map fun e => e.1.key).Nodup) {e : Fld × Acc} (he : e ∈ fs)
    (hrw : e.2 = .rw) (s : State) : (s.putRw d fs).get e.1 = bitsOf d e.1.lo e.1.width := by
  induction fs generalizing s with
  | nil => cases he
  | cons g fs ih =>
    have hn' : (fs.map fun e => e.1.key).Nodup := (List.nodup_cons.mp hn).2
    rcases List.mem_cons.mp he with rfl | he
    · rw [State.putRw, if_pos hrw, State.putRw_get_other d fun e' he' _ => key_ne_of_nodup hn he', State.get_put_of]
      rfl
    · exact ih hn' he _

theorem State.clearW1c_get_other {x : Fld} (d : Nat) {fs : List (Fld × Acc)} (h : ∀ e ∈ fs, e.2 = .w1c ∨ e.2 = .w1cs → x.key ≠ e.1.key)
    (s : State) : (s.clearW1c d fs).get x = s.get x := by
  induction fs generalizing s with
  | nil => rfl
  | cons e fs ih =>
    obtain ⟨f, a⟩ := e
    rw [State.clearW1c, ih fun e he => h e (List.mem_cons_of_mem _ he)]
    split
    · rename_i hw
      exact State.get_put_other (h (f, a) List.mem_cons_self hw) _ _
    · rfl

theorem State.clearW1c_get_self (d : Nat) {fs : List (Fld × Acc)} (hn : (fs.map fun e => e.1.key).Nodup) {e : Fld × Acc} (he : e ∈ fs)
    (hw : e.2 = .w1c ∨ e.2 = .w1cs) (s : State) (hlt : s.get e.1 < 2 ^ e.1.width) :
    (s.clearW1c d fs).get e.1 = s.get e.1 - (s.get e.1 &&& bitsOf d e.1.lo e.1.width) := by
  induction fs generalizing s with
  | nil => cases he
  | cons g fs ih =>
    have hn' : (fs.map fun e => e.1.key).Nodup := (List.nodup_cons.mp hn).2
    rcases List.mem_cons.mp he with rfl | he
    · rw [State.clearW1c, if_pos hw, State.clearW1c_get_other d fun e' he' _ => key_ne_of_nodup hn he', State.get_put_self]
      exact Nat.mod_eq_of_lt (Nat.lt_of_le_of_lt (Nat.sub_le _ _) hlt)
    · have hsame : (if g.2 = .w1c ∨ g.2 = .w1cs then s.put g.1 (s.get g.1 - (s.get g.1 &&& g.1.of d)) else s).get e.1 = s.get e.1 := by
        split
        · exact State.get_put_other (key_ne_of_nodup hn he).symm _ _
        · rfl
      rw [State.clearW1c, ih hn' he _ (by rwa [hsame]), hsame]

theorem State.putRw_eq_fld (s : State) (d : Nat) (fs : List (Fld × Acc)) : ∃ f, s.putRw d fs = { s with fld := f } := by
  induction fs generalizing s with
  | nil => exact ⟨_, rfl⟩
  | cons e fs ih =>
    rw [State.putRw]
    obtain ⟨f, hf⟩ := ih (if e.2 = .rw then s.put e.1 (e.1.of d) else s)
    refine ⟨f, hf.trans ?_⟩
    split <;> rfl

theorem State.clearW1c_eq_fld (s : State) (d : Nat) (fs : List (Fld × Acc)) : ∃ f, s.clearW1c d fs = { s with fld := f } := by
  induction fs generalizing s with
  | nil => exact ⟨_, rfl⟩
  | cons e fs ih =>
    rw [State.clearW1c]
    obtain ⟨f, hf⟩ := ih (if e.2 = .w1c ∨ e.2 = .w1cs then s.put e.1 (s.get e.1 - (s.get e.1 &&& e.1.of d)) else s)
    refine ⟨f, hf.trans ?_⟩
    split <;> rfl

theorem State.plainWrite_eq_fld (s : State) (h : Hit) (d : Nat) : ∃ f, s.plainWrite h d = { s with fld := f } := by
  obtain ⟨f, hf⟩ := s.putRw_eq_fld d (h.row.fields h.i h.j)
  obtain ⟨g, hg⟩ := (s.putRw d (h.row.fields h.i h.j)).clearW1c_eq_fld d (h.row.fields h.i h.j)
  exact ⟨g, by rw [State.plainWrite, hg, hf]⟩

/-- The fields that a read clears, put to 0 one after another. -/
def clearRc (s : State) (fs : List (Fld × Acc)) : State := fs.foldl (fun s e => if e.2 = .rc then s.put e.1 0 else s) s

theorem State.readClears_eq (s : State) (h : Hit) : s.readClears h = clearRc s (h.row.fields h.i h.j) := rfl

theorem clearRc_get_other {x : Fld} {fs : List (Fld × Acc)} (h : ∀ e ∈ fs, e.2 = .rc → x.key ≠ e.1.key) (s : State) :
    (clearRc s fs).get x = s.get x := by
  induction fs generalizing s with
  | nil => rfl
  | cons e fs ih =>
    rw [clearRc, List.foldl_cons]
    refine (ih (fun e he => h e (List.mem_cons_of_mem _ he)) _).trans ?_
    split
    · rename_i hrc
      exact State.get_put_other (h e List.mem_cons_self hrc) _ _
    · rfl

theorem clearRc_get_self {fs : List (Fld × Acc)} (hn : (fs.map fun e => e.1.key).Nodup) {e : Fld × Acc} (he : e ∈ fs) (hrc : e.2 = .rc)
    (s : State) : (clearRc s fs).get e.1 = 0 := by
  induction fs generalizing s with
  | nil => cases he
  | cons g fs ih =>
    rw [clearRc, List.foldl_cons]
    rcases List.mem_cons.mp he with rfl | he
    · refine (clearRc_get_other (fun e' he' _ => key_ne_of_nodup hn he') _).trans ?_
      rw [if_pos hrc, State.get_put_self, Nat.zero_mod]
    · exact ih (List.nodup_cons.mp hn).2 he _

theorem clearRc_eq_fld (s : State) (fs : List (Fld × Acc)) : ∃ f, clearRc s fs = { s with fld := f } := by
  induction fs generalizing s with
  | nil => exact ⟨_, rfl⟩
  | cons e fs ih =>
    obtain ⟨f, hf⟩ := ih (if e.2 = .rc then s.put e.1 0 else s)
    refine ⟨f, hf.trans ?_⟩
    split <;> rfl

/-- Settles O11: a register's fields have different keys, so that each is written at most once, by the rule of its own access type. -/
theorem registerAccessTypes : Obligations.RegisterAccessTypes := by
  refine ⟨fun h d s hn hlt => ⟨fun e he hrw => ?_, fun e he hw => ?_, fun e he hrw hw hws => ?_, fun x hx => ?_, s.plainWrite_eq_fld h d⟩,
    fun h s hn => ⟨fun e he hrc => clearRc_get_self hn he hrc s, fun x hx => clearRc_get_other hx s, clearRc_eq_fld s _⟩⟩
  all_goals rw [State.plainWrite]
  · rw [State.clearW1c_get_other d, State.putRw_get_self d hn he hrw]
    rintro e' he' hw hk
    rw [List.inj_on_of_nodup_map hn he he' hk] at hrw
    simp [hrw] at hw
  · have hsame : (s.putRw d (h.row.fields h.i h.j)).get e.1 = s.get e.1 := by
      refine State.putRw_get_other d (fun e' he' hrw hk => ?_) s
      rw [List.inj_on_of_nodup_map hn he he' hk, hrw] at hw
      simp at hw
    rw [State.clearW1c_get_self d hn he hw _ (by rw [hsame]; exact hlt e he), hsame]
  · rw [State.clearW1c_get_other d, State.putRw_get_other d]
    · intro e' he' hrw' hk
      exact hrw ((congrArg Prod.snd (List.inj_on_of_nodup_map hn he he' hk)).trans hrw')
    · intro e' he' hw' hk
      have h2 := congrArg Prod.snd (List.inj_on_of_nodup_map hn he he' hk)
      exact hw'.elim (fun h' => hw (h2.trans h')) fun h' => hws (h2.trans h')
  · rw [State.clearW1c_get_other d, State.putRw_get_other d]
    all_goals exact fun e he _ hk => hx (hk ▸ List.mem_map_of_mem he)

/-! ## Pairs (R522) -/

theorem latchKey_ne {q r : Requester} {a b : Nat} (h : q ≠ r ∨ a ≠ b) : latchKey q.val a ≠ latchKey r.val b := by
  have hq := q.isLt
  have hr := r.isLt
  intro hk
  unfold latchKey at hk
  rcases h with h | h
  · exact h (Fin.ext (by omega))
  · exact h (by omega)

theorem State.pairRead_lo {h : Hit} (hlo : h.hi = false) (htod : h.row.name.isTodS = false) (s : State) (r : Nat) :
    s.pairRead r h = ({ s with latch := mset (latchKey r h.addr) (s.regValue h / 2 ^ 32 % 2 ^ 32) s.latch }, s.regValue h % 2 ^ 32) := by
  simp [State.pairRead, hlo, htod]

theorem State.pairRead_hi {h : Hit} (hhi : h.hi = true) (htod : h.row.name.isTodS = false) (s : State) (r : Nat) :
    s.pairRead r h = (s, (mget (latchKey r h.addr) s.latch).getD (s.regValue h / 2 ^ 32 % 2 ^ 32)) := by
  simp [State.pairRead, hhi, htod]

/-- Settles O12: LO sets the latch of its requester and pair, and HI looks it up under the same key. -/
theorem pairReadsFormOneValue : Obligations.PairReadsFormOneValue := by
  rintro r lo hi s rfl hlo htod
  have hHi : ∀ t : State, t.pairRead r.val { lo with hi := true } =
      (t, (mget (latchKey r.val lo.addr) t.latch).getD (t.regValue lo / 2 ^ 32 % 2 ^ 32)) := fun t =>
    State.pairRead_hi (h := { lo with hi := true }) rfl htod t r.val
  rw [State.pairRead_lo hlo htod]
  refine ⟨rfl, fun t ht => ?_, fun hnone => ?_, fun q a hne => mget_mset_other (latchKey_ne hne) _ _, by rw [hHi], _, rfl⟩
  · rw [hHi, ht, mget_mset_self]
    rfl
  · rw [hHi, hnone]
    rfl

/-! ## Memory words (R7, R497) -/

/-- A word of a lost segment stays poison whatever is written to it (R296). -/
theorem State.poisoned_of_inLost {a : Nat} (h : s.inLost a = true) : s.poisoned a = true := by
  simp [State.poisoned, h]

theorem State.putWord_shm (s : State) (a v : Nat) : (s.putWord a v).shm = s.shm := by
  unfold State.putWord
  dsimp only
  split <;> rfl

/-- The first data segment of the first set of packet memory is lost. -/
def firstSegmentLost : State := { shm := { lostSegs := [(0, 0)] } }

/-- Refutes O14: a word of a lost segment reads as poison after a write too, since only the marks of State.poison are cleared. -/
theorem not_aWrittenWordReadsBack : ¬ Obligations.AWrittenWordReadsBack := by
  intro h
  obtain ⟨_, hpoison, _⟩ := h firstSegmentLost 0x8000000000 0 rfl
  have hlost : (firstSegmentLost.putWord 0x8000000000 0).inLost 0x8000000000 = true := by
    rw [State.inLost, State.putWord_shm]
    decide
  rw [State.poisoned_of_inLost hlost] at hpoison
  cases hpoison

end Sys2Proof.Machine
end

section
/-! PROOFS. Requests of the host over the link: register and table requests, DMA, fills and exception frames (R434, R438 to R442). -/

namespace Sys2Proof.Machine

variable {s : State}

/-! ## Register and table requests -/

/-- A request at the front of its pool that its ord lets pass, with credits for its response, is taken by the command that matches it. -/
theorem State.takeReq_of_head {pool cost : Nat} {p : LReq → Bool} {q : LReq} (hq : s.headReq pool = some q) (hp : p q = true)
    (hord : s.ordOk q = true) (hcred : s.holdsCredits pool cost = true) :
    s.takeReq pool cost p = some (s.popReq q, tagOf (q.body.getD 0 0)) := by
  simp [State.takeReq, hq, hp, hord, hcred]

section
variable {q : LReq} (hq : s.headReq 0 = some q) (hord : s.ordOk q = true) (hcred : s.holdsCredits 0 1 = true)
include hq hord hcred

theorem State.hostRead_of_head {op a : Nat} (hop : q.isOp op a = true) (rd : State → State × Nat × Nat) :
    s.hostRead op a rd = (let x := rd (s.popReq q)
      x.1.finishReq 0 (tagOf (q.body.getD 0 0)) x.2.1 [BitVec.ofNat 64 x.2.2]) := by
  simp only [State.hostRead, State.takeReq_of_head (p := fun q => q.isOp op a) hq hop hord hcred]

theorem State.hostWrite_of_head {op a : Nat} {d : Word64} (hop : q.isOp op a = true) (hd : q.body.getD 1 0 = d) (wr : State → State × Nat) :
    s.hostWrite op a d wr = (let x := wr (s.popReq q)
      x.1.finishReq 0 (tagOf (q.body.getD 0 0)) x.2 []) := by
  have hp : (q.isOp op a && q.body.getD 1 0 == d) = true := by simp [hop, ← hd]
  simp only [State.hostWrite, State.takeReq_of_head (p := fun q => q.isOp op a && q.body.getD 1 0 == d) hq hp hord hcred]

end

theorem exec_rd32_of_host (a : BitVec 40) (s : State) :
    exec (.rd32 0 a) s = .next (s.hostRead 1 a.toNat fun s => s.read32 0 a.toNat).settle := rfl

theorem exec_rd64_of_host (a : BitVec 40) (s : State) :
    exec (.rd64 0 a) s = .next (s.hostRead 3 a.toNat fun s => s.read64 0 a.toNat).settle := rfl

theorem exec_wr32_of_host (a : BitVec 40) (d : BitVec 32) (s : State) :
    exec (.wr32 0 a d) s = .next (s.hostWrite 2 a.toNat (d.setWidth 64) fun s => s.write32 0 a.toNat d.toNat).settle := rfl

theorem exec_wr64_of_host (a : BitVec 40) (d : BitVec 64) (s : State) :
    exec (.wr64 0 a d) s = .next (s.hostWrite 4 a.toNat d fun s => s.write64 0 a.toNat d).settle := rfl

/-- Settles O15. -/
theorem hostRegisterRequestIsExecuted : Obligations.HostRegisterRequestIsExecuted := by
  intro q a s hq hord hcred
  refine ⟨fun hop => ?_, fun hop => ?_, fun d hop hd => ?_, fun d hop hd => ?_⟩
  · rw [exec_rd32_of_host, State.hostRead_of_head hq hord hcred hop]
  · rw [exec_rd64_of_host, State.hostRead_of_head hq hord hcred hop]
  · rw [exec_wr32_of_host, State.hostWrite_of_head hq hord hcred hop hd]
  · rw [exec_wr64_of_host, State.hostWrite_of_head hq hord hcred hop hd]

/-! ## DMA and fills (R440) -/

section
variable {a : BitVec 40} {rev : Bool} {words : List (BitVec 64)} {s1 : State} {tag : Nat}
  (htake : s.takeReq 1 1 (fun q => q.isDmaWr a.toNat rev words) = some (s1, tag))
include htake

theorem exec_dmaWr_of_ok (hok : dmaOk a.toNat (s.dmaWrLen words) 8192 = true) :
    exec (.dmaWr a rev words) s = .next ((let x := s1.dmaWrite a.toNat rev words (s1.link.caught.getD words.length)
      x.1.finishDma tag x.2 []).settle) := by
  simp only [exec, execDmaWr, htake, hok, if_true, State.done_eq]

theorem exec_dmaWr_of_not_ok (hok : dmaOk a.toNat (s.dmaWrLen words) 8192 = false) :
    exec (.dmaWr a rev words) s = .next (s1.finishDma tag 3 []).settle := by
  simp [exec, execDmaWr, htake, hok, State.done_eq]

end

theorem dmaOk_iff {a n most : Nat} : dmaOk a n most = true ↔ a % 8 = 0 ∧ n % 8 = 0 ∧ 8 ≤ n ∧ n ≤ most ∧ inOneRegion a n = true := by
  simp [dmaOk, and_assoc]

theorem exec_dmaRd_of_ok {a : BitVec 40} {n : BitVec 32} {s1 : State} {tag : Nat} (hok : dmaOk a.toNat n.toNat 8192 = true)
    (hcaught : s1.link.caught = none)
    (htake : s.takeReq 1 (ceilDiv (1 + n.toNat / 8) 8) (fun q => q.isDmaRd a.toNat n.toNat) = some (s1, tag)) :
    exec (.dmaRd a n) s = .next ((let x := s1.dmaGets a.toNat (n.toNat / 8)
      x.1.finishDma tag x.2.1 (if x.2.1 = 0 then x.2.2 else List.replicate (n.toNat / 8) 0)).settle) := by
  obtain ⟨_, hmod, _, hle, _⟩ := dmaOk_iff.mp hok
  simp only [exec, execDmaRd, hmod, hle, and_self, if_true, htake, hok, hcaught, Option.getD_none, min_self, State.done_eq]

section
variable {a n : BitVec 40} {v : BitVec 64} {s1 : State} {tag : Nat}
  (htake : s.takeReq 1 1 (fun q => q.isFill a.toNat n.toNat v) = some (s1, tag))
include htake

theorem exec_fill_of_ok (hcaught : s1.link.caught = none) (hok : dmaOk a.toNat n.toNat (2 ^ 36) = true) :
    exec (.fill a n v) s = .next ((let x := s1.fillWords a.toNat v (n.toNat / 8); x.1.finishDma tag x.2 []).settle) := by
  simp only [exec, execFill, htake, hok, hcaught, Option.getD_none, min_self, if_true, State.done_eq]

theorem exec_fill_of_not_ok (hok : dmaOk a.toNat n.toNat (2 ^ 36) = false) :
    exec (.fill a n v) s = .next (s1.finishDma tag 3 []).settle := by
  simp only [exec, execFill, htake, hok, Bool.false_eq_true, if_false, State.done_eq]

end

theorem State.finishDma_of_not_caught (h : s.link.caught = none) (tag st : Nat) (data : List Word64) :
    s.finishDma tag st data = s.finishReq 1 tag st data := by
  simp [State.finishDma, h]

theorem State.finishDma_of_caught {n : Nat} (h : s.link.caught = some n) (tag st : Nat) (data : List Word64) :
    s.finishDma tag st data = { s with link := { s.link with caught := none } } := by
  simp [State.finishDma, h]

/-- Words are written until one fails, so that a write of two runs is the second after the first. -/
theorem State.dmaPuts_append (l r : List (Nat × Word64)) (s : State) :
    s.dmaPuts (l ++ r) = if (s.dmaPuts l).2 = 0 then (s.dmaPuts l).1.dmaPuts r else s.dmaPuts l := by
  induction l generalizing s with
  | nil => rfl
  | cons e l ih =>
    obtain ⟨a, d⟩ := e
    simp only [List.cons_append, State.dmaPuts]
    by_cases h : (s.dmaPut a d).2 = 0
    · simp only [h, if_true]
      exact ih _
    · simp only [h, if_false]

/-! ## Exception frames (R442) -/

theorem State.excTx_of_ok {w : Nat} {octets : List Byte} (h : excWordOk w octets.length = true) (s : State) :
    s.excTx w octets = s.injectExc w octets (.host (bitsOf w 62 2)) (bitsOf w 62 2) := by
  simp [State.excTx, h]

theorem exec_excTx_of_none (h : s.headReq 2 = none) (w : BitVec 64) (octets : List (BitVec 8)) :
    exec (.excTx w octets) s = .next (s.excTx w.toNat octets).settle := by
  simp [exec, execExcTx, h, State.done_eq]

theorem exec_excTx_of_head {q : LReq} (h : s.headReq 2 = some q) {w : BitVec 64} {octets : List (BitVec 8)} (hexc : q.isExc w octets = true)
    (hresv : bitsOf (q.body.getD 0 0).toNat 40 6 = 0) : exec (.excTx w octets) s = .next ((s.popReq q).excTx w.toNat octets).settle := by
  simp only [exec, execExcTx, h, hexc, hresv, if_true, State.done_eq]

/-- Settles O16. -/
theorem dmaFillAndExceptionFrames : Obligations.DmaFillAndExceptionFrames := by
  refine ⟨fun a s => ⟨fun rev words s1 tag htake => ⟨fun hc hok => ?_, fun n hc hok => ?_, exec_dmaWr_of_not_ok htake⟩,
    fun n s1 tag hok hc htake => exec_dmaRd_of_ok hok hc htake,
    fun n v s1 tag htake => ⟨exec_fill_of_ok htake, exec_fill_of_not_ok htake⟩,
    fun w l hok => ⟨fun hnone => ?_, fun q hq hexc hresv => ?_⟩,
    fun t tag st data => ⟨fun h => State.finishDma_of_not_caught h _ _ _, fun n h => State.finishDma_of_caught h _ _ _⟩⟩, fun l r s => ⟨?_, ?_⟩⟩
  · rw [exec_dmaWr_of_ok htake hok, hc, Option.getD_none]
  · rw [exec_dmaWr_of_ok htake hok, hc, Option.getD_some]
  · rw [exec_excTx_of_none hnone, State.excTx_of_ok hok]
  · rw [exec_excTx_of_head hq hexc hresv, State.excTx_of_ok hok]
  · exact fun h => (s.dmaPuts_append l r).trans (if_pos h)
  · exact fun h => (s.dmaPuts_append l r).trans (if_neg h)

end Sys2Proof.Machine
end

section
/-! PROOFS. Islands: the reset sequence, clock gating, crossings and the summary bits that a reset holds (R16, R17, R36 to R46, R495, R524). -/

namespace Sys2Proof.Machine

variable {s : State} {n : Nat}

/-! ## Requests for a reset (R36) -/

theorem State.resetIsland_of_refused (h : n = 0 ∨ s.isl n = 2 ∨ s.isOff n = true) (cause : Nat) : s.resetIsland n cause = s :=
  if_pos (h.imp_right Or.inr)

theorem State.resetIsland_of_runs (h0 : n ≠ 0) (hlt : n < 28) (h2 : s.isl n ≠ 2) (hoff : s.isOff n = false) (cause : Nat) :
    s.resetIsland n cause = State.fence
      (((s.put (MGT_RST_CAUSE.cause n) cause).inc (MGT_RST_CAUSE.count n)).tlog 0x01 .mgt (n + cause * 256)) n false :=
  if_neg (by simp [h0, h2, hoff, hlt])

theorem exec_islandResetRequest_of_ne {b : ResetSource} {n : Isl} (h : ¬(b = .policy ∧ n = 1)) (s : State) :
    exec (.islandResetRequest b n) s = .next (s.resetIsland n.val (resetCause b)).settle :=
  if_neg h

theorem exec_islandResetRequest_policy_one (s : State) : exec (.islandResetRequest .policy 1) s = .next s.settle := rfl

theorem exec_islandWatchdog_eq (n : Isl) (s : State) : exec (.islandWatchdog n) s = .next (s.resetIsland n.val 3).settle := rfl

theorem exec_crossingTimeout_of_run {n : Isl} (h : s.isl n.val = 0) (src : Isl) :
    exec (.crossingTimeout src n) s = .next (s.resetIsland n.val 5).settle :=
  if_pos h

theorem exec_crossingTimeout_of_not_run {n : Isl} (h : s.isl n.val ≠ 0) (src : Isl) :
    exec (.crossingTimeout src n) s = .next s.settle :=
  if_neg h

/-- Settles O17: each request is a resetIsland with its cause, which refuses or begins Fence. -/
theorem islandResetRequestsBeginFence : Obligations.IslandResetRequestsBeginFence := by
  intro n s
  refine ⟨fun h0 h2 hoff => ?_, fun h => ?_, exec_islandResetRequest_policy_one s, exec_crossingTimeout_of_not_run⟩
  · have hbegun := State.resetIsland_of_runs (fun h => h0 (Fin.ext h)) n.isLt h2 hoff
    refine ⟨?_, fun h1 => ?_, ?_, ?_, fun hrun src => ?_⟩
    · rw [exec_islandResetRequest_of_ne (by simp), hbegun]; rfl
    · rw [exec_islandResetRequest_of_ne (by simp [h1]), hbegun]; rfl
    · rw [exec_islandResetRequest_of_ne (by simp), hbegun]; rfl
    · rw [exec_islandWatchdog_eq, hbegun]; rfl
    · rw [exec_crossingTimeout_of_run hrun, hbegun]; rfl
  · have hrefused := State.resetIsland_of_refused (h.imp_left (congrArg Fin.val))
    refine ⟨fun b => ?_, ?_⟩
    · by_cases hpol : b = .policy ∧ n = 1
      · rw [hpol.1, hpol.2, exec_islandResetRequest_policy_one]
      · rw [exec_islandResetRequest_of_ne hpol, hrefused]
    · rw [exec_islandWatchdog_eq, hrefused]

/-! ## The steps of the reset sequence (R36, R37) -/

theorem State.atStep_of {x : RstStep} (h : s.isl n = 2) (hx : (s.islSt n).step = x) : s.atStep n x = true := by
  simp [State.atStep, h, hx]

section
variable {n : Isl}

theorem exec_resetFenceEnd_of_fence (h : s.atStep n.val .fence = true) :
    exec (.resetFenceEnd n) s = .next (s.rstStep n.val .assert).settle :=
  if_pos h

theorem exec_resetFenceTimeout_of_fence (h : s.atStep n.val .fence = true) :
    exec (.resetFenceTimeout n) s = .next (s.rstStep n.val .assert).settle :=
  if_pos h

theorem exec_resetAssertEnd_of_assert (h : s.atStep n.val .assert = true) :
    exec (.resetAssertEnd n) s = .next ((s.assertIsland n.val).rstStep n.val .restore).settle :=
  if_pos h

theorem exec_resetRestoreEnd_of_restore (h : s.atStep n.val .restore = true) (banks : List (Fin 156)) (pcs : List (Fin 128)) :
    exec (.resetRestoreEnd n banks pcs) s = .next
      (let bad := (banks.map (·.val)).filter fun b => (bankIslands b).contains n.val
      ((s.restoreIsland n.val bad (pcs.map (·.val))).rstStep n.val .rejoin).banksFail bad).settle :=
  if_pos h

theorem exec_resetRejoinEnd_of_rejoin (h : s.atStep n.val .rejoin = true) (hcopy : n = 18 ∨ n = 19 → s.inService (n != 19) = false) :
    exec (.resetRejoinEnd n) s = .next ((s.islandBack n.val).rejoinIsland n.val).settle := by
  have hfree : ¬((n = 18 ∨ n = 19) ∧ s.inService (n != 19) = true) := fun ⟨hn, hin⟩ => by simp [hcopy hn] at hin
  simp only [exec, execResetRejoinEnd, h, Bool.not_true, Bool.false_eq_true, if_false, hfree, State.done_eq]

theorem exec_resetStepTimeout_of_last (h : s.atStep n.val .restore = true ∨ s.atStep n.val .rejoin = true) :
    exec (.resetStepTimeout n) s =
      .next (if (s.islSt n.val).retried then s.failIsland n.val else s.fence n.val true).settle := by
  have hlast : (s.atStep n.val .restore || s.atStep n.val .rejoin) = true := by simpa using h
  simp only [exec, execResetStepTimeout, hlast, if_true, State.done_eq]
  split <;> rfl

end

/-- Settles O18. -/
theorem resetSequenceStepsInOrder : Obligations.ResetSequenceStepsInOrder := fun _ _ h2 =>
  ⟨fun hx => ⟨exec_resetFenceEnd_of_fence (State.atStep_of h2 hx), exec_resetFenceTimeout_of_fence (State.atStep_of h2 hx)⟩,
    fun hx => exec_resetAssertEnd_of_assert (State.atStep_of h2 hx),
    fun hx => exec_resetRestoreEnd_of_restore (State.atStep_of h2 hx),
    fun hx hcopy => exec_resetRejoinEnd_of_rejoin (State.atStep_of h2 hx) hcopy,
    fun hx => exec_resetStepTimeout_of_last (hx.imp (State.atStep_of h2) (State.atStep_of h2))⟩

/-! ## Idle and clock gating (R41 to R45) -/

theorem State.ungate_of_idle (h : s.isl n = 1) : s.ungate n = s.put (MGT_ISLAND_STATE.island n) 0 := if_pos h

theorem State.ungate_of_not_idle (h : s.isl n ≠ 1) : s.ungate n = s := if_neg h

section
variable {n : Isl}

theorem exec_islandUngate_eq (n : Isl) (s : State) : exec (.islandUngate n) s = .next (s.ungate n.val).settle := rfl

theorem exec_idleTimerExpiry_of_quiet (hrun : s.isl n.val = 0) (hcap : Config.idleCapable n.val = true)
    (htimer : s.get (MGT_IDLE_TIMER.timer_us n.val) ≠ 0) :
    exec (.idleTimerExpiry n) s = .next
      (if s.get (CLK_ISL_STATUS.ramping n.val) ≠ 0 then s.modIsl n.val fun x => { x with gateWaits := true }
      else s.modIsl n.val fun x => { x with gateReq := true }).settle := by
  have hall : s.isl n.val = 0 ∧ Config.idleCapable n.val = true ∧ s.get (MGT_IDLE_TIMER.timer_us n.val) ≠ 0 := ⟨hrun, hcap, htimer⟩
  simp only [exec, execIdleTimerExpiry, if_pos hall, State.done_eq]
  by_cases hramp : s.get (CLK_ISL_STATUS.ramping n.val) = 0
  · simp only [State.on_of_eq hramp, hramp, ne_eq, not_true_eq_false, Bool.false_eq_true, if_false]
  · simp only [State.on_of_ne hramp, hramp, ne_eq, not_false_eq_true, if_true]

theorem exec_idleTimerExpiry_of_not_quiet
    (h : s.isl n.val ≠ 0 ∨ Config.idleCapable n.val = false ∨ s.get (MGT_IDLE_TIMER.timer_us n.val) = 0) :
    exec (.idleTimerExpiry n) s = .next s.settle := by
  refine if_neg fun ⟨hrun, hcap, htimer⟩ => ?_
  rcases h with h | h | h
  · exact h hrun
  · exact absurd (hcap.symm.trans h) (by decide)
  · exact htimer h

theorem exec_gateAcknowledge_of_quiet (hreq : (s.islSt n.val).gateReq = true) (hrun : s.isl n.val = 0) :
    exec (.gateAcknowledge n false) s = .next
      ((s.put (MGT_ISLAND_STATE.island n.val) 1).modIsl n.val fun x => { x with gateReq := false }).settle :=
  if_pos ⟨hreq, hrun, rfl⟩

theorem exec_gateAcknowledge_of_busy (n : Isl) (s : State) : exec (.gateAcknowledge n true) s = .next s.settle :=
  if_neg (by simp)

theorem exec_gateRequestTimeout_of_req (hreq : (s.islSt n.val).gateReq = true) :
    exec (.gateRequestTimeout n) s = .next
      (((s.modIsl n.val fun x => { x with gateReq := false }).setBit MGT_GATE_REFUSED.refused n.val).inc MGT_GATE_REFUSED_CNT.count).settle :=
  if_pos hreq

end

/-- Settles O19. -/
theorem clockGatingHandshake : Obligations.ClockGatingHandshake := by
  intro n s
  refine ⟨exec_idleTimerExpiry_of_quiet, exec_idleTimerExpiry_of_not_quiet, exec_gateAcknowledge_of_quiet, exec_gateAcknowledge_of_busy n s,
    exec_gateRequestTimeout_of_req, fun h => ?_, fun h => ?_⟩
  · rw [exec_islandUngate_eq, State.ungate_of_idle h]
  · rw [exec_islandUngate_eq, State.ungate_of_not_idle h]

/-! ## Transfers (R16, R495) -/

section
variable {src dst : Isl} (hup : s.up dst.val = true)
include hup

theorem exec_islandTransfer_of_good (l : Load) : exec (.islandTransfer src dst l false) s = .next (s.ungate dst.val).settle := by
  simp [exec, execIslandTransfer, hup, State.done_eq]

theorem exec_islandTransfer_other : exec (.islandTransfer src dst .other true) s =
    .next (((s.ungate dst.val).parityError src.val dst.val).setCross src.val dst.val 1).settle := by
  simp [exec, execIslandTransfer, hup, State.done_eq]

theorem exec_islandTransfer_not_accepted {id : Nat} {f : InFrame}
    (hf : ((s.ungate dst.val).parityError src.val dst.val).frame id = some f) :
    exec (.islandTransfer src dst (.frameNotAccepted id) true) s =
      .next (((s.ungate dst.val).parityError src.val dst.val).refuseFrame f 9).genCheck.settle := by
  simp [exec, execIslandTransfer, hup, hf, State.done_eq]

theorem exec_islandTransfer_accepted (slot : Nat) : exec (.islandTransfer src dst (.frameAccepted slot) true) s =
    .next (((s.ungate dst.val).parityError src.val dst.val).interruptFrame slot).settle := by
  simp [exec, execIslandTransfer, hup, State.done_eq]

variable {k : Nat} (hk : mgetD (crossKey src.val dst.val) 0 s.rel.crossRetry = k)
include hk

theorem exec_parityRetry_of_good (h0 : k ≠ 0) : exec (.parityRetry src dst false) s = .next (s.setCross src.val dst.val 0).settle := by
  simp [exec, execParityRetry, hup, hk, h0, State.done_eq]

theorem exec_parityRetry_second (h1 : k = 1) : exec (.parityRetry src dst true) s =
    .next ((s.parityError src.val dst.val).setCross src.val dst.val 2).settle := by
  simp [exec, execParityRetry, hup, hk, h1, State.done_eq]

theorem exec_parityRetry_third (h2 : k = 2) : exec (.parityRetry src dst true) s =
    .next (((s.parityError src.val dst.val).setCross src.val dst.val 0).resetIsland dst.val 4).settle := by
  simp [exec, execParityRetry, hup, hk, h2, State.done_eq]

end

theorem exec_parityRetry_of_none {src dst : Isl} (h : mgetD (crossKey src.val dst.val) 0 s.rel.crossRetry = 0) (b : Bool) :
    exec (.parityRetry src dst b) s = .next s.settle :=
  if_pos (Or.inl h)

/-- Settles O20: a receiving island in Run or Idle is up, so that a transfer begins by ungating it. -/
theorem transfersAndTheirParity : Obligations.TransfersAndTheirParity := by
  intro src dst s hlt
  have hup := State.up_of_lt hlt
  exact ⟨exec_islandTransfer_of_good hup, exec_islandTransfer_other hup, fun _ _ => exec_islandTransfer_not_accepted hup,
    exec_islandTransfer_accepted hup, exec_parityRetry_of_good hup rfl, exec_parityRetry_second hup rfl, exec_parityRetry_third hup rfl,
    exec_parityRetry_of_none⟩

/-! ## The summary bit of a block in reset (R524) -/

theorem bit1_eq_testBit (v i : Nat) : bit1 v i = v.testBit i := by
  simp only [bit1, Nat.testBit, Nat.one_and_eq_mod_two]
  rcases Nat.mod_two_eq_zero_or_one (v >>> i) with h | h <;> simp [h]

theorem testBit_foldl_or (l : List Nat) (a i : Nat) :
    (l.foldl (fun a b => a ||| 1 <<< b) a).testBit i = (a.testBit i || decide (i ∈ l)) := by
  induction l generalizing a with
  | nil => simp
  | cons b l ih =>
    rw [List.foldl_cons, ih, Nat.testBit_or, Nat.one_shiftLeft, Nat.testBit_two_pow, Bool.or_assoc, ← Bool.decide_or]
    simp [eq_comm]

theorem bit1_bitSum (l : List Nat) (i : Nat) : bit1 (bitSum l) i = decide (i ∈ l) := by
  rw [bit1_eq_testBit, bitSum, testBit_foldl_or]
  simp

/-- A block of one island that is between Fence and Rejoin is held by that island. -/
theorem State.blockHeld_of_one {b : Nat} (hb : blockIslands b = [n]) (h : s.isl n = 2) : s.blockHeld b = some n := by
  simp [State.blockHeld, hb, State.up_of_ge h.ge, h]

theorem State.summary_bit_of_held {b : Nat} (hlt : b < 23) (hb : b ≠ 2) (h : s.blockHeld b = some n) :
    bit1 s.summary b = bit1 (s.islSt n).heldSummary.toNat b := by
  rw [State.summary, bit1_bitSum]
  simp only [List.mem_filter, List.mem_range, hlt, true_and, if_neg hb, h, Bool.decide_eq_true]

/-- Settles O21. -/
theorem summaryBitIsHeldFromFenceToRejoin : Obligations.SummaryBitIsHeldFromFenceToRejoin := by
  intro n b s hb h2 hlt hne
  exact State.summary_bit_of_held hlt hne (State.blockHeld_of_one hb h2)

end Sys2Proof.Machine
end

section
/-! PROOFS. The load sequence of a Structure Image, step by step, and what ends it as failed (R67, R68, R70, R76). -/

namespace Sys2Proof.Machine

variable {s : State}

/-! ## The start of a load -/

/-- The register fields and the loader as a load begins. -/
def State.silBegun (s : State) : State :=
  let s1 := ((((s.put SIL_STATUS.state 1).put SIL_STATUS.busy 1).put SIL_STATUS.step 1).put SIL_STATUS.error 0).put SIL_STATUS.partial
    (if s.imgFull then 0 else 1)
  if s.imgFull then s1 else (s1.put SIL_PARTIAL_DONE.trees 0).put SIL_PARTIAL_TENANT.tenants 0

theorem State.silLoad_of_idle (h : s.get SIL_STATUS.busy = 0) : s.silLoad =
    { s.silBegun with sil := { s.silBegun.sil with step := .parse, applyRetried := false, wasStructured := s.structured } } := by
  have hidle : s.on SIL_STATUS.busy = false := State.on_of_eq h
  cases himg : s.imgFull <;> simp [State.silLoad, State.silBegun, hidle, himg]

theorem State.silBegun_eq_fld (s : State) : ∃ f, s.silBegun = { s with fld := f } := by
  by_cases h : s.imgFull = true
  · exact ⟨_, if_pos h⟩
  · exact ⟨_, if_neg h⟩

/-- A partial load also clears its two progress registers; no field of SIL_STATUS stands there. -/
theorem State.silBegun_get {x : Fld} (htrees : x.key ≠ SIL_PARTIAL_DONE.trees.key) (htenants : x.key ≠ SIL_PARTIAL_TENANT.tenants.key) :
    s.silBegun.get x = (((((s.put SIL_STATUS.state 1).put SIL_STATUS.busy 1).put SIL_STATUS.step 1).put SIL_STATUS.error 0).put
      SIL_STATUS.partial (if s.imgFull then 0 else 1)).get x := by
  unfold State.silBegun
  dsimp only
  split
  · rfl
  · rw [State.get_put_other htenants, State.get_put_other htrees]

theorem State.silLoad_get_of_idle (h : s.get SIL_STATUS.busy = 0) (x : Fld) : s.silLoad.get x = s.silBegun.get x := by
  rw [State.silLoad_of_idle h]
  rfl

section
variable (h : s.get SIL_STATUS.busy = 0)
include h

theorem State.silLoad_state : s.silLoad.get SIL_STATUS.state = 1 := by
  rw [State.silLoad_get_of_idle h, State.silBegun_get (by decide) (by decide)]
  simp (disch := decide) only [State.get_put_other, State.get_put_self]
  decide

theorem State.silLoad_busy : s.silLoad.get SIL_STATUS.busy = 1 := by
  rw [State.silLoad_get_of_idle h, State.silBegun_get (by decide) (by decide)]
  simp (disch := decide) only [State.get_put_other, State.get_put_self]
  decide

theorem State.silLoad_step : s.silLoad.get SIL_STATUS.step = 1 := by
  rw [State.silLoad_get_of_idle h, State.silBegun_get (by decide) (by decide)]
  simp (disch := decide) only [State.get_put_other, State.get_put_self]
  decide

theorem State.silLoad_error : s.silLoad.get SIL_STATUS.error = 0 := by
  rw [State.silLoad_get_of_idle h, State.silBegun_get (by decide) (by decide)]
  simp (disch := decide) only [State.get_put_other, State.get_put_self, Nat.zero_mod]

theorem State.silLoad_partial : s.silLoad.get SIL_STATUS.partial = if s.imgFull then 0 else 1 := by
  rw [State.silLoad_get_of_idle h, State.silBegun_get (by decide) (by decide), State.get_put_self]
  split <;> rfl

end

/-! ## Steps that end -/

@[simp] theorem State.loadNext_none (s : State) (next : SilStep) (code : Nat) :
    s.loadNext none next code = { s.put SIL_STATUS.step code with sil := { s.sil with step := next } } := rfl

theorem exec_loadParseEnd_of_parse (h : s.sil.step = .parse) :
    exec .loadParseEnd s = .next (s.loadNext s.parseErr .verify 2).settle :=
  if_pos h

theorem exec_loadVerifyEnd_of_verify (h : s.sil.step = .verify) :
    exec .loadVerifyEnd s = .next (s.loadNext s.verifyErr .check 3).settle :=
  if_pos h

theorem State.stageWrite_of_idle (h : s.get SIL_STATUS.busy = 0) {off : Nat} {octets : List Byte} (hlen : off + octets.length ≤ 0x100000) :
    s.stageWrite off octets = s.putBytes (stageBase + off) octets := by
  have hidle : ¬(s.on SIL_STATUS.busy = true) := by simp [State.on_of_eq h]
  rw [State.stageWrite, if_neg hidle, List.take_of_length_le (by omega)]

/-! ## Steps that pass their limit (R70) -/

theorem exec_loadStepTimeout_of_early (h : s.sil.step = .parse ∨ s.sil.step = .verify ∨ s.sil.step = .check) (k : Nat) :
    exec (.loadStepTimeout k) s = .next (s.loadFail ⟨0x11, 0, 0, 0⟩).settle := by
  rcases h with h | h | h <;> simp [exec, execLoadStepTimeout, h, State.done_eq]

/-- Where Apply stands when it passes its limit: the tenants and trees of a partial image that it has swapped. -/
def State.appliedSome (s : State) (k : Nat) : State :=
  if s.on SIL_STATUS.partial then ((s.partialItems.filter fun e => e.1 < 2).take k).foldl State.swapItem s else s

theorem exec_loadStepTimeout_of_apply (h : s.sil.step = .apply) (k : Nat) :
    exec (.loadStepTimeout k) s = .next (if s.sil.applyRetried then (s.appliedSome k).loadFail ⟨0x0F, 0, 0, 0⟩
      else { s.appliedSome k with sil := { (s.appliedSome k).sil with applyRetried := true } }).settle := by
  cases hre : s.sil.applyRetried <;> simp [exec, execLoadStepTimeout, h, hre, State.done_eq, State.appliedSome]

theorem State.appliedSome_of_full (h : s.get SIL_STATUS.partial = 0) (k : Nat) : s.appliedSome k = s :=
  if_neg (by simp [State.on_of_eq h])

theorem State.appliedSome_of_partial (h : s.get SIL_STATUS.partial ≠ 0) (k : Nat) :
    s.appliedSome k = ((s.partialItems.filter fun e => e.1 < 2).take k).foldl State.swapItem s :=
  if_pos (State.on_of_ne h)

/-! ## The obligation -/

/-- Settles O23: a load begins with the fields of silBegun, each of Parse, Verify and Check is a loadNext with what it found, and a limit
that is passed ends the load, in Apply at the second time. -/
theorem loadSequenceAndItsFailures : Obligations.LoadSequenceAndItsFailures := by
  refine ⟨fun s => ⟨fun hidle => ?_, fun hstep hok => ?_, fun hstep => ?_, fun hstep hok => ?_, fun hidle off octets hlen => ?_⟩,
    fun s => ⟨fun e hstep herr => ?_, fun e hstep herr => ?_, fun k hstep => exec_loadStepTimeout_of_early hstep k,
      fun k hstep hfull => ?_, fun k hstep hpart => ?_⟩⟩
  · obtain ⟨f, hf⟩ := s.silBegun_eq_fld
    refine ⟨s.silLoad, exec_silLoad_eq s, State.silLoad_sil_of_idle hidle, State.silLoad_state hidle, State.silLoad_busy hidle,
      State.silLoad_step hidle, State.silLoad_error hidle, State.silLoad_partial hidle, f, ?_⟩
    rw [State.silLoad_of_idle hidle, hf]
  · rw [exec_loadParseEnd_of_parse hstep, hok, State.loadNext_none]
  · rw [exec_loadVerifyEnd_of_verify hstep]
    cases s.verifyErr <;> rfl
  · rw [exec_loadCheckEnd_of_check hstep, hok, State.loadNext_none]
  · rw [exec_stageWrite_eq, State.stageWrite_of_idle hidle hlen]
    rfl
  · rw [exec_loadParseEnd_of_parse hstep, herr, State.loadNext_some]
  · rw [exec_loadCheckEnd_of_check hstep, herr, State.loadNext_some]
  · rw [exec_loadStepTimeout_of_apply hstep, State.appliedSome_of_full hfull]
  · rw [exec_loadStepTimeout_of_apply hstep, State.appliedSome_of_partial hpart]

end Sys2Proof.Machine
end

section
/-! PROOFS. Trees: the Continuity Sequencer and upstream bursts (R82 to R98), tree states (R100 to R103), key switches (R107) and the optics
management buses (R111). -/

namespace Sys2Proof.Machine

variable {s : State} {t : Nat}

/-! ## The Continuity Sequencer (R82, R89, R90) -/

theorem State.sfcLoad_of_txdis (h : s.txdis t = true) : s.sfcLoad t = s.modTree t fun x => { x with sfcLoadPending := true } := if_pos h

theorem State.sfcLoad_of_not_txdis (h : s.txdis t = false) : s.sfcLoad t = s.put (TE_EVENT.sfc_load_refused t) 1 := if_neg (by simp [h])

theorem exec_sfcLoadCmd_eq (t : Tree) (s : State) : exec (.sfcLoadCmd t) s = .next (s.sfcLoad t.val).settle := rfl

theorem exec_csFillDeadline_of_sends {t : Tree} (h : s.engineSends t.val = true) :
    exec (.csFillDeadline t) s = .next (s.modTree t.val fun x => { x with fillNext := true }).settle :=
  if_pos h

theorem exec_csBufferDry_of_sends {t : Tree} (h : s.engineSends t.val = true) : exec (.csBufferDry t) s = .next (s.bufferDry t.val).settle :=
  if_pos h

/-! ## Upstream bursts (R91, R94 to R96) -/

section
variable {t : Tree} {b : Burst} {r : List Burst} (hb : (s.tree t.val).expected = b :: r) (hrec : s.receives t.val = true)
include hb hrec

theorem exec_upstreamBurstDue_of_expected (c : List Candidate) : exec (.upstreamBurstDue t c) s = .next (s.burstDue t.val b c).settle := by
  simp only [exec, execUpstreamBurstDue, hb, hrec, if_true, State.done_eq]

theorem exec_burstWindowClose_of_expected : exec (.burstWindowClose t) s = .next (s.burstMissed t.val b).settle := by
  simp only [exec, execBurstWindowClose, hb, hrec, if_true, State.done_eq]

end

section
variable {b : Burst}

theorem State.burstDue_of_covered (h : s.covered t = true) (c : List Candidate) : s.burstDue t b c = s.burstLost t b := if_pos h

theorem State.burstMissed_of_covered (h : s.covered t = true) : s.burstMissed t b = s.burstLost t b := if_pos h

section
variable (hcov : s.covered t = false)
include hcov

theorem State.burstDue_of_deaf (h : s.deaf t = true) (c : List Candidate) : s.burstDue t b c = s.burstDone t b := by
  simp only [State.burstDue, hcov, h, Bool.false_eq_true, if_false, if_true]

theorem State.burstMissed_of_deaf (h : s.deaf t = true) : s.burstMissed t b = s.burstDone t b := by
  simp only [State.burstMissed, hcov, h, Bool.false_eq_true, if_false, if_true]

theorem State.burstMissed_of_hearing (h : s.deaf t = false) : s.burstMissed t b =
    (let u := ((s.burstDone t b).inc (TE_DELIM_MISS_CNT.count t)).noteMiss t b.onu
    (if b.kind = .inService ∧ u.operating t b.onu then u.inServiceMiss t b.onu else u).calMissed b) := by
  simp only [State.burstMissed, hcov, h, Bool.false_eq_true, if_false]

/-- A single candidate in the window with a good HEC is confirmed, with no failed one before it. -/
theorem State.burstDue_of_confirmed (h : s.deaf t = false) {c : Candidate} (hok : s.candOk t b c = true) (hhec : c.hecOk = true) :
    s.burstDue t b [c] =
      (let u := (s.incBy (TE_DELIM_FALSE_CNT.count t) 0).burstDone t b
      if c.onu.toNat = b.onu then u.burstIn t b c else (u.inc (TE_WRONG_ID_CNT.count t)).calMissed b) := by
  simp only [State.burstDue, hcov, h, Bool.false_eq_true, if_false, List.filter_cons_of_pos hok, List.filter_nil, confirm, hhec, if_true,
    ne_eq, ite_not]

end
end

/-! ## Reassembly and TE_BRST_CFG (R88, R98) -/

theorem exec_reassemblyTimeout_of_some {t : Tree} {onu : BitVec 8} {port : BitVec 16} {x : Reasm}
    (h : s.reasmAt t.val onu.toNat port.toNat = some x) : exec (.reassemblyTimeout t onu port) s =
      .next ((s.reasmDrop t.val onu.toNat port.toNat).inc (TE_REASM_TO_CNT.count t.val)).settle := by
  simp only [exec, execReassemblyTimeout, h, State.done_eq]

theorem exec_brstCfgWrite_of_runs {t : Tree} (h : s.isl (treeIsl t.val) < 2) (d : BitVec 32) :
    exec (.brstCfgWrite t d) s = .next ((s.ungate (treeIsl t.val)).brstWrite t.val d.toNat).settle :=
  if_pos (State.answers_one h)

theorem State.brstWrite_of_over {d : Nat} (hm : (TE_BRST_CFG.mode t).of d = 0) (h : 20 < (TE_BRST_CFG.delay t).of d + (TE_BRST_CFG.width t).of d)
    (s : State) : s.brstWrite t d =
      ((((((s.put (TE_BRST_CFG.mode t) ((TE_BRST_CFG.mode t).of d)).put (TE_BRST_CFG.pol t) ((TE_BRST_CFG.pol t).of d)).put (TE_BRST_CFG.delay t)
        ((TE_BRST_CFG.delay t).of d))).put (TE_BRST_CFG.width t) (20 - (TE_BRST_CFG.delay t).of d))).put (TE_EVENT.brst_clamped t) 1 :=
  if_pos ⟨hm, h⟩

theorem State.brstWrite_of_fits {d : Nat}
    (h : (TE_BRST_CFG.mode t).of d ≠ 0 ∨ (TE_BRST_CFG.delay t).of d + (TE_BRST_CFG.width t).of d ≤ 20) (s : State) : s.brstWrite t d =
      ((((s.put (TE_BRST_CFG.mode t) ((TE_BRST_CFG.mode t).of d)).put (TE_BRST_CFG.pol t) ((TE_BRST_CFG.pol t).of d)).put (TE_BRST_CFG.delay t)
        ((TE_BRST_CFG.delay t).of d))).put (TE_BRST_CFG.width t) ((TE_BRST_CFG.width t).of d) :=
  if_neg fun ⟨hm, hover⟩ => h.elim (fun hm' => hm' hm) (fun hle => absurd hover (by omega))

/-- Settles O27. -/
theorem sequencerReassemblyAndBurstReset : Obligations.SequencerReassemblyAndBurstReset := by
  refine ⟨fun t s => ⟨fun h => ?_, fun h => ?_, fun h => ⟨exec_csFillDeadline_of_sends h, exec_csBufferDry_of_sends h⟩, fun b r hb hrec =>
      ⟨exec_upstreamBurstDue_of_expected hb hrec, exec_burstWindowClose_of_expected hb hrec, fun hcov c => ?_, fun hcov hdeaf => ?_,
        fun hcov hdeaf => ⟨State.burstMissed_of_hearing hcov hdeaf, fun c => State.burstDue_of_confirmed hcov hdeaf⟩⟩⟩,
    fun t s => ⟨fun onu port x hx => exec_reassemblyTimeout_of_some hx, fun hrun d => ⟨fun hm hover => ?_, fun hfits => ?_⟩⟩⟩
  · rw [exec_sfcLoadCmd_eq, State.sfcLoad_of_txdis h]
  · rw [exec_sfcLoadCmd_eq, State.sfcLoad_of_not_txdis h]
  · rw [State.burstDue_of_covered hcov, State.burstMissed_of_covered hcov]
    exact ⟨rfl, rfl⟩
  · exact ⟨State.burstMissed_of_deaf hcov hdeaf, State.burstDue_of_deaf hcov hdeaf⟩
  · rw [exec_brstCfgWrite_of_runs hrun, State.brstWrite_of_over hm hover]
  · rw [exec_brstCfgWrite_of_runs hrun, State.brstWrite_of_fits hfits]

/-! ## Dark and Lit (R101, R102) -/

/-- A command that chooses between two last states answers the settled choice. -/
theorem State.done_ite {c : Prop} [Decidable c] (u v : State) : (if c then u.done else v.done) = .next (if c then u else v).settle := by
  split <;> rfl

theorem State.lightStep_of {p : TreeStep} (h5 : s.treeState t = 5) (hp : (s.tree t).step = p) : s.lightStep t p = true := by
  simp [State.lightStep, h5, hp]

theorem State.darkStep_of {p : TreeStep} (h6 : s.treeState t = 6) (hp : (s.tree t).step = p) : s.darkStep t p = true := by
  simp [State.darkStep, h6, hp]

theorem stateReq_key_ne_state (t : Nat) : (TE_STATUS.state t).key ≠ (TE_CTRL.state_req t).key :=
  Fld.key_ne_of_addr_ne (by simp [TE_STATUS.state]) (by simp [TE_CTRL.state_req]) (by simp [TE_STATUS.state, TE_CTRL.state_req])

theorem State.lightWrite_of_free (hhold : s.loadHolds t = false) (hlane : s.laneLost t = false) (hdark : s.treeState t = 1) :
    s.lightWrite t = ((((s.put (TE_CTRL.state_req t) 1).benchEnd (32 + t)).put (TE_STATUS.state t) 5).modTree t
      fun x => { x with step := .power, powerRetried := false }).askPower t := by
  have hstill : (s.put (TE_CTRL.state_req t) 1).treeState t = 1 := (State.get_put_other (stateReq_key_ne_state t) s 1).trans hdark
  simp only [State.lightWrite, hhold, Bool.false_and, Bool.false_eq_true, if_false, State.lightRequest, hlane, hstill, if_true]

theorem State.laserEnd_of_free (h : s.protBlocked t = false) : s.laserEnd t = s.modTree t fun x => { x with step := .sync } :=
  if_neg (by simp [h])

theorem State.laserEnd_of_blocked (h : s.protBlocked t = true) : s.laserEnd t =
    (((s.put (TE_STATUS.state t) 2).modTree t fun x => { x with step := .none }).litOrActive t).rebuildFallback t :=
  if_pos h

theorem State.darkWrite_of_runs (hlane : s.laneLost t = false) (hrun : s.isl (treeIsl t) < 2) :
    s.darkWrite t = (((s.ungate (treeIsl t)).put (TE_CTRL.state_req t) 0).unhold t).darkRequest t := by
  simp only [State.darkWrite, hlane, Bool.false_eq_true, if_false, State.answers_one hrun, if_true]
  rfl

theorem State.darkRequest_of_lit (hge : 2 ≤ s.treeState t) (hle : s.treeState t ≤ 4) (hisl : s.isl (treeIsl t) ≠ 2) :
    s.darkRequest t = s.darkBegin t := by
  have hlit : s.treeState t = 2 ∨ s.treeState t = 3 ∨ s.treeState t = 4 := by omega
  simp only [State.darkRequest, hlit, hisl, if_true, if_false]

theorem State.goDark_treeState (s : State) (t : Nat) : (s.goDark t).treeState t = 1 := by
  unfold State.goDark State.treeState
  rw [State.get_put_other (by simp [Fld.key, TE_STATUS.state, TE_STATUS.cs_filling]), State.get_put_self]
  rfl

theorem State.goDark_cs_filling (s : State) (t : Nat) : (s.goDark t).get (TE_STATUS.cs_filling t) = 0 := by
  unfold State.goDark
  rw [State.get_put_self, Nat.zero_mod]

section
variable {t : Tree}

theorem exec_treeLightRequest_of_runs (h : s.isl (treeIsl t.val) < 2) :
    exec (.treeLightRequest t) s = .next ((s.ungate (treeIsl t.val)).lightWrite t.val).settle :=
  if_pos (State.answers_one h)

theorem exec_treePowerGrant_of_granted (hstep : s.lightStep t.val .power = true) (hmem : t.val ∈ s.pwr.granted) :
    exec (.treePowerGrant t) s = .next ({ s with pwr := { s.pwr with granted := s.pwr.granted.erase t.val } }.modTree t.val
      fun x => { x with step := .laser }).settle :=
  if_pos (by simp [hstep, hmem])

theorem exec_treePowerTimeout_of_power (hstep : s.lightStep t.val .power = true) :
    exec (.treePowerTimeout t) s = .next (if (s.tree t.val).powerRetried then (s.lightFail t.val).judgeTrees
      else (s.modTree t.val fun x => { x with powerRetried := true }).askPower t.val).settle := by
  simp only [exec, execTreePowerTimeout, hstep, if_true, State.done_ite]

theorem exec_treeLaserEnd_of_laser (hstep : s.lightStep t.val .laser = true) : exec (.treeLaserEnd t) s = .next (s.laserEnd t.val).settle :=
  if_pos hstep

theorem exec_treeDarkRequest_eq (t : Tree) (s : State) : exec (.treeDarkRequest t) s = .next (s.darkWrite t.val).settle := rfl

theorem exec_treeStopEnd_of_stop (hstep : s.darkStep t.val .stop = true) : exec (.treeStopEnd t) s = .next
    (let u := (s.modTree t.val fun x => { x with step := .drain }).rebuildOpen t.val
    u.undeliverables 2 (u.treeFrames t.val)).settle :=
  if_pos hstep

theorem exec_treeDrainEnd_of_drain (hstep : s.darkStep t.val .drain = true) : exec (.treeDrainEnd t) s = .next (s.goDark t.val).settle :=
  if_pos hstep

/-! ## Doze (R100, R103, R118) -/

theorem exec_dozeIdleExpiry_of_idle (h2 : s.treeState t.val = 2) (hen : (s.treeEntry t.val).dozeEn = true) (hact : s.activeCount t.val = 0) :
    exec (.dozeIdleExpiry t) s = .next (s.enterDoze t.val).settle :=
  if_pos (by simp [h2, hen, hact])

theorem exec_treeWake_of_runs (h : s.isl (treeIsl t.val) < 2) (l : List (Fin 156)) :
    exec (.treeWake t l) s = .next (((s.ungate (treeIsl t.val)).leaveDoze t.val).dozeChecks (l.map (·.val))).settle :=
  if_pos (State.answers_one h)

theorem State.leaveDoze_of_doze {t : Nat} (h : s.treeState t = 4) :
    s.leaveDoze t = (s.put (TE_STATUS.state t) 2).modTree t fun x => { x with dozeDisc := false, bankCheck := true } :=
  if_pos h

theorem State.dozeCheck_of_due {t : Nat} (h : (s.tree t).bankCheck = true) (bad : List Nat) : State.dozeCheck bad s t =
    (bad.filter (treeBank t)).foldl State.bankFail ((s.modTree t fun x => { x with bankCheck := false }).rebuildFallback t) :=
  if_pos h

theorem exec_dozeDiscExpiry_of_doze (h4 : s.treeState t.val = 4) (hdisc : s.get (TE_DOZE_CFG.disc_period t.val) ≠ 0) (l : List (Fin 156)) :
    exec (.dozeDiscExpiry ⟨t, l⟩) s = .next
      (let u := ((s.leaveDoze t.val).dozeChecks (l.map (·.val))).modTree t.val fun x => { x with dozeDisc := true }
      if u.get (TE_RNG_STATUS.no_discovery t.val) ≠ 0 ∨ u.isLit t.val = false then u else u.placeQuiet t.val).settle := by
  have hdue : (s.treeState t.val == 4 && s.on (TE_DOZE_CFG.disc_period t.val)) = true := by simp [h4, State.on_of_ne hdisc]
  simp only [exec, execDozeDiscExpiry, hdue, if_true, State.done_ite]
  simp only [State.on, Bool.or_eq_true, bne_iff_ne, Bool.not_eq_true', State.wakeTree]

end

/-- Settles O28. -/
theorem treesFromDarkToLitAndBack : Obligations.TreesFromDarkToLitAndBack := by
  refine ⟨fun t s => ⟨fun hrun hlane hhold hdark => ?_, fun h5 hstep hmem => exec_treePowerGrant_of_granted (State.lightStep_of h5 hstep) hmem,
      fun h5 hstep hretried => ?_, fun h5 hstep hretried => ?_, fun h5 hstep hprot => ?_, fun h5 hstep hprot => ?_⟩,
    fun t s => ⟨fun hlane hrun => ?_, fun u => State.darkRequest_of_lit, fun h6 hstep => exec_treeStopEnd_of_stop (State.darkStep_of h6 hstep),
      fun h6 hstep => exec_treeDrainEnd_of_drain (State.darkStep_of h6 hstep), fun u => ⟨u.goDark_treeState t.val, u.goDark_cs_filling t.val⟩,
      exec_dozeIdleExpiry_of_idle, exec_treeWake_of_runs, State.leaveDoze_of_doze, fun bad h => State.dozeCheck_of_due h bad,
      exec_dozeDiscExpiry_of_doze⟩⟩
  · rw [exec_treeLightRequest_of_runs hrun, State.lightWrite_of_free hhold hlane hdark]
  · simp only [exec_treePowerTimeout_of_power (State.lightStep_of h5 hstep), hretried, Bool.false_eq_true, if_false]
  · simp only [exec_treePowerTimeout_of_power (State.lightStep_of h5 hstep), hretried, if_true]
    rfl
  · rw [exec_treeLaserEnd_of_laser (State.lightStep_of h5 hstep), State.laserEnd_of_free hprot]
  · rw [exec_treeLaserEnd_of_laser (State.lightStep_of h5 hstep), State.laserEnd_of_blocked hprot]
  · rw [exec_treeDarkRequest_eq, State.darkWrite_of_runs hlane hrun]

/-! ## Key switches (R107) -/

theorem State.keySwitch_of_refused {onu idx ahead : Nat} {bcast : Bool} (h : s.switchRefused t onu idx ahead bcast = true) :
    s.keySwitch t onu idx ahead bcast = s.put (TE_EVENT.key_refused t) 1 :=
  if_pos h

theorem State.keySwitch_of_taken {onu idx ahead : Nat} {bcast : Bool} (h : s.switchRefused t onu idx ahead bcast = false) :
    s.keySwitch t onu idx ahead bcast =
      ((s.modTree t fun x => { x with switches := x.switches ++ [⟨bcast, onu, idx, (s.get (TE_SFC.sfc t) + ahead) % 2 ^ 51⟩] }).put
        (TE_KEY_SWITCH.pending t) 1).put (TE_KEY_SW_SFC.sfc t) ((s.get (TE_SFC.sfc t) + ahead) % 2 ^ 51) :=
  if_neg (by simp [h])

theorem State.switchRefused_of_distance {ahead : Nat} (h : ahead < 8 ∨ 4095 < ahead) (onu idx : Nat) (bcast : Bool) :
    s.switchRefused t onu idx ahead bcast = true := by
  rcases h with h | h <;> simp [State.switchRefused, h]

theorem State.keySwitchWrite_of_go {d : Nat} (h : (TE_KEY_SWITCH.go t).of d = 1) (s : State) : s.keySwitchWrite t d =
    ((((s.put (TE_KEY_SWITCH.ahead t) ((TE_KEY_SWITCH.ahead t).of d)).put (TE_KEY_SWITCH.terminal t) ((TE_KEY_SWITCH.terminal t).of d)).put
      (TE_KEY_SWITCH.index t) ((TE_KEY_SWITCH.index t).of d)).put (TE_KEY_SWITCH.bcast t) ((TE_KEY_SWITCH.bcast t).of d)).keySwitch t
        ((TE_KEY_SWITCH.terminal t).of d) ((TE_KEY_SWITCH.index t).of d) ((TE_KEY_SWITCH.ahead t).of d) ((TE_KEY_SWITCH.bcast t).of d == 1) :=
  if_pos h

theorem exec_keySwitchCmd_of_runs {t : Tree} (h : s.isl (treeIsl t.val) < 2) (d : BitVec 32) :
    exec (.keySwitchCmd t d) s = .next ((s.ungate (treeIsl t.val)).keySwitchWrite t.val d.toNat).settle :=
  if_pos (State.answers_one h)

/-- Settles O29. -/
theorem keySwitchIsScheduledOrRefused : Obligations.KeySwitchIsScheduledOrRefused := by
  intro t d s hrun hgo
  refine ⟨fun hok => ?_, fun href => ?_, fun h => State.switchRefused_of_distance h _ _ _⟩
  · rw [exec_keySwitchCmd_of_runs hrun, State.keySwitchWrite_of_go hgo, State.keySwitch_of_taken hok]
  · rw [exec_keySwitchCmd_of_runs hrun, State.keySwitchWrite_of_go hgo, State.keySwitch_of_refused href]

/-! ## The optics management buses (R111) -/

section
variable {b : Nat}

/-- The command register of an optics bus as a write leaves it. -/
def State.optRegs (s : State) (b d : Nat) : State :=
  ((s.put (MGT_OPT_CMD.wr_len b) ((MGT_OPT_CMD.wr_len b).of d)).put (MGT_OPT_CMD.rd_len b) ((MGT_OPT_CMD.rd_len b).of d)).put
    (MGT_OPT_CMD.addr b) ((MGT_OPT_CMD.addr b).of d)

/-- A transaction's lengths are allowed and its bus is enabled. -/
def State.optAllowed (s : State) (b w r : Nat) : Prop := w ≤ 16 ∧ r ≤ 16 ∧ w + r ≠ 0 ∧ s.get (MGT_OPT_CFG.en b) ≠ 0

variable {d : Nat} (hfree : s.get (MGT_OPT_STATUS.busy b) = 0) (hgo : (MGT_OPT_CMD.go b).of d = 1)
include hfree hgo

theorem State.optWrite_of_go : s.optWrite b d =
    if 16 < (MGT_OPT_CMD.wr_len b).of d ∨ 16 < (MGT_OPT_CMD.rd_len b).of d ∨ ((MGT_OPT_CMD.wr_len b).of d = 0 ∧ (MGT_OPT_CMD.rd_len b).of d = 0) ∨
        !s.on (MGT_OPT_CFG.en b) then (s.optRegs b d).optFail b 4
    else State.put { s.optRegs b d with
      opt := mset b ⟨(MGT_OPT_CMD.addr b).of d, (s.optRegs b d).optData b ((MGT_OPT_CMD.wr_len b).of d), (MGT_OPT_CMD.rd_len b).of d, []⟩ (s.optRegs b d).opt }
        (MGT_OPT_STATUS.busy b) 1 :=
  if_neg (by simp [State.on_of_eq hfree, hgo])

theorem State.optWrite_of_allowed (h : s.optAllowed b ((MGT_OPT_CMD.wr_len b).of d) ((MGT_OPT_CMD.rd_len b).of d)) :
    s.optWrite b d = State.put { s.optRegs b d with
      opt := mset b ⟨(MGT_OPT_CMD.addr b).of d, (s.optRegs b d).optData b ((MGT_OPT_CMD.wr_len b).of d), (MGT_OPT_CMD.rd_len b).of d, []⟩ (s.optRegs b d).opt }
        (MGT_OPT_STATUS.busy b) 1 := by
  obtain ⟨hw, hr, hne, hen⟩ := h
  rw [State.optWrite_of_go hfree hgo, if_neg]
  simp only [State.on_of_ne hen, Bool.not_true, Bool.false_eq_true, or_false]
  omega

theorem State.optWrite_of_not_allowed (h : ¬s.optAllowed b ((MGT_OPT_CMD.wr_len b).of d) ((MGT_OPT_CMD.rd_len b).of d)) :
    s.optWrite b d = (s.optRegs b d).optFail b 4 := by
  rw [State.optWrite_of_go hfree hgo, if_pos]
  by_cases hen : s.get (MGT_OPT_CFG.en b) = 0
  · simp [State.on_of_eq hen]
  · have hlen : ¬((MGT_OPT_CMD.wr_len b).of d ≤ 16 ∧ (MGT_OPT_CMD.rd_len b).of d ≤ 16 ∧
        (MGT_OPT_CMD.wr_len b).of d + (MGT_OPT_CMD.rd_len b).of d ≠ 0) := fun ⟨hw, hr, hne⟩ => h ⟨hw, hr, hne, hen⟩
    omega

end

section
variable {b : Fin 8}

theorem exec_optTransaction_eq (b : Fin 8) (d : BitVec 32) (s : State) :
    exec (.optTransaction b d) s = .next (s.optWrite b.val d.toNat).settle := rfl

variable (hbusy : s.get (MGT_OPT_STATUS.busy b.val) ≠ 0)
include hbusy

theorem exec_optTransactionEnd_ok (x : OptEnd) : exec (.optTransactionEnd b none x) s = .next (s.optOk b.val x.octets).settle :=
  if_pos (State.on_of_ne hbusy)

theorem exec_optTransactionEnd_nack (j : BitVec 5) (x : OptEnd) :
    exec (.optTransactionEnd b (some j) x) s = .next (s.optNack b.val j.toNat x.readAddr).settle :=
  if_pos (State.on_of_ne hbusy)

theorem exec_optStretchTimeout_of_busy (n : Nat) : exec (.optStretchTimeout ⟨b, n⟩) s = .next (s.optStretch b.val n).settle :=
  if_pos (State.on_of_ne hbusy)

end

/-- The STOP after the nine clock pulses ends what the master drives. -/
theorem State.optStretch_eq (s : State) (b n : Nat) :
    s.optStretch b n = (s.optDrive b (((s.optBus b).steps.take n ++ [.clocks 9]) ++ [.stop])).optFail b 3 := by
  rw [List.append_assoc]
  rfl

theorem OptBus.steps_of_write {x : OptBus} (hw : x.wr ≠ []) (hr : x.rd = 0) :
    x.steps = .start :: .octet (BitVec.ofNat 8 (2 * x.addr)) :: x.wr.map OptWire.octet := by
  simp [OptBus.steps, hw, hr]

theorem OptBus.steps_of_read {x : OptBus} (hw : x.wr = []) (hr : x.rd ≠ 0) :
    x.steps = .start :: .octet (BitVec.ofNat 8 (2 * x.addr + 1)) :: (List.range x.rd).map fun i => OptWire.ack (i + 1 == x.rd) := by
  simp [OptBus.steps, hw, hr]

/-- Settles O30: a write with go starts the transaction or fails it, and a running one ends in one of three ways. -/
theorem opticsTransactions : Obligations.OpticsTransactions := by
  intro b s
  refine ⟨fun hfree d hgo => ⟨fun hw hr hne hen => ?_, fun h => ?_⟩, fun hbusy => ⟨exec_optTransactionEnd_ok hbusy, exec_optTransactionEnd_nack hbusy,
    fun n => ?_⟩, fun x => OptBus.steps_of_write, fun x => OptBus.steps_of_read⟩
  · rw [exec_optTransaction_eq, State.optWrite_of_allowed hfree hgo ⟨hw, hr, hne, hen⟩]
    rfl
  · have hnot : ¬s.optAllowed b.val ((MGT_OPT_CMD.wr_len b.val).of d.toNat) ((MGT_OPT_CMD.rd_len b.val).of d.toNat) := fun ⟨hw, hr, hne, hen⟩ => by
      rcases h with h | h | h | h <;> omega
    rw [exec_optTransaction_eq, State.optWrite_of_not_allowed hfree hgo hnot]
    rfl
  · rw [exec_optStretchTimeout_of_busy hbusy, State.optStretch_eq]
    rfl

end Sys2Proof.Machine
end

section
/-! PROOFS. Terminals: activation and ranging (R118 to R127), the terminal commands, the timers of a context, PLOAM messages and the writes of
a record and of TE_TDD_CFG (R114 to R144). -/

namespace Sys2Proof.Machine

variable {s : State}

/-- Equal last states of a command are equal answers. -/
theorem next_settle_congr {u v : State} (h : u = v) : (.next u.settle : Host.Outcome State Fault Refusal) = .next v.settle := by rw [h]

/-! ## Serial-number acquisition (R118, R121) -/

section
variable {t : Nat} {sn : BitVec 64} {resp : Nat} {msg : List Byte}

theorem State.respond_of_disabled (h : sn ∈ (s.tree t).disabledSn) : s.respond t sn resp msg = s.responseToFirmware t msg :=
  if_pos (by simp [h])

section
variable (hlive : sn ∉ (s.tree t).disabledSn)
include hlive

theorem State.respond_of_held {o : Nat} {x : Term} (ho : s.holderOf t sn = some (o, x)) (hx : x.state = .held) : s.respond t sn resp msg =
    ((((s.toAcquired t o resp).rebindStale t o).assign t o).rerangeCheck t).tryPlace t o := by
  simp [State.respond, hlive, ho, hx]

theorem State.respond_of_duplicate {o : Nat} {x : Term} (ho : s.holderOf t sn = some (o, x)) (hx : x.state ≠ .held) :
    s.respond t sn resp msg = (s.set1 (TE_RNG_EVENT.dup_serial t)).responseToFirmware t msg := by
  simp [State.respond, hlive, ho, hx]

theorem State.respond_of_free {o : Nat} (hnew : s.holderOf t sn = none) (ho : s.anyFree t = some o) : s.respond t sn resp msg =
    (((((s.modTerm t o fun x => { x with serial := sn }).uncalibrate t o).dropTemp t o).toAcquired t o resp).assign t o).tryPlace t o := by
  simp [State.respond, hlive, hnew, ho]

theorem State.respond_of_full (hnew : s.holderOf t sn = none) (ho : s.anyFree t = none) : s.respond t sn resp msg = s := by
  simp [State.respond, hlive, hnew, ho]

end
end

theorem exec_snAcquisitionCycle_of_runs {t : Tree} (h : s.cycleRuns t.val = true) :
    exec (.snAcquisitionCycle t) s = .next (s.placeQuiet t.val).settle :=
  if_pos h

section
variable {t : Tree} {ar : BitVec 32} (hruns : s.treeRuns t.val = true) (hquiet : s.inQuiet t.val ar.toNat = true)
include hruns hquiet

theorem exec_snResponse_of_open (sn : BitVec 64) (dl : BitVec 32) (bad : BitVec 8) (msg : SnMessage) : exec (.snResponse t sn dl ar bad msg) s =
    .next (let c := (s.incBy (TE_SN_COLL_CNT.count t.val) bad.toNat).incBy (TE_DELIM_FALSE_CNT.count t.val) bad.toNat
      if msg.confirmed then c.responseIn t.val sn (ar.toNat - dl.toNat) msg.micOk msg.octets else c).settle :=
  if_pos (by simp [hruns, hquiet])

end

/-! ## Ranging (R126, R127) -/

theorem exec_rangingPlaceTimeout_of_place {t : Tree} {onu : BitVec 8} (h : (s.term t.val onu.toNat).step = .place) :
    exec (.rangingPlaceTimeout t onu) s = .next ((s.toFree t.val onu.toNat).inc (TE_RNG_FAIL_CNT.count t.val)).settle :=
  if_pos h

theorem State.measureRange_of_far {t onu delim : Nat} (h : s.rmaxBits t < delim - 8 * s.preOct t 3) :
    s.measureRange t onu delim = (s.dropWindow t onu).dereg t onu 3 :=
  if_pos h

theorem State.measureRange_of_near {t onu delim : Nat} (h : delim - 8 * s.preOct t 3 ≤ s.rmaxBits t) :
    s.measureRange t onu delim = ((s.dropWindow t onu).modTerm t onu fun x => { x with
      rtd := delim - 8 * s.preOct t 3, eqd := s.teqBits t - (delim - 8 * s.preOct t 3), drift := 0, unknown := false
      step := .equalise, resent := false }).sendRanging t onu (s.teqBits t - (delim - 8 * s.preOct t 3) : Nat) :=
  if_neg (Nat.not_lt.mpr h)

section
variable {t : Tree} {onu : BitVec 8} (hstep : (s.term t.val onu.toNat).step = .range) (hopen : s.rangingOpen t.val onu.toNat = true)
include hstep hopen

theorem exec_registrationBurst_of_open (hruns : s.treeRuns t.val = true) {n : BitVec 25}
    (hin : s.inRangingWindow t.val onu.toNat n.toNat = true) :
    exec (.registrationBurst t onu n) s = .next (s.measureRange t.val onu.toNat n.toNat).settle :=
  if_pos (by simp [hruns, hstep, hopen, hin])

theorem exec_rangeWindowTimeout_of_retry (h : (s.term t.val onu.toNat).retries < s.get (TE_ACT_CFG.rng_retries t.val)) :
    exec (.rangeWindowTimeout t onu) s = .next (((s.dropWindow t.val onu.toNat).modTerm t.val onu.toNat fun x => { x with
      step := .place, retries := x.retries + 1 }).tryPlace t.val onu.toNat).settle := by
  simp [exec, execRangeWindowTimeout, hstep, hopen, h, State.done_eq]

theorem exec_rangeWindowTimeout_of_last (h : s.get (TE_ACT_CFG.rng_retries t.val) ≤ (s.term t.val onu.toNat).retries) :
    exec (.rangeWindowTimeout t onu) s = .next (s.dereg t.val onu.toNat 4).settle := by
  simp [exec, execRangeWindowTimeout, hstep, hopen, Nat.not_lt.mpr h, State.done_eq]

end

section
variable {t : Tree} {onu : BitVec 8} (hstep : (s.term t.val onu.toNat).step = .equalise)
include hstep

theorem exec_rangingTimeAck_of_equalise : exec (.rangingTimeAck t onu) s = .next (s.ranged t.val onu.toNat).settle := if_pos hstep

theorem exec_equaliseTimeout_of_equalise : exec (.equaliseTimeout t onu) s = .next
    (if (s.term t.val onu.toNat).resent then s.dereg t.val onu.toNat 4
    else (s.sendRanging t.val onu.toNat (s.term t.val onu.toNat).eqd).modTerm t.val onu.toNat fun x => { x with resent := true, acks := 1 }).settle := by
  simp only [exec, execEqualiseTimeout, hstep, if_true, State.done_ite]

end

/-- Settles O31. -/
theorem activationStepsInOrder : Obligations.ActivationStepsInOrder := by
  intro t onu s
  refine ⟨exec_snAcquisitionCycle_of_runs, fun sn dl ar bad msg hruns hquiet => ⟨fun hno => ?_, fun hyes hmic => ?_, fun hyes hmic => ?_⟩,
    fun u sn resp msg => ⟨State.respond_of_disabled, fun hlive => ⟨fun o x => State.respond_of_held hlive, fun o x => State.respond_of_duplicate hlive,
      State.respond_of_free hlive, State.respond_of_full hlive⟩⟩,
    exec_rangingPlaceTimeout_of_place,
    fun hstep hopen => ⟨fun hruns n hin => ⟨fun hfar => ?_, fun hnear => ⟨_, rfl, ?_⟩⟩, exec_rangeWindowTimeout_of_retry hstep hopen,
      exec_rangeWindowTimeout_of_last hstep hopen⟩,
    fun hstep => ⟨exec_rangingTimeAck_of_equalise hstep, exec_equaliseTimeout_of_equalise hstep⟩⟩
  · simp only [exec_snResponse_of_open hruns hquiet, hno, Bool.false_eq_true, if_false]
  · simp only [exec_snResponse_of_open hruns hquiet, hyes, State.responseIn, hmic, Bool.false_eq_true, if_true, if_false]
  · simp only [exec_snResponse_of_open hruns hquiet, hyes, State.responseIn, hmic, if_true]
  · rw [exec_registrationBurst_of_open hstep hopen hruns hin, State.measureRange_of_far hfar]
  · rw [exec_registrationBurst_of_open hstep hopen hruns hin, State.measureRange_of_near hnear]

/-! ## The terminal commands (R141) -/

section
variable {t onu : Nat}

theorem State.approve_of_ranged (hlit : 2 ≤ s.treeState t) (h : (s.term t onu).state = .ranged) : s.approve t onu = s.toOperation t onu :=
  if_neg (by simp [h]; omega)

theorem State.approve_of_refused (h : s.treeState t ≤ 1 ∨ (s.term t onu).state ≠ .ranged) :
    s.approve t onu = s.put (TE_RNG_EVENT.cmd_refused t) 1 :=
  if_pos h

theorem State.deregister_of_member (hlit : 2 ≤ s.treeState t) (hfree : (s.term t onu).state ≠ .free) (hquar : (s.term t onu).state ≠ .quarantine)
    (cause : Nat) : s.deregister t onu cause = s.dereg t onu cause :=
  if_neg (by simp [hfree, hquar]; omega)

theorem State.deregister_of_refused (h : s.treeState t ≤ 1 ∨ (s.term t onu).state = .free ∨ (s.term t onu).state = .quarantine) (cause : Nat) :
    s.deregister t onu cause = s.put (TE_RNG_EVENT.cmd_refused t) 1 :=
  if_pos h

theorem State.inServiceCmd_of_operation (hlit : 2 ≤ s.treeState t) (h : (s.term t onu).state = .operation) :
    s.inServiceCmd t onu = s.startInService t onu :=
  if_neg (by simp [h]; omega)

theorem State.inServiceCmd_of_refused (h : s.treeState t ≤ 1 ∨ (s.term t onu).state ≠ .operation) :
    s.inServiceCmd t onu = s.put (TE_RNG_EVENT.cmd_refused t) 1 :=
  if_pos h

theorem State.reactivateCmd_of_lit (hlit : 2 ≤ s.treeState t) : s.reactivateCmd t = s.reactivate t := if_neg (by omega)

theorem State.reactivateCmd_of_dark (h : s.treeState t ≤ 1) : s.reactivateCmd t = s.put (TE_RNG_EVENT.cmd_refused t) 1 := if_pos h

end

section
variable {t : Tree} (hrun : s.isl (treeIsl t.val) < 2) (onu : BitVec 8)
include hrun

theorem exec_termApprove_of_runs : exec (.termApprove t onu) s =
    .next (((s.ungate (treeIsl t.val)).termCmdFields t.val 1 onu.toNat).approve t.val onu.toNat).settle :=
  if_pos (State.answers_one hrun)

theorem exec_termDeregister_of_runs (dup : Bool) : exec (.termDeregister t onu dup) s =
    .next (((s.ungate (treeIsl t.val)).termCmdFields t.val 2 onu.toNat).deregister t.val onu.toNat (if dup then 8 else 1)).settle :=
  if_pos (State.answers_one hrun)

theorem exec_termInserviceRanging_of_runs : exec (.termInserviceRanging t onu) s =
    .next (((s.ungate (treeIsl t.val)).termCmdFields t.val 3 onu.toNat).inServiceCmd t.val onu.toNat).settle :=
  if_pos (State.answers_one hrun)

omit onu in
theorem exec_treeReactivate_of_runs : exec (.treeReactivate t) s =
    .next (((s.ungate (treeIsl t.val)).put (TE_TERM_CMD.cmd t.val) 4).reactivateCmd t.val).settle :=
  if_pos (State.answers_one hrun)

end

/-! ## Timers and messages (R114, R116, R126, R131, R136) -/

section
variable {t : Tree} {onu : BitVec 8}

theorem exec_approveTimeout_of_approve (h : (s.term t.val onu.toNat).step = .approve) :
    exec (.approveTimeout t onu) s = .next (s.dereg t.val onu.toNat 5).settle :=
  if_pos h

theorem exec_holdExpiry_of_held (h : (s.term t.val onu.toNat).state = .held) :
    exec (.holdExpiry t onu) s = .next (s.dereg t.val onu.toNat 9).settle :=
  if_pos h

theorem exec_quarantineExpiry_of_quarantine (h : (s.term t.val onu.toNat).state = .quarantine) :
    exec (.quarantineExpiry t onu) s = .next (s.toFree t.val onu.toNat).settle :=
  if_pos h

theorem exec_ploamReceived_of_lit (hruns : s.treeRuns t.val = true) (hlit : 2 ≤ s.treeState t.val) (k : UpPloam) (mic : Bool) {b : List Byte}
    (hlen : b.length ≤ 4124) : exec (.ploamReceived t onu k mic b) s = .next (s.ploamIn t.val onu.toNat k mic b).settle :=
  if_pos (by simp [hruns, hlit, hlen])

end

theorem State.toFree_kek (s : State) (t onu : Nat) : (s.toFree t onu).kek t onu = none := mget_mdel_self _ _

section
variable {t onu : Nat} {b : List Byte}

theorem State.ploamIn_of_bad (k : UpPloam) (s : State) : s.ploamIn t onu k false b = s.inc (TE_PLOAM_MIC_CNT.count t) := rfl

theorem State.ploamIn_of_other {k : UpPloam} (h : k ≠ .acknowledge) (s : State) : s.ploamIn t onu k true b = s.toFirmware t onu b := by
  cases k with
  | acknowledge => exact absurd rfl h
  | registration => rfl
  | keyReport => rfl
  | other => rfl

theorem State.ploamIn_acknowledge (s : State) : s.ploamIn t onu .acknowledge true b = s.ackPloam t onu b := rfl

theorem State.ackPloam_of_equalise (h : (s.term t onu).step = .equalise) : s.ackPloam t onu b = s.ranged t onu := if_pos h

section
variable (hstep : (s.term t onu).step ≠ .equalise)
include hstep

theorem State.ackPloam_of_outstanding (hcorr : (s.term t onu).correcting = true) (hacks : 0 < (s.term t onu).acks) :
    s.ackPloam t onu b = s.modTerm t onu Term.acked := by
  simp [State.ackPloam, hstep, hcorr, hacks]

theorem State.ackPloam_of_firmware (hcorr : (s.term t onu).correcting = false) : s.ackPloam t onu b = s.toFirmware t onu b := by
  simp [State.ackPloam, hstep, hcorr]

end
end

theorem Term.acked_of_last {x : Term} (hcorr : x.correcting = true) (h : x.acks = 1) : x.acked = { x with acks := 0, holdFrames := 3 } := by
  simp [Term.acked, hcorr, h]

theorem Term.acked_of_more {x : Term} (hcorr : x.correcting = true) (h : 1 < x.acks) : x.acked = { x with acks := x.acks - 1 } := by
  have hne : x.acks ≠ 0 := by omega
  have hne1 : x.acks ≠ 1 := by omega
  simp [Term.acked, hcorr, hne, hne1]

/-! ## Writes of a terminal record and of TE_TDD_CFG (R122, R144) -/

theorem exec_terminalRecordWrite_of_runs {t : Tree} (h : s.isl (treeIsl t.val) < 2) (onu : BitVec 8) (k : Fin 2) (d : BitVec 64) :
    exec (.terminalRecordWrite t onu k d) s = .next ((s.ungate (treeIsl t.val)).termWrite t.val onu.toNat k.val d).settle :=
  if_pos (State.answers_one h)

theorem exec_tddCfgWrite_of_runs {t : Tree} (h : s.isl (treeIsl t.val) < 2) (d : BitVec 32) :
    exec (.tddCfgWrite t d) s = .next ((s.ungate (treeIsl t.val)).tddWrite t.val d.toNat).settle :=
  if_pos (State.answers_one h)

section
variable {t onu : Nat} {d : BitVec 64}

theorem State.termWrite_serial (h : s.treeState t = 1 ∨ s.laserPermit t = false) :
    s.termWrite t onu 0 d = s.modTerm t onu fun x => { x with serial := d } := by
  simp [State.termWrite, h]

theorem State.termWrite_state (h : s.treeState t = 1 ∨ s.laserPermit t = false) (hknown : (s.term t onu).unknown = false) {st : TermState}
    (hst : stateOfCode (bitsOf d.toNat 61 3) = some st) : s.termWrite t onu 1 d =
      (((s.modTerm t onu fun x => { x.ranged d.toNat with state := st, lastCause := bitsOf d.toNat 57 4 }).opChanged t onu).rerangeCheck
        t).termState t onu (s.term t onu).state st := by
  simp [State.termWrite, h, hknown, hst]

theorem State.termWrite_of_refused (hlit : s.treeState t ≠ 1) (hperm : s.laserPermit t = true) (hknown : (s.term t onu).unknown = false) (k : Nat) :
    s.termWrite t onu k d = s.put (TE_RNG_EVENT.cmd_refused t) 1 := by
  simp [State.termWrite, hlit, hperm, hknown, State.set1]

theorem State.termWrite_of_unknown (h : (s.term t onu).unknown = true) :
    s.termWrite t onu 1 d = (s.modTerm t onu fun x => x.ranged d.toNat).rerangeCheck t :=
  if_pos ⟨rfl, h⟩

end

section
variable {t d : Nat}

theorem State.tddWrite_of_ok (h1 : 1 ≤ (TE_TDD_CFG.period_slots t).of d) (h80 : (TE_TDD_CFG.period_slots t).of d ≤ 80)
    (hdiv : 8000 % (TE_TDD_CFG.period_slots t).of d = 0) (s : State) : s.tddWrite t d =
      ((s.put (TE_TDD_CFG.en t) ((TE_TDD_CFG.en t).of d)).put (TE_TDD_CFG.phase_us t) ((TE_TDD_CFG.phase_us t).of d)).put
        (TE_TDD_CFG.period_slots t) ((TE_TDD_CFG.period_slots t).of d) :=
  if_neg (by omega)

theorem State.tddWrite_of_refused
    (h : (TE_TDD_CFG.period_slots t).of d = 0 ∨ 80 < (TE_TDD_CFG.period_slots t).of d ∨ 8000 % (TE_TDD_CFG.period_slots t).of d ≠ 0) (s : State) :
    s.tddWrite t d = ((s.put (TE_TDD_CFG.en t) ((TE_TDD_CFG.en t).of d)).put (TE_TDD_CFG.phase_us t) ((TE_TDD_CFG.phase_us t).of d)).put
      (TE_RNG_EVENT.tdd_refused t) 1 :=
  if_pos h

end

/-- Settles O32: a command is written to TE_TERM_CMD first, and taken or refused by the state that this leaves. -/
theorem terminalCommandsTimersAndRecords : Obligations.TerminalCommandsTimersAndRecords := by
  refine ⟨fun t onu s hrun => ⟨fun hlit h => ?_, fun h => ?_, fun hlit hfree hquar => ⟨?_, ?_⟩, fun h b => ?_, fun hlit h => ?_, fun h => ?_,
      fun hlit => ?_, fun h => ?_⟩,
    fun t onu s => ⟨exec_approveTimeout_of_approve, exec_holdExpiry_of_held,
      fun h => ⟨exec_quarantineExpiry_of_quarantine h, rfl, s.toFree_kek t.val onu.toNat⟩,
      fun k b hruns hlit hlen => ⟨?_, fun hk => ?_, fun hstep => ?_, fun hstep hcorr hacks => ?_, fun hstep hcorr => ?_⟩,
      fun x => ⟨Term.acked_of_last, Term.acked_of_more⟩,
      fun hrun d => ⟨fun hopen => ⟨?_, fun hknown st hst => ?_⟩, fun hlit hperm hknown k => ?_, fun hunknown => ?_⟩,
      fun hrun d => ⟨fun h1 h80 hdiv => ?_, fun h => ?_⟩⟩⟩
  · rw [exec_termApprove_of_runs hrun]; exact next_settle_congr (State.approve_of_ranged hlit h)
  · rw [exec_termApprove_of_runs hrun]; exact next_settle_congr (State.approve_of_refused h)
  · rw [exec_termDeregister_of_runs hrun]; exact next_settle_congr (State.deregister_of_member hlit hfree hquar _)
  · rw [exec_termDeregister_of_runs hrun]; exact next_settle_congr (State.deregister_of_member hlit hfree hquar _)
  · rw [exec_termDeregister_of_runs hrun]; exact next_settle_congr (State.deregister_of_refused h _)
  · rw [exec_termInserviceRanging_of_runs hrun]; exact next_settle_congr (State.inServiceCmd_of_operation hlit h)
  · rw [exec_termInserviceRanging_of_runs hrun]; exact next_settle_congr (State.inServiceCmd_of_refused h)
  · rw [exec_treeReactivate_of_runs hrun, State.reactivateCmd_of_lit hlit]
  · rw [exec_treeReactivate_of_runs hrun, State.reactivateCmd_of_dark h]
  · rw [exec_ploamReceived_of_lit hruns hlit k false hlen, State.ploamIn_of_bad]
  · rw [exec_ploamReceived_of_lit hruns hlit k true hlen, State.ploamIn_of_other hk]; rfl
  · rw [exec_ploamReceived_of_lit hruns hlit _ true hlen, State.ploamIn_acknowledge, State.ackPloam_of_equalise hstep]; rfl
  · rw [exec_ploamReceived_of_lit hruns hlit _ true hlen, State.ploamIn_acknowledge, State.ackPloam_of_outstanding hstep hcorr hacks]
  · rw [exec_ploamReceived_of_lit hruns hlit _ true hlen, State.ploamIn_acknowledge, State.ackPloam_of_firmware hstep hcorr]; rfl
  · exact (exec_terminalRecordWrite_of_runs hrun onu 0 d).trans (by rw [show (0 : Fin 2).val = 0 from rfl, State.termWrite_serial hopen])
  · exact (exec_terminalRecordWrite_of_runs hrun onu 1 d).trans (by rw [show (1 : Fin 2).val = 1 from rfl, State.termWrite_state hopen hknown hst]; rfl)
  · rw [exec_terminalRecordWrite_of_runs hrun, State.termWrite_of_refused hlit hperm hknown]
  · exact (exec_terminalRecordWrite_of_runs hrun onu 1 d).trans (by rw [show (1 : Fin 2).val = 1 from rfl, State.termWrite_of_unknown hunknown]; rfl)
  · rw [exec_tddCfgWrite_of_runs hrun, State.tddWrite_of_ok h1 h80 hdiv]
  · rw [exec_tddCfgWrite_of_runs hrun, State.tddWrite_of_refused h]

end Sys2Proof.Machine
end

section
/-! PROOFS. Grants: allocation commits (R146, R147), reserves, run-ahead and burst profiles (R154, R166, R211), the life of a map (R155, R164,
R175) and Advance Grant Requests (R157 to R161). -/

namespace Sys2Proof.Machine

variable {s : State} {t i : Nat}

/-! ## Allocation commits (R146, R178, R188) -/

section
variable {t : Tree} {i : Fin 512} (h : s.isl 10 < 2) (d : BitVec 64)
include h

theorem exec_allocShadowWrite_of_runs (second : Bool) : exec (.allocShadowWrite t i second d) s =
    .next ((s.ungate 10).modAlloc t.val i.val fun a => if second then { a with s2 := d } else { a with s1 := d }).settle :=
  if_pos (State.answers_one h)

theorem exec_allocCommit_of_runs : exec (.allocCommit t i d) s = .next ((s.ungate 10).commit t.val i.val d).settle :=
  if_pos (State.answers_one h)

end

section
variable {d : BitVec 64}

/-- An entry that is not enabled is no fixed one. -/
theorem State.candidate_fixedOn_of_off (h : aEn d = false) (s : State) : (s.candidate t i d).fixedOn = false := by
  simp [Alloc.fixedOn, State.candidate, h]

theorem State.commit_of_off (h : aEn d = false) : s.commit t i d =
    (let v := (s.both t fun u => u.modAlloc t i fun _ => { u.candidate t i d with age := 0 }).rebuildOpen t
    if (s.alloc t i).fixedOn = true then v.rebuildFallback t else v) := by
  simp only [State.commit, h, State.candidate_fixedOn_of_off h, Bool.false_eq_true, if_false, ne_eq, not_true_eq_false, Bool.or_false]

theorem State.commit_of_taken (h : aEn d = true) (hok : s.commitReason t i (s.candidate t i d) = 0) : s.commit t i d =
    (let v := s.both t fun u => u.modAlloc t i fun _ => u.candidate t i d
    if (s.alloc t i).fixedOn = true ∨ (s.candidate t i d).fixedOn = true then v.rebuildFallback t else v) := by
  simp only [State.commit, h, if_true, hok, ne_eq, not_true_eq_false, if_false, Bool.or_eq_true]

theorem State.commit_of_refused (h : aEn d = true) (hbad : s.commitReason t i (s.candidate t i d) ≠ 0) :
    s.commit t i d = s.allocRefuse t i (s.commitReason t i (s.candidate t i d)) := by
  simp only [State.commit, h, if_true, if_pos hbad]

end

/-- A commit with no reason against it keeps the committed sum within the frame, and its terminal and tree are there. -/
theorem State.commitReason_eq_zero {a : Alloc} (h : s.commitReason t i a = 0) :
    committedOf (mset i a (s.allocsOf t)) (s.ovhMax t) (s.get (GE_TREE_RES.be_res_oct t)) (s.get (GE_TREE_CALRES.cal_res_oct t)) ≤
        s.frameOctets125 t ∧
      ((s.term t (aOnu a.w0)).state = .ranged ∨ (s.term t (aOnu a.w0)).state = .operation) ∧ s.treeState t ≠ 0 := by
  unfold State.commitReason at h
  dsimp only at h
  split at h
  · cases h
  split at h
  · cases h
  rename_i hsum
  split at h
  · cases h
  split at h
  · cases h
  rename_i hterm
  split at h
  · cases h
  split at h
  · cases h
  rename_i htree
  exact ⟨Nat.le_of_not_lt hsum, Decidable.or_iff_not_not_and_not.mpr hterm, htree⟩

theorem State.both_of_alone (h : s.mirrors t = false) (f : State → State) : s.both t f = f s := by
  simp [State.both, h]

theorem State.both_of_mirrored (h : s.mirrors t = true) (f : State → State) : s.both t f = f (s.fromMir (f s.toMir)) := by
  simp [State.both, h]

/-- Settles O33. -/
theorem allocationCommits : Obligations.AllocationCommits := by
  intro t i d s hrun
  refine ⟨exec_allocShadowWrite_of_runs hrun d false, exec_allocShadowWrite_of_runs hrun d true, fun hoff => ?_, fun hen hok => ⟨?_, ?_⟩,
    fun hen hbad => ?_, rfl, fun u f => ⟨fun h => State.both_of_alone h f, fun h => State.both_of_mirrored h f⟩⟩
  · rw [exec_allocCommit_of_runs hrun, State.commit_of_off hoff]
  · rw [exec_allocCommit_of_runs hrun, State.commit_of_taken hen hok]
  · exact State.commitReason_eq_zero hok
  · rw [exec_allocCommit_of_runs hrun, State.commit_of_refused hen hbad]
    rfl

/-! ## Reserves, run-ahead and burst profiles (R147, R154, R166, R211) -/

section
variable {t : Tree} {d : BitVec 32}

theorem exec_treeResWrite_res (h : s.isl 10 < 2) : exec (.treeResWrite t .res d) s = .next ((s.ungate 10).resWrite t.val d.toNat).settle :=
  if_pos (State.answers_one h)

theorem exec_treeResWrite_calres (h : s.isl 10 < 2) :
    exec (.treeResWrite t .calres d) s = .next ((s.ungate 10).calResWrite t.val d.toNat).settle :=
  if_pos (State.answers_one h)

theorem exec_treeResWrite_cfg (h : s.isl 10 < 2) :
    exec (.treeResWrite t .cfg d) s = .next ((s.ungate 10).geCfgWrite t.val d.toNat).settle :=
  if_pos (State.answers_one h)

theorem exec_runAheadWrite_of_runs (h : s.isl 10 < 2) : exec (.runAheadWrite d) s = .next ((s.ungate 10).runAheadWrite d.toNat).settle :=
  if_pos (State.answers_one h)

theorem exec_burstProfileWrite_of_runs (h : s.isl 12 < 2) (p : Fin 4) :
    exec (.burstProfileWrite t p d) s = .next ((s.ungate 12).profWrite t.val p.val d.toNat).settle :=
  if_pos (State.answers_one h)

end

/-- A change of a reserve stands: the new sum fits the frame or is no larger than the old one. -/
theorem State.reserveOk_iff {x y : State} :
    x.reserveOk y t = true ↔ y.committed t ≤ y.frameOctets125 t ∨ y.committed t ≤ x.committed t := by
  simp [State.reserveOk]

/-- The value that a write of be_res_oct asks for, raised to the floor of the tree (R166). -/
def State.beResWritten (s : State) (t d : Nat) : Nat :=
  let v := (GE_TREE_RES.be_res_oct t).of d
  if v = 0 then 0 else max v (s.beResFloor t)

section
variable {d : Nat}

theorem State.resWrite_of_fits (hlt : s.beResWritten t d < 2 ^ 20)
    (hok : s.reserveOk (s.put (GE_TREE_RES.be_res_oct t) (s.beResWritten t d)) t = true) :
    s.resWrite t d = s.put (GE_TREE_RES.be_res_oct t) (s.beResWritten t d) :=
  if_pos ⟨hlt, hok⟩

theorem State.resWrite_of_refused
    (h : ¬(s.beResWritten t d < 2 ^ 20 ∧ s.reserveOk (s.put (GE_TREE_RES.be_res_oct t) (s.beResWritten t d)) t = true)) :
    s.resWrite t d = s.allocRefuse t 0x1FF 2 :=
  if_neg h

theorem State.calResWrite_of_fits (h : s.reserveOk (s.put (GE_TREE_CALRES.cal_res_oct t) ((GE_TREE_CALRES.cal_res_oct t).of d)) t = true) :
    s.calResWrite t d = s.put (GE_TREE_CALRES.cal_res_oct t) ((GE_TREE_CALRES.cal_res_oct t).of d) :=
  if_pos h

theorem State.calResWrite_of_refused (h : ¬s.reserveOk (s.put (GE_TREE_CALRES.cal_res_oct t) ((GE_TREE_CALRES.cal_res_oct t).of d)) t = true) :
    s.calResWrite t d = s.allocRefuse t 0x1FF 2 :=
  if_neg h

/-- The fields of GE_TREE_CFG that no reserve bounds. -/
def State.geCfgFree (s : State) (t d : Nat) : State :=
  (s.put (GE_TREE_CFG.cal_max t) ((GE_TREE_CFG.cal_max t).of d)).put (GE_TREE_CFG.be_min_oct t) ((GE_TREE_CFG.be_min_oct t).of d)

/-- GE_TREE_CFG as a write that is taken leaves it. -/
def State.geCfgAll (s : State) (t d : Nat) : State := (s.geCfgFree t d).put (GE_TREE_CFG.guard_extra t) ((GE_TREE_CFG.guard_extra t).of d)

theorem State.geCfgWrite_of_fits (h : (s.geCfgFree t d).reserveOk (s.geCfgAll t d) t = true) : s.geCfgWrite t d =
    if (s.geCfgFree t d).guardOct t ≠ (s.geCfgAll t d).guardOct t then ((s.geCfgFree t d).ovhRise (s.geCfgAll t d) t).rebuildFallback t
    else (s.geCfgFree t d).ovhRise (s.geCfgAll t d) t :=
  if_pos h

theorem State.geCfgWrite_of_refused (h : ¬(s.geCfgFree t d).reserveOk (s.geCfgAll t d) t = true) :
    s.geCfgWrite t d = (s.geCfgFree t d).allocRefuse t 0x1FF 2 :=
  if_neg h

theorem State.runAheadWrite_of_ok (hdark : s.allDark = true) (h1 : 1 ≤ GE_MAP_CTRL.run_ahead.of d) (h4 : GE_MAP_CTRL.run_ahead.of d ≤ 4) :
    s.runAheadWrite d = s.put GE_MAP_CTRL.run_ahead (GE_MAP_CTRL.run_ahead.of d) :=
  if_pos ⟨hdark, h1, h4⟩

theorem State.runAheadWrite_of_refused (h : s.allDark = false ∨ GE_MAP_CTRL.run_ahead.of d = 0 ∨ 4 < GE_MAP_CTRL.run_ahead.of d) :
    s.runAheadWrite d = s.put GE_EVENT.ra_refused 1 := by
  refine if_neg fun ⟨hdark, h1, h4⟩ => ?_
  rcases h with h | h
  · exact Bool.noConfusion (h.symm.trans hdark)
  · omega

theorem State.profWrite_of_refused {p : Nat} (h : s.profRefused t p d = true) : s.profWrite t p d = s.put BC_EVENT.prof_refused 1 := if_pos h

theorem State.profWrite_of_taken {p : Nat} (h : s.profRefused t p d = false) : s.profWrite t p d =
    (let x := s.putRw d (bcProfFields t p)
    let y := (s.ovhRise x t).p3Check t
    if x.ovhMax t ≠ s.ovhMax t then y.rebuildFallback t else y) :=
  if_neg (by simp [h])

end

/-- Settles O34. -/
theorem reservesRunAheadAndProfiles : Obligations.ReservesRunAheadAndProfiles := by
  intro t d s hrun
  refine ⟨fun hlt hfits => ?_, fun h => ?_, fun hfits => ?_, fun h => ?_, fun hfits => ?_, fun h => ?_, fun hdark h1 h4 => ?_, fun h => ?_,
    fun hbc p => ⟨fun h => ?_, fun h => ?_⟩⟩
  · rw [exec_treeResWrite_res hrun]
    exact next_settle_congr (State.resWrite_of_fits hlt (State.reserveOk_iff.mpr hfits))
  · rw [exec_treeResWrite_res hrun]
    refine next_settle_congr (State.resWrite_of_refused fun ⟨hlt, hok⟩ => ?_)
    exact h.elim (fun hge => absurd hlt (Nat.not_lt.mpr hge)) fun hnot => hnot (State.reserveOk_iff.mp hok)
  · rw [exec_treeResWrite_calres hrun]
    exact next_settle_congr (State.calResWrite_of_fits (State.reserveOk_iff.mpr hfits))
  · rw [exec_treeResWrite_calres hrun]
    exact next_settle_congr (State.calResWrite_of_refused (mt State.reserveOk_iff.mp h))
  · rw [exec_treeResWrite_cfg hrun]
    exact next_settle_congr (State.geCfgWrite_of_fits (State.reserveOk_iff.mpr hfits))
  · rw [exec_treeResWrite_cfg hrun]
    exact next_settle_congr (State.geCfgWrite_of_refused (mt State.reserveOk_iff.mp h))
  · rw [exec_runAheadWrite_of_runs hrun, State.runAheadWrite_of_ok hdark h1 h4]
  · rw [exec_runAheadWrite_of_runs hrun, State.runAheadWrite_of_refused h]
  · rw [exec_burstProfileWrite_of_runs hbc, State.profWrite_of_refused h]
  · rw [exec_burstProfileWrite_of_runs hbc, State.profWrite_of_taken h]

/-! ## The life of a map (R155, R164, R175, R176) -/

section
variable (hup : s.up 10 = true)
include hup

theorem exec_mapBuildBegin_of_due (h : s.ge.begun < s.ge.k + s.runAhead) : exec .mapBuildBegin s = .next s.buildBegin.settle :=
  if_pos (by simp [hup, h])

theorem exec_mapBuildEnd_of_up (us : BitVec 8) (l : List MirrorDiff) : exec (.mapBuildEnd us l) s = .next (s.buildEnd us.toNat l).settle :=
  if_pos hup

theorem exec_mapCutoff_of_up : exec .mapCutoff s = .next { s with ge := { s.ge with maps := s.ge.maps.map fun (m : GMap) =>
    if m.k = s.ge.k + 1 ∧ m.stage = MapStage.built then { m with stage := .honoured } else m } }.settle :=
  if_pos hup

theorem exec_mapSeal_of_up (l : List Tree) : exec (.mapSeal l) s =
    .next ((List.range 32).foldl (State.sealTree (s.ge.k + 1) (l.map (·.val))) s).settle :=
  if_pos hup

theorem exec_grantPolicyDigest_of_on (h : s.get GE_FW_CFG.digest_frames ≠ 0) : exec .grantPolicyDigest s =
    .next (((List.range 32).filter fun t => s.treeState t == 3).foldl State.digest s).newPeriod.settle :=
  if_pos (by simp [hup, State.on_of_ne h])

end

theorem exec_mapBuildBegin_of_begun (h : s.ge.k + s.runAhead ≤ s.ge.begun) : exec .mapBuildBegin s = .next s.settle :=
  if_neg (by simp [Nat.not_lt.mpr h])

theorem State.compareEnd_of_alone {k : Nat} (h : s.mirrors t = false) : s.compareEnd k [] t = s := by
  simp [State.compareEnd, h]

/-- With no tree mirrored and no difference named, the comparison at Build ends finds nothing. -/
theorem State.foldl_compareEnd_of_alone {k : Nat} (h : ∀ t, s.mirrors t = false) (l : List Nat) : l.foldl (State.compareEnd k []) s = s := by
  induction l with
  | nil => rfl
  | cons t l ih => rw [List.foldl_cons, State.compareEnd_of_alone (h t), ih]

/-- Whether a tree is mirrored does not depend on the maps that have been built. -/
theorem State.mapsBuilt_mirrors (s : State) (k us t : Nat) : ((s.mapsBuilt k).put GE_STATUS.build_us us).mirrors t = s.mirrors t := by
  have hget {x : Fld} (hx : x.key ≠ GE_STATUS.build_us.key) : ((s.mapsBuilt k).put GE_STATUS.build_us us).get x = s.get x :=
    State.get_put_other hx _ _
  simp only [State.mirrors, State.mirRuns, State.up, State.isl, State.mirService, hget (x := MGT_ISLAND_STATE.island 11) (by decide),
    hget (x := MIR_STATUS.core0) (by decide), hget (x := MIR_STATUS.core1) (by decide)]
  rfl

theorem State.buildEnd_of_alone (h : ∀ t, s.mirrors t = false) (us : Nat) :
    s.buildEnd us [] = ((s.mapsBuilt s.ge.begun).put GE_STATUS.build_us us).checkBegins true :=
  congrArg (fun u => State.checkBegins u true) (State.foldl_compareEnd_of_alone (fun t => (s.mapsBuilt_mirrors _ us t).trans (h t)) _)

theorem State.checkBegins_forced (s : State) : s.checkBegins true = { s with mir := { s.mir with
    checking := s.mir.checking || s.mir.checkDue || s.mir.forced, checkDue := false, forced := false } } := by
  simp [State.checkBegins]

section
variable {k : Nat} {l : List Nat}

theorem State.sealTree_of_none (h : s.gmap t k = none) : s.sealTree k l t =
    if s.mapTree t then (s.buildLate.inc (GE_BE_IMPAIR_CNT.count t)).callFallback t k else s := by
  simp only [State.sealTree, h]

variable {m : GMap} (hm : s.gmap t k = some m)
include hm

theorem State.sealTree_of_building (h : m.stage = .building) : s.sealTree k l t = s.buildLate.replaceMap t k := by
  simp only [State.sealTree, hm, h, if_true]

variable (hbuilt : m.stage ≠ .building)
include hbuilt

theorem State.sealTree_of_limit (h : s.limitsOk m = false) : s.sealTree k l t =
    ((((s.inc (GE_LIMIT_FAIL_CNT.count t)).inc (GE_FALLBACK_CNT.count t)).set1 GE_EVENT.limit_fail).tlogEvent .ge 2 t).replaceMap t k := by
  simp only [State.sealTree, hm, hbuilt, h, if_false, Bool.not_false, if_true]

theorem State.sealTree_of_replaced (hok : s.limitsOk m = true) (h : m.replace = true ∨ t ∈ l) : s.sealTree k l t = s.replaceMap t k := by
  have hrep : (m.replace || l.contains t) = true := by simpa using h
  simp only [State.sealTree, hm, hbuilt, hok, hrep, if_false, Bool.not_true, Bool.false_eq_true, if_true]

theorem State.sealTree_of_passed (hok : s.limitsOk m = true) (hrep : m.replace = false) (hack : t ∉ l) : s.sealTree k l t = s.sealOne m := by
  have hkeep : (m.replace || l.contains t) = false := by simp [hrep, hack]
  simp only [State.sealTree, hm, hbuilt, hok, hkeep, if_false, Bool.not_true, Bool.false_eq_true]

end

/-- Settles O35. -/
theorem mapLifeAndSeal : Obligations.MapLifeAndSeal := by
  refine ⟨fun s hrun => ?_, fun k t l s => ⟨State.sealTree_of_none, fun m hm => ⟨State.sealTree_of_building hm,
    State.sealTree_of_limit hm, State.sealTree_of_replaced hm, State.sealTree_of_passed hm⟩, rfl, rfl⟩⟩
  have hup := State.up_of_lt hrun
  refine ⟨exec_mapBuildBegin_of_due hup, exec_mapBuildBegin_of_begun, exec_mapBuildEnd_of_up hup, fun halone us => ?_, rfl, s.checkBegins_forced,
    exec_mapCutoff_of_up hup, exec_mapSeal_of_up hup, exec_grantPolicyDigest_of_on hup, rfl⟩
  rw [exec_mapBuildEnd_of_up hup, State.buildEnd_of_alone halone]

/-! ## Advance Grant Requests (R157 to R161, R502) -/

section
variable {f : AgrFrame} {r : List AgrFrame} (hin : s.ge.agrIn = f :: r)
include hin

theorem exec_agrFrame_of_up (hup : s.up 10 = true) : exec .agrFrame s = .next (State.agrFrame { s with ge := { s.ge with agrIn := r } } f).settle := by
  simp only [exec, execAgrFrame, hin, hup, if_true, State.done_eq]

theorem exec_agrFrame_of_failed (h3 : s.isl 10 = 3) :
    exec .agrFrame s = .next (State.agrBad { s with ge := { s.ge with agrIn := r } } 1 0xFF 0).settle := by
  have hdown : s.up 10 = false := State.up_of_ge (by omega)
  simp only [exec, execAgrFrame, hin, hdown, h3, Bool.false_eq_true, if_false, if_true, State.done_eq]

end

/-- The sequence number that an AGR frame carries behind its VLAN tags. -/
def State.agrSeqOf (s : State) (f : AgrFrame) : Nat :=
  fieldAt f.frame (vlanEnd (s.get PR_PARSE_CFG.tpid3) f.frame (f.frame.length / 4) 12 + 2 + 2) 2

theorem State.agrFrame_of_disabled (h : s.get GE_AGR_CFG.en = 0) (f : AgrFrame) : s.agrFrame f = s.agrBad 1 0xFF (s.agrSeqOf f) :=
  if_pos (by simp [State.on_of_eq h])

theorem State.agrFrame_of_other_type (hen : s.get GE_AGR_CFG.en ≠ 0) {f : AgrFrame}
    (h : fieldAt f.frame (vlanEnd (s.get PR_PARSE_CFG.tpid3) f.frame (f.frame.length / 4) 12) 2 ≠ s.get GE_AGR_CFG.ethertype) :
    s.agrFrame f = s.agrBad 2 0xFF (s.agrSeqOf f) :=
  (if_neg (by simp [State.on_of_ne hen])).trans (if_pos (Or.inl h))

theorem exec_agrWindowEnd_of_some {t : Tree} {id : BitVec 16} {r : AgrRec}
    (h : (s.ge.agr.find? fun x => x.tree == t.val && x.reqId == id.toNat) = some r) : exec (.agrWindowEnd t id) s =
      .next (let u := s.both t.val fun v => v.agrGone fun x => x.seq == r.seq
        if r.cut then u else u.inc GE_AGR_CUT_CNT.count).settle := by
  simp only [exec, execAgrWindowEnd, h, State.done_ite]

/-- Settles O36. -/
theorem advanceGrantRequests : Obligations.AdvanceGrantRequests := by
  refine fun s => ⟨fun f r hin => ⟨fun hrun => exec_agrFrame_of_up hin (State.up_of_lt hrun), fun hrun hen => ⟨s.agrSeqOf f, ?_⟩,
    fun hrun hen htype => ⟨s.agrSeqOf f, ?_⟩, exec_agrFrame_of_failed hin⟩, fun t id r => exec_agrWindowEnd_of_some, fun p => rfl⟩
  · rw [exec_agrFrame_of_up hin (State.up_of_lt hrun)]
    exact next_settle_congr (State.agrFrame_of_disabled (s := { s with ge := { s.ge with agrIn := r } }) hen f)
  · rw [exec_agrFrame_of_up hin (State.up_of_lt hrun)]
    exact next_settle_congr (State.agrFrame_of_other_type (s := { s with ge := { s.ge with agrIn := r } }) hen htype)

end Sys2Proof.Machine
end

section
/-! PROOFS. The Mirror's checks and spares (R180, R181, R184), the standby interlock (R193 to R199), the lane Benches (R413 to R418) and the
calibration commands (R214 to R233). -/

namespace Sys2Proof.Machine

variable {s : State}

/-! ## The Mirror -/

section
variable (h : s.mir.checking = true) (g m : Bool)
include h

theorem exec_builtinCheckEnd_of_checking : exec (.builtinCheckEnd g m) s = .next (s.checkEnd g m).settle := if_pos h

theorem exec_builtinCheckTimeout_of_checking : exec (.builtinCheckTimeout g m) s = .next (s.checkEnd g m).settle := if_pos h

end

section
variable {c : Nat} (h : s.mir.loading = some c)
include h

theorem exec_mirrorRetireEnd_of_loading : exec .mirrorRetireEnd s = .next
    ((State.mirState { (s.put (mirCore c) 0).inc MIR_SWAP_CNT.count with mir := { s.mir with loading := none } }).takeMirror fun _ => true).settle := by
  simp only [exec, execMirrorRetireEnd, h, State.done_eq]

theorem exec_mirrorRetireTimeout_of_loading : exec .mirrorRetireTimeout s = .next ((s.mirRetire c).spareLoss 5 c).mirState.settle := by
  simp only [exec, execMirrorRetireTimeout, h, State.done_eq]

end

theorem State.mirSwap_of_both {c o : Nat} (hc : s.mirSpare = some c) (ho : s.mirService = some o) :
    s.mirSwap = ((((s.put (mirCore o) 1).put (mirCore c) 0).inc MIR_SWAP_CNT.count).mirState).takeMirror fun _ => true := by
  simp only [State.mirSwap, hc, ho]

theorem State.mirSwap_of_spare {c : Nat} (hc : s.mirSpare = some c) (ho : s.mirService = none) :
    s.mirSwap = (s.bringInOrDefer 5 (1 - c)).mirState := by
  simp only [State.mirSwap, hc, ho]

theorem exec_mirrorSwapCmd_of_runs (h : s.isl 11 < 2) : exec .mirrorSwapCmd s = .next (s.ungate 11).mirSwap.settle :=
  if_pos (State.answers_one h)

theorem exec_mirrorForceCheck_of_runs (h : s.isl 11 < 2) : exec .mirrorForceCheck s = .next (s.ungate 11).mirForce.settle :=
  if_pos (State.answers_one h)

/-- Settles O37. -/
theorem mirrorChecksAndSpares : Obligations.MirrorChecksAndSpares := by
  refine fun s => ⟨fun h g m => ⟨exec_builtinCheckEnd_of_checking h g m, ?_⟩,
    fun c h => ⟨exec_mirrorRetireEnd_of_loading h, exec_mirrorRetireTimeout_of_loading h⟩, fun hrun c o hc ho => ?_, fun hrun c hc ho => ?_,
    exec_mirrorForceCheck_of_runs⟩
  · rw [exec_builtinCheckTimeout_of_checking h, exec_builtinCheckEnd_of_checking h]
  · rw [exec_mirrorSwapCmd_of_runs hrun, State.mirSwap_of_both hc ho]
  · rw [exec_mirrorSwapCmd_of_runs hrun, State.mirSwap_of_spare hc ho]

/-! ## The interlock -/

/-- The take asserts PROT_HOLD_OUT (R193). -/
def State.protAsserted (s : State) : State := ((s.put MGT_PROT_STATUS.state 1).put MGT_PROT_STATUS.hold_out 1).protStep .assert

/-- A release begins (R195). -/
def State.protReleasing (s : State) : State := { s.put MGT_PROT_STATUS.state 3 with prot := { s.prot with releaseAtTick := true } }

theorem State.protIs_of {x : Nat} (h : s.get MGT_PROT_STATUS.state = x) : s.protIs x = true := by simp [State.protIs, h]

section
variable (hen : s.get MGT_PROT_CFG.en ≠ 0) (hidle : s.get MGT_PROT_STATUS.state = 0)
include hen hidle

theorem State.protTake_of_free (h : s.get MGT_PROT_STATUS.hold_in = 0) : s.protTake = s.protAsserted := by
  simp [State.protTake, State.on_of_ne hen, State.protIs_of hidle, State.on_of_eq h, State.protAsserted]

theorem State.protTake_of_held (h : s.get MGT_PROT_STATUS.hold_in ≠ 0) : s.protTake = s.put MGT_PROT_EVENT.take_refused 1 := by
  simp [State.protTake, State.on_of_ne hen, State.protIs_of hidle, State.on_of_ne h, State.set1]

end

theorem exec_protTakeCmd_eq (s : State) : exec .protTakeCmd s = .next s.protTake.settle := rfl

theorem exec_protAutoTake_of_due (hauto : s.get MGT_PROT_CFG.auto_take ≠ 0) (hstr : s.get SIL_STATUS.state = 2)
    (h : s.get MGT_PROT_STATUS.hold_in = 0) : exec .protAutoTake s = .next s.protTake.settle :=
  if_pos ⟨State.on_of_ne hauto, by simp [State.structured, hstr], by simp [State.on_of_eq h]⟩

theorem exec_protAssertEnd_of_assert (h1 : s.get MGT_PROT_STATUS.state = 1) (hstep : s.prot.step = .assert) :
    exec .protAssertEnd s = .next (s.protStep .confirm).settle :=
  if_pos ⟨State.protIs_of h1, hstep⟩

section
variable (h1 : s.get MGT_PROT_STATUS.state = 1) (hstep : s.prot.step = .confirm)
include h1 hstep

theorem exec_protConfirmEnd_of_free (h : s.get MGT_PROT_STATUS.hold_in = 0) : exec .protConfirmEnd s = .next s.protHold.settle := by
  simp [exec, execProtConfirmEnd, State.protIs_of h1, hstep, State.on_of_eq h, State.done_eq]

theorem exec_protConfirmEnd_of_contest (h : s.get MGT_PROT_STATUS.hold_in ≠ 0) (hprio : s.get MGT_PROT_STATUS.prio = 0) :
    exec .protConfirmEnd s = .next (s.protWithdraw MGT_PROT_EVENT.take_contest).settle := by
  simp [exec, execProtConfirmEnd, State.protIs_of h1, hstep, State.on_of_ne h, State.on_of_eq hprio, State.done_eq]

theorem exec_protConfirmEnd_of_conflict (h : s.get MGT_PROT_STATUS.hold_in ≠ 0) (hprio : s.get MGT_PROT_STATUS.prio ≠ 0) :
    exec .protConfirmEnd s = .next (s.protWithdraw MGT_PROT_EVENT.conflict).settle := by
  simp [exec, execProtConfirmEnd, State.protIs_of h1, hstep, State.on_of_ne h, State.on_of_ne hprio, State.done_eq]

end

theorem exec_switchoverLaserEnd_eq (s : State) : exec .switchoverLaserEnd s = .next (s.laserNext.foldl State.switchLaserEnd s).settle := rfl

/-- The Laser steps that end next are those of the trees with the least on_delay_us (R198). -/
theorem State.mem_laserNext {t : Nat} : t ∈ s.laserNext ↔
    t ∈ s.prot.laser ∧ ∀ u ∈ s.prot.laser, s.get (TE_TX_CFG.on_delay_us t) ≤ s.get (TE_TX_CFG.on_delay_us u) := by
  simp [State.laserNext]

theorem State.switchLaserEnd_of_runs (h : s.isl 10 < 2) (t : Nat) : s.switchLaserEnd t = State.switchBuildTree { s with prot := { s.prot with
    laser := s.prot.laser.erase t, sync := s.prot.sync ++ [t] } } t :=
  if_pos (State.up_of_lt (s := { s with prot := { s.prot with laser := s.prot.laser.erase t, sync := s.prot.sync ++ [t] } }) h)

theorem exec_protReleaseCmd_eq (s : State) : exec .protReleaseCmd s = .next s.protRelease1.settle := rfl

theorem State.protRelease1_of_not_holding (h : s.get MGT_PROT_STATUS.state ≠ 2) : s.protRelease1 = s := if_neg (by simp [State.protIs, h])

section
variable (h2 : s.get MGT_PROT_STATUS.state = 2)
include h2

theorem State.protRelease1_of_holding : s.protRelease1 = s.protReleasing := if_pos (State.protIs_of h2)

omit h2 in
theorem exec_protUplinkRelease_of_down (hms : s.get MGT_PROT_CFG.rel_uplink_ms ≠ 0) (hdown : ∀ p < 4, s.portDown p = true) :
    exec .protUplinkRelease s = .next s.protRelease1.settle :=
  if_pos ⟨hms, by simp [hdown]⟩

/-- A conflict releases at once: TXDIS of the protected trees asserts as PROT_HOLD_OUT falls. -/
theorem State.protOff_of_holding (hout : s.get MGT_PROT_STATUS.hold_out ≠ 0) :
    s.protOff = State.protDark { (s.put MGT_PROT_STATUS.state 0).put MGT_PROT_STATUS.hold_out 0 with prot := {} } := by
  have hlock : s.holdsLock = true := by simp [State.holdsLock, h2]
  simp only [State.protOff, State.on_of_ne hout, hlock, Bool.not_true, Bool.false_eq_true, if_false, if_true]

theorem exec_protConflict_of_holding (hin : s.get MGT_PROT_STATUS.hold_in ≠ 0) :
    exec .protConflict s = .next (s.protOff.put MGT_PROT_EVENT.conflict 1).settle :=
  if_pos ⟨State.protIs_of h2, State.on_of_ne hin⟩

end

theorem exec_protOffDelayEnd_of_delay (h : s.prot.offDelay = true) : exec .protOffDelayEnd s =
    .next { (s.put MGT_PROT_STATUS.hold_out 0).put MGT_PROT_STATUS.state 0 with prot := {} }.settle :=
  if_pos h

theorem exec_protHoldInChange_rise (s : State) : exec (.protHoldInChange true) s = .next (s.put MGT_PROT_STATUS.hold_in 1).settle := by
  simp [exec, execProtHoldInChange, State.done_eq]

theorem exec_protHoldInChange_low (h : s.get MGT_PROT_STATUS.hold_in = 0) :
    exec (.protHoldInChange false) s = .next (s.put MGT_PROT_STATUS.hold_in 0).settle := by
  simp [exec, execProtHoldInChange, State.on_of_eq h, State.done_eq]

theorem exec_protHoldInChange_fall (h : s.get MGT_PROT_STATUS.hold_in ≠ 0) (hlock : s.holdsLock = false) :
    exec (.protHoldInChange false) s = .next (((s.put MGT_PROT_STATUS.hold_in 0).put MGT_PROT_EVENT.peer_lost 1).wakeEvent 1).settle := by
  simp [exec, execProtHoldInChange, State.on_of_ne h, hlock, State.done_eq, State.set1]

/-- Settles O38. -/
theorem interlockSequences : Obligations.InterlockSequences := by
  intro s
  refine ⟨fun hen hidle => ⟨fun hin => ⟨?_, fun hauto hstr => ?_⟩, fun hin => ?_⟩, exec_protAssertEnd_of_assert,
    fun h1 hstep => ⟨exec_protConfirmEnd_of_free h1 hstep, exec_protConfirmEnd_of_contest h1 hstep, exec_protConfirmEnd_of_conflict h1 hstep⟩,
    exec_switchoverLaserEnd_eq s, fun t ht => State.mem_laserNext.mp ht, fun t h => State.switchLaserEnd_of_runs h t,
    fun h2 => ⟨?_, fun hms hdown => ?_, fun hin hout => ?_⟩, fun hnot => ?_, exec_protOffDelayEnd_of_delay, exec_protHoldInChange_rise s,
    exec_protHoldInChange_low, exec_protHoldInChange_fall⟩
  · rw [exec_protTakeCmd_eq, State.protTake_of_free hen hidle hin]; rfl
  · rw [exec_protAutoTake_of_due hauto hstr hin, State.protTake_of_free hen hidle hin]; rfl
  · rw [exec_protTakeCmd_eq, State.protTake_of_held hen hidle hin]
  · rw [exec_protReleaseCmd_eq, State.protRelease1_of_holding h2]; rfl
  · rw [exec_protUplinkRelease_of_down hms hdown, State.protRelease1_of_holding h2]; rfl
  · rw [exec_protConflict_of_holding h2 hin, State.protOff_of_holding h2 hout]
  · rw [exec_protReleaseCmd_eq, State.protRelease1_of_not_holding hnot]

/-! ## The lane Benches -/

section
variable {i d : Nat}

theorem State.benchWrite_of_refused (hreq : (BENCH_CFG.en i).of d = 1) (hoff : s.get (BENCH_CFG.en i) = 0) (hin : s.benchAllowed i = false) :
    s.benchWrite i d = s.put (BENCH_STATUS.refused i) 1 :=
  if_pos ⟨hreq, by simp [State.on_of_eq hoff], by simp [hin]⟩

theorem State.benchWrite_of_taken (h : (BENCH_CFG.en i).of d = 0 ∨ s.benchAllowed i = true) :
    s.benchWrite i d = (s.putRw d (benchFields i)).benchSearch i := by
  refine if_neg fun ⟨hreq, _, hin⟩ => h.elim (fun h0 => ?_) fun hall => ?_
  · exact absurd (h0.symm.trans hreq) (by decide)
  · exact absurd hin (by simp [hall])

theorem State.benchAllowed_of_tree (hge : 32 ≤ i) (hlt : i < 64) : s.benchAllowed i = true ↔ s.treeState (i - 32) ≤ 1 := by
  simp [State.benchAllowed, Nat.not_lt.mpr hge, hlt]

theorem State.benchInject_of_generating (hen : s.get (BENCH_CFG.en i) ≠ 0) (hgen : s.get (BENCH_CFG.gen_en i) ≠ 0) :
    s.benchInject i = s.setBench i { s.benchSt i with inject := true } :=
  if_pos (by simp [State.on_of_ne hen, State.on_of_ne hgen])

theorem State.benchChecks_iff :
    s.benchChecks i = true ↔ s.get (BENCH_CFG.en i) ≠ 0 ∧ s.get (BENCH_CFG.chk_en i) ≠ 0 ∧ s.benchCode i ≠ 0 := by
  simp [State.benchChecks, State.on, and_assoc]

/-- A pattern code that the lane of the Bench does not allow acts as Off (R415). -/
theorem State.benchCode_eq (s : State) (i : Nat) : s.benchCode i = (let c := s.get (BENCH_CFG.pattern i)
    if c = 8 ∨ c = 9 ∨ (i < 32 ∧ 1 ≤ c ∧ c ≤ 3) ∨ (32 ≤ i ∧ 4 ≤ c ∧ c ≤ 7) then c else 0) := by
  unfold State.benchCode
  generalize s.get (BENCH_CFG.pattern i) = c
  by_cases hany : c = 8 ∨ c = 9
  · have hall : c = 8 ∨ c = 9 ∨ (i < 32 ∧ 1 ≤ c ∧ c ≤ 3) ∨ (32 ≤ i ∧ 4 ≤ c ∧ c ≤ 7) := by omega
    simp only [hany, hall, if_true]
  · by_cases hi : i < 32
    · have hcond : (c = 8 ∨ c = 9 ∨ (i < 32 ∧ 1 ≤ c ∧ c ≤ 3) ∨ (32 ≤ i ∧ 4 ≤ c ∧ c ≤ 7)) ↔ (1 ≤ c ∧ c ≤ 3) := by omega
      rw [if_neg hany, if_pos hi]
      exact (if_congr hcond rfl rfl).symm
    · have hcond : (c = 8 ∨ c = 9 ∨ (i < 32 ∧ 1 ≤ c ∧ c ≤ 3) ∨ (32 ≤ i ∧ 4 ≤ c ∧ c ≤ 7)) ↔ (4 ≤ c ∧ c ≤ 7) := by omega
      rw [if_neg hany, if_neg hi]
      exact (if_congr hcond rfl rfl).symm

end

section
variable {i : Fin 69}

theorem exec_benchEnable_eq (i : Fin 69) (d : BitVec 32) (s : State) : exec (.benchEnable i d) s = .next (s.benchWrite i.val d.toNat).settle := rfl

theorem exec_benchInject_eq (i : Fin 69) (s : State) : exec (.benchInject i) s = .next (s.benchInject i.val).settle := rfl

variable (h : s.benchChecks i.val = true)
include h

theorem exec_benchCheckerLock_of_unlocked (hlock : s.get (BENCH_STATUS.locked i.val) = 0) : exec (.benchCheckerLock i) s =
    .next ((s.put (BENCH_STATUS.locked i.val) 1).setBench i.val { s.benchSt i.val with search := false }).settle :=
  if_pos (by simp [h, State.on_of_eq hlock])

theorem exec_benchCheckerLockLoss_of_locked (hlock : s.get (BENCH_STATUS.locked i.val) ≠ 0) : exec (.benchCheckerLockLoss i) s =
    .next (State.setBench (((((s.drawn.incBy (BENCH_BITS.count i.val) (1024 + s.freeVal)).incBy (BENCH_ERR.count i.val) (64 + s.freeVal % 961)).put
      (BENCH_STATUS.locked i.val) 0)).inc (BENCH_STATUS.lock_loss i.val)) i.val { s.benchSt i.val with search := true }).settle :=
  if_pos (by simp [h, State.on_of_ne hlock])

end

/-- Settles O41: how many bits and errors the block of a lost lock held is drawn. -/
theorem benchesRunOutOfService : Obligations.BenchesRunOutOfService := by
  intro i s
  refine ⟨fun d hreq hoff hin => ?_, fun d h => ?_, State.benchAllowed_of_tree, rfl, fun hen hgen => ?_, State.benchChecks_iff,
    s.benchCode_eq i.val, fun h => ⟨exec_benchCheckerLock_of_unlocked h, fun hlock => ⟨1024 + s.freeVal, 64 + s.freeVal % 961, by omega, by omega, by omega,
      exec_benchCheckerLockLoss_of_locked h hlock⟩⟩⟩
  · rw [exec_benchEnable_eq, State.benchWrite_of_refused hreq hoff hin]
  · rw [exec_benchEnable_eq, State.benchWrite_of_taken h]
  · rw [exec_benchInject_eq, State.benchInject_of_generating hen hgen]

/-! ## Calibration commands -/

section
variable {t : Tree} (h : s.isl 12 < 2)
include h

theorem exec_laneTempSample_of_runs (x : BitVec 9) : exec (.laneTempSample t x) s = .next (s.put (BC_TREE_STAT.rx_temp t.val) x.toNat).settle :=
  if_pos (State.up_of_lt h)

theorem exec_termTempReport_of_runs (d : BitVec 32) : exec (.termTempReport d) s = .next ((s.ungate 12).termTempWrite d.toNat).settle :=
  if_pos (State.answers_one h)

theorem exec_calRecalibrate_of_runs (onu : BitVec 8) : exec (.calRecalibrate t onu) s =
    .next (((s.ungate 12).bcCmd 1 t.val onu.toNat).recalibrate t.val onu.toNat).settle :=
  if_pos (State.answers_one h)

theorem exec_calForget_of_runs (onu : BitVec 8) : exec (.calForget t onu) s =
    .next (((s.ungate 12).bcCmd 2 t.val onu.toNat).forgetCal t.val onu.toNat).settle :=
  if_pos (State.answers_one h)

theorem exec_bcDefWrite_of_runs (d : BitVec 32) : exec (.bcDefWrite t d) s = .next ((s.ungate 12).bcDef t.val d.toNat).settle :=
  if_pos (State.answers_one h)

end

section
variable {t onu : Nat}

theorem State.recalibrate_of_operating (h : s.operating t onu = true) : s.recalibrate t onu = (s.makeStale t onu 6).raiseFor t onu :=
  if_neg (by simp [h])

theorem State.recalibrate_of_refused (h : s.operating t onu = false) : s.recalibrate t onu = s.put BC_EVENT.cmd_refused 1 :=
  if_pos (by simp [h])

theorem State.forgetCal_of_operating (h : s.operating t onu = true) : s.forgetCal t onu = (s.uncalibrate t onu).raiseFor t onu :=
  if_neg (by simp [h])

theorem State.forgetCal_of_refused (h : s.operating t onu = false) : s.forgetCal t onu = s.put BC_EVENT.cmd_refused 1 :=
  if_pos (by simp [h])

end

theorem bcDefFields_nodup (t : Nat) : ((bcDefFields t).map fun e => e.1.key).Nodup := by
  simp [bcDefFields, Fld.key, BC_DEF.thresh, BC_DEF.dfe1, BC_DEF.ffe_post, BC_DEF.ffe_pre, BC_DEF.ctle]

theorem State.bcDef_get_eq (s : State) (t d : Nat) (f : Fld) : (s.bcDef t d).get f = (s.putRw d (bcDefFields t)).get f := by
  unfold State.bcDef State.get
  rfl

/-- Each field of BC_DEF_n takes its bits of the word written. -/
theorem State.bcDef_get {t : Nat} (s : State) (d : Nat) {f : Fld} (h : (f, Acc.rw) ∈ bcDefFields t) : (s.bcDef t d).get f = f.of d := by
  rw [State.bcDef_get_eq]
  exact State.putRw_get_self d (bcDefFields_nodup t) h rfl s

theorem State.bcDef_copy (s : State) (t d : Nat) :
    mget t (s.bcDef t d).bc.defCopy = some (BitVec.ofNat 32 (wordOf (bcDefFields t) (s.bcDef t d).get)) := by
  rw [funext (State.bcDef_get_eq s t d)]
  unfold State.bcDef
  exact mget_mset_self _ _ _

/-- Settles O42. -/
theorem calibrationCommands : Obligations.CalibrationCommands := by
  intro t s hrun
  refine ⟨exec_laneTempSample_of_runs hrun, exec_termTempReport_of_runs hrun, fun onu => ⟨fun h => ?_, fun h => ?_, fun h => ?_, fun h => ?_⟩,
    fun d => ⟨_, exec_bcDefWrite_of_runs hrun d, State.bcDef_get _ _ (by simp [bcDefFields]), State.bcDef_get _ _ (by simp [bcDefFields]),
      State.bcDef_get _ _ (by simp [bcDefFields]), State.bcDef_get _ _ (by simp [bcDefFields]), State.bcDef_get _ _ (by simp [bcDefFields]),
      State.bcDef_copy _ _ _⟩⟩
  · rw [exec_calRecalibrate_of_runs hrun]; exact next_settle_congr (State.recalibrate_of_operating h)
  · rw [exec_calRecalibrate_of_runs hrun]; exact next_settle_congr (State.recalibrate_of_refused h)
  · rw [exec_calForget_of_runs hrun]; exact next_settle_congr (State.forgetCal_of_operating h)
  · rw [exec_calForget_of_runs hrun]; exact next_settle_congr (State.forgetCal_of_refused h)

end Sys2Proof.Machine
end

section
/-! PROOFS. Frames in the Prisms: staging, passes, tokens, generations and table entries (R38, R238 to R263, R299); spills, Journal commits,
departures and delivery marks (R303 to R309). -/

namespace Sys2Proof.Machine

variable {s : State}

/-! ## Staging, passes and tokens -/

theorem exec_frameStaged_of_none (h : (s.pr.frames.find? fun x => decide (x.stage = .staging) && !s.stageWaits x) = none) :
    exec .frameStaged s = .next s.settle := by
  simp only [exec, execFrameStaged, h, State.done_eq]

theorem exec_frameStaged_of_some {f : InFrame}
    (h : (s.pr.frames.find? fun x => decide (x.stage = .staging) && !s.stageWaits x) = some f) :
    exec .frameStaged s = .next (s.stageFrame f).settle := by
  simp only [exec, execFrameStaged, h, State.done_eq]

theorem State.stageWaits_iff {f : InFrame} : s.stageWaits f = true ↔ s.isl (13 + f.slice) = 2 := by simp [State.stageWaits]

section
variable {f : InFrame}

theorem State.stageFrame_of_bad_fcs (h : fcsGood f.octets = false) : s.stageFrame f = s.refuseFrame f 9 := if_pos (by simp [h])

variable (hfcs : fcsGood f.octets = true)
include hfcs

theorem State.stageFrame_of_disabled (h : s.get PR_CTRL.en = 0) :
    s.stageFrame f = (s.refuseFrame f 0xA).inc (PR_DISABLED_CNT.count f.slice) := by
  simp [State.stageFrame, hfcs, State.on_of_eq h]

theorem State.stageFrame_of_absent (hen : s.get PR_CTRL.en ≠ 0) (h : 2 ≤ s.isl (13 + f.slice) ∨ s.pwr.ingressOff = true) :
    s.stageFrame f = s.refuseFrame f 0xA := by
  have habs : (!s.up (13 + f.slice) || s.pwr.ingressOff) = true := by
    rcases h with h | h
    · simp [State.up_of_ge h]
    · simp [h]
  simp only [State.stageFrame, hfcs, State.on_of_ne hen, habs, Bool.not_true, Bool.false_eq_true, if_false, if_true]

theorem State.stageFrame_of_taken (hen : s.get PR_CTRL.en ≠ 0) (hrun : s.isl (13 + f.slice) < 2) (hin : s.pwr.ingressOff = false) :
    s.stageFrame f = (s.setFrame { f with stage := .pass, gen := s.on PR_GEN_STATUS.active }).inc (PR_RX_CNT.count f.slice) := by
  simp [State.stageFrame, hfcs, State.on_of_ne hen, State.up_of_lt hrun, hin]

end

theorem exec_prismPassEnd_eq (ids : List Nat) (s : State) : exec (.prismPassEnd ids) s =
    .next (let x := s.passEnds ((List.range 4).flatMap fun k => s.pr.frames.filter fun f =>
        ids.contains f.id && decide (f.stage = .pass) && f.slice == k)
      State.genCheck (x.1.fwdCycleEnd.requestBuffers (x.1.pr.frames.filter fun f => x.2.contains f.id))).settle := rfl

section
variable {sl : Slice} {f : InFrame} (h : (s.pr.frames.find? fun x => decide (x.stage = .token) && x.slice == sl.val) = some f)
include h

theorem exec_recircTokenGrant_of_none_free (hfree : s.tokensFree sl.val = 0) : exec (.recircTokenGrant sl) s = .next s.settle := by
  simp only [exec, execRecircTokenGrant, h, hfree, Nat.lt_irrefl, if_false, State.done_eq]

theorem exec_recircTokenGrant_of_free (hfree : s.tokensFree sl.val ≠ 0) : exec (.recircTokenGrant sl) s = .next (s.tokenGrant f).settle := by
  simp only [exec, execRecircTokenGrant, h, Nat.pos_of_ne_zero hfree, if_true, State.done_eq]

end

/-! ## Generations (R248, R261, R263) -/

/-- Registers of the four slices answer while every slice runs. -/
theorem State.answers_slices (h : ∀ n, 13 ≤ n → n ≤ 16 → s.isl n < 2) : s.answers [13, 14, 15, 16] = true :=
  State.answers_of_mem (n := 13) (by decide) (h 13 (by decide) (by decide))

theorem exec_genSwap_of_answers (h : s.answers [13, 14, 15, 16] = true) :
    exec .genSwap s = .next (s.wakeForWrite [13, 14, 15, 16]).genSwap.settle :=
  if_pos h

theorem State.genSwap_of_draining (h : s.get PR_GEN_STATUS.draining ≠ 0) : s.genSwap = s.put PR_EVENT.swap_refused 1 :=
  if_pos (State.on_of_ne h)

theorem State.genSwap_of_drained (h : s.get PR_GEN_STATUS.draining = 0) : s.genSwap = s.swapGen :=
  if_neg (by simp [State.on_of_eq h])

theorem exec_kprofWrite_of_answers (h : s.answers [13, 14, 15, 16] = true) (k : Fin 8) (hi : BitVec 32) :
    exec (.kprofWrite k hi) s = .next ((s.wakeForWrite [13, 14, 15, 16]).kprofWrite k.val hi.toNat).settle :=
  if_pos h

section
variable {k hi : Nat}

theorem State.kprofWrite_of_draining (h : s.get PR_GEN_STATUS.draining ≠ 0) : s.kprofWrite k hi = s.put PR_EVENT.gen_write_refused 1 :=
  if_pos (State.on_of_ne h)

variable (hdrained : s.get PR_GEN_STATUS.draining = 0)
include hdrained

theorem State.kprofWrite_of_wide (h : 40 < maskCount (hi * 2 ^ 32 + s.pairLoOf k (PR_KPROF.mask k))) :
    s.kprofWrite k hi = s.put PR_EVENT.kprof_refused 1 :=
  (if_neg (by simp [State.on_of_eq hdrained])).trans (if_pos h)

theorem State.kprofWrite_of_ok (h : maskCount (hi * 2 ^ 32 + s.pairLoOf k (PR_KPROF.mask k)) ≤ 40) :
    s.kprofWrite k hi = { s.put (PR_KPROF.mask k) (hi * 2 ^ 32 + s.pairLoOf k (PR_KPROF.mask k)) with
      pr := { s.pr with pairLo := mdel k s.pr.pairLo } } :=
  (if_neg (by simp [State.on_of_eq hdrained])).trans (if_neg (Nat.not_lt.mpr h))

end

theorem exec_genDrainTimeout_of_draining (h : s.get PR_GEN_STATUS.draining ≠ 0) : exec .genDrainTimeout s =
    .next (State.genCheck (s.drainRefuse (s.pr.frames.filter fun f => s.inflightFrame f && decide (f.stage = .token)))).settle :=
  if_pos (State.on_of_ne h)

theorem exec_genDrainTimeout_of_drained (h : s.get PR_GEN_STATUS.draining = 0) : exec .genDrainTimeout s = .next s.settle :=
  if_neg (by simp [State.on_of_eq h])

/-! ## Table entries (R244, R256, R262) -/

section
variable {r : Requester} {a : BitVec 40} {d : BitVec 64} {f o : Nat} {t : PTable} {e w : Nat}
  (hwin : prismWindow a.toNat = some (f, o)) (hent : prismEntry o = some (t, e, w))
include hwin hent

theorem exec_prismEntryCommit_of_word0 (h0 : w = 0) : exec (.prismEntryCommit r a d) s =
    .next ((s.prismSlices f).foldl (fun s sl => (s.ungate (13 + sl)).prismCommit r sl t e d) s).settle := by
  subst h0
  simp only [exec, execPrismEntryCommit, hwin, hent, State.done_eq]

theorem exec_prismStageWrite_of_read_only (h0 : w ≠ 0) (hro : t.ro w = true) : exec (.prismStageWrite r a d) s = .next s.settle := by
  obtain ⟨v, rfl⟩ := Nat.exists_eq_succ_of_ne_zero h0
  simp only [exec, execPrismStageWrite, hwin, hent, hro, if_true, State.done_eq]

theorem exec_prismStageWrite_of_staged (h0 : w ≠ 0) (hro : t.ro w = false) : exec (.prismStageWrite r a d) s =
    .next ((s.prismSlices f).foldl (fun s sl => (s.ungate (13 + sl)).prismStage r sl e w d) s).settle := by
  obtain ⟨v, rfl⟩ := Nat.exists_eq_succ_of_ne_zero h0
  simp only [exec, execPrismStageWrite, hwin, hent, hro, Bool.false_eq_true, if_false, State.done_eq]

end

theorem State.prismSlices_of_one {f : Nat} (hlt : f < 4) (hrun : s.isl (13 + f) < 2) : s.prismSlices f = [f] := by
  simp [State.prismSlices, Nat.ne_of_lt hlt, State.up_of_lt hrun]

theorem State.unstage_congr {u v : State} (h : u.pr = v.pr) (b : Nat) : { u with pr := { u.pr with staged := mdel b u.pr.staged } } =
    ({ u with pr := { v.pr with staged := mdel b v.pr.staged } } : State) := by
  rw [h]

/-- The state that a commit judges: the discard of another entry's words shown, and the staging buffer empty. -/
def State.prismUnstaged (s : State) (r : Requester) (sl : Slice) (e : Nat) : State :=
  let b := 4 * r.val + sl.val
  let s1 := if (stagedFor b e s.pr.staged).2 then s.put PR_EVENT.stage_discard 1 else s
  { s1 with pr := { s.pr with staged := mdel b s.pr.staged } }

theorem State.prismCommit_eq (s : State) (r : Requester) (sl : Slice) (t : PTable) (e : Nat) (d : Word64) :
    s.prismCommit r sl.val t e d = (let st := stagedFor (4 * r.val + sl.val) e s.pr.staged
      let u := s.prismUnstaged r sl e
      if u.commitOk sl.val t (prismBase sl.val + e) d st.1 then u.commitWords (prismBase sl.val + e) d st.1
      else u.put PR_EVENT.gen_write_refused 1) := by
  have hun := State.unstage_congr (u := if (stagedFor (4 * r.val + sl.val) e s.pr.staged).2 then s.put PR_EVENT.stage_discard 1 else s) (v := s)
    (by split <;> rfl) (4 * r.val + sl.val)
  exact congrArg (fun u : State => if u.commitOk sl.val t (prismBase sl.val + e) d (stagedFor (4 * r.val + sl.val) e s.pr.staged).1 then
    u.commitWords (prismBase sl.val + e) d (stagedFor (4 * r.val + sl.val) e s.pr.staged).1 else u.put PR_EVENT.gen_write_refused 1) hun

/-- Settles O43. -/
theorem prismPassesAndEntries : Obligations.PrismPassesAndEntries := by
  refine ⟨fun s => ⟨exec_frameStaged_of_none, fun f => State.stageWaits_iff, fun f hf => ⟨fun h => ?_, fun hfcs h => ?_, fun hfcs hen h => ?_,
      fun hfcs hen hrun hin => ?_⟩, fun ids => exec_prismPassEnd_eq ids s,
      fun sl f hf => ⟨exec_recircTokenGrant_of_none_free hf, exec_recircTokenGrant_of_free hf⟩, fun hall => ?_, exec_genDrainTimeout_of_draining,
      exec_genDrainTimeout_of_drained⟩,
    fun r a d s f o t e w hwin hent => ⟨exec_prismEntryCommit_of_word0 hwin hent, exec_prismStageWrite_of_read_only hwin hent,
      exec_prismStageWrite_of_staged hwin hent, State.prismSlices_of_one⟩,
    fun r sl t e d s => ⟨mget_mdel_self _ _, fun hbad => (s.prismCommit_eq r sl t e d).trans (if_neg ?_),
      fun hok => (s.prismCommit_eq r sl t e d).trans (if_pos hok)⟩⟩
  · rw [exec_frameStaged_of_some hf, State.stageFrame_of_bad_fcs h]
  · rw [exec_frameStaged_of_some hf, State.stageFrame_of_disabled hfcs h]
  · rw [exec_frameStaged_of_some hf, State.stageFrame_of_absent hfcs hen h]
  · rw [exec_frameStaged_of_some hf, State.stageFrame_of_taken hfcs hen hrun hin]
  · have hans := State.answers_slices hall
    refine ⟨fun h => ?_, fun h => ?_, fun k hi => ⟨fun h => ?_, fun hd h => ?_, fun hd h => ?_⟩⟩
    · rw [exec_genSwap_of_answers hans, State.genSwap_of_draining h]
    · rw [exec_genSwap_of_answers hans, State.genSwap_of_drained h]
    · rw [exec_kprofWrite_of_answers hans, State.kprofWrite_of_draining h]
    · rw [exec_kprofWrite_of_answers hans, State.kprofWrite_of_wide hd h]
    · rw [exec_kprofWrite_of_answers hans, State.kprofWrite_of_ok hd h]
  · exact Bool.eq_false_iff.mp hbad

/-! ## Spills and commits (R303, R307) -/

theorem exec_bufferSpill_eq (ids : List Nat) (s : State) : exec (.bufferSpill ids) s =
    .next (let fs := s.pr.frames.filter fun f => ids.contains f.id && decide (f.stage = .spill)
      State.genCheck ((s.incBy SHM_SPILL_CNT.count fs.length).requestBuffers fs)).settle := rfl

section
variable {id j : Nat} {banks : List (Fin 156)} {f : InFrame} (hf : s.frame id = some f) (hj : f.slot = some j)
include hf hj

theorem exec_journalCommitAck_of_closing (h : s.closing = true) : exec (.journalCommitAck ⟨id, banks⟩) s = .next s.settle := by
  simp [exec, execJournalCommitAck, hf, hj, h, State.done_eq]

theorem exec_journalCommitAck_of_open (hstage : f.stage = .commit) (h : s.closing = false) :
    exec (.journalCommitAck ⟨id, banks⟩) s = .next ((s.commitFrame f j).dozeChecks (banks.map (·.val))).settle := by
  simp [exec, execJournalCommitAck, hf, hj, hstage, h, State.done_eq]

end

theorem State.closing_iff : s.closing = true ↔ s.jnl.phaseA = .close ∨ s.jnl.phaseB = .close := by simp [State.closing]

theorem State.commitFrame_of_accepted {f : InFrame} (h : s.enqueueCause f = 0) (j : Nat) : s.commitFrame f j = s.accept f j := by
  simp only [State.commitFrame, h]

theorem State.commitFrame_of_refused {f : InFrame} (h : s.enqueueCause f ≠ 0) (j : Nat) :
    s.commitFrame f j = (s.refuseFrame f (s.enqueueCause f)).enqueueCount f (s.enqueueCause f) := by
  unfold State.commitFrame
  split
  · exact absurd ‹_› h
  · rfl

/-! ## Departures and delivery marks (R309) -/

section
variable {q : Port} {d : Departure} (hd : ((s.departures q.val).find? fun x => x.left == 0) = some d)
include hd

theorem exec_departureComplete_of_port (hq : q.val < 36) : exec (.departureComplete q) s = .next (s.logDone q.val d).settle := by
  simp only [exec, execDepartureComplete, hd, hq, if_true, State.done_eq]

theorem exec_departureComplete_of_ring (hq : 36 ≤ q.val) : exec (.departureComplete q) s = .next (s.ringDone q.val d).settle := by
  simp only [exec, execDepartureComplete, hd, Nat.not_lt.mpr hq, if_false, State.done_eq]

end

/-- A departure that ends changes the completion log of its port and the scheduler's own records, nothing else. -/
theorem State.logDone_eq (s : State) (q : Nat) (d : Departure) : ∃ c, s.logDone q d = { s with
    sch := c, jnl := { s.jnl with logs := mset q (mgetD q [] s.jnl.logs ++ [Done.mk d.slot d.seq]) s.jnl.logs } } := by
  unfold State.logDone
  dsimp only
  split <;> exact ⟨_, rfl⟩

theorem exec_deliveryMark_eq (q : Port) (s : State) : exec (.deliveryMark q) s = .next (s.applyLog q.val).settle := rfl

section
variable {q : Nat} {d : Done} {r : List Done} (h : mgetD q [] s.jnl.logs = d :: r)
include h

theorem State.applyLog_of_up (hup : s.jnlUp = true) :
    s.applyLog q = State.applyDone { s with jnl := { s.jnl with logs := mset q r s.jnl.logs } } q d := by
  simp only [State.applyLog, h, hup, if_true]

theorem State.applyLog_of_down (hdown : s.jnlUp = false) : s.applyLog q = s := by
  simp only [State.applyLog, h, hdown, Bool.false_eq_true, if_false]

end

/-- Settles O45. -/
theorem commitsDeparturesAndDelivery : Obligations.CommitsDeparturesAndDelivery := by
  intro s
  refine ⟨fun ids => exec_bufferSpill_eq ids s, fun id banks f j hf hj hstage => ⟨fun h => ?_, fun hA hB => ⟨fun h => ?_, fun h => ?_⟩⟩,
    fun q d hd => ⟨fun hq => ⟨_, exec_departureComplete_of_port hd hq, ?_⟩, exec_departureComplete_of_ring hd⟩,
    fun q d r h => ⟨fun hin => ?_, fun hA hB => ?_⟩⟩
  · exact exec_journalCommitAck_of_closing hf hj (State.closing_iff.mpr h)
  · have hopen : s.closing = false := by simp [State.closing, hA, hB]
    rw [exec_journalCommitAck_of_open hf hj hstage hopen, State.commitFrame_of_accepted h]
  · have hopen : s.closing = false := by simp [State.closing, hA, hB]
    rw [exec_journalCommitAck_of_open hf hj hstage hopen, State.commitFrame_of_refused h]
  · obtain ⟨c, hc⟩ := s.logDone_eq q.val d
    rw [hc]
    exact ⟨mgetD_mset_self _ _ _ _, rfl, rfl, rfl, rfl⟩
  · have hup : s.jnlUp = true := by simpa [State.jnlUp] using hin
    rw [exec_deliveryMark_eq, State.applyLog_of_up h hup]
  · have hdown : s.jnlUp = false := by simp [State.jnlUp, hA, hB]
    rw [exec_deliveryMark_eq, State.applyLog_of_down h hdown]

end Sys2Proof.Machine
end

section
/-! PROOFS. The return of a Journal copy and lost pseudo-channels (R295 to R297, R312); scheduling entries, port rates and token buckets
(R256, R327, R333 to R336). -/

namespace Sys2Proof.Machine

variable {s : State}

/-- What a field reads depends on the register fields alone. -/
theorem State.get_eq_of_fld {u v : State} (h : v.fld = u.fld) (x : Fld) : v.get x = u.get x := by
  simp only [State.get, h]

/-! ## The parts of a Journal copy -/

@[simp] theorem State.phaseOf_setPhase (s : State) (b : Bool) (p : JnlPhase) : (s.setPhase b p).phaseOf b = p := by
  cases b <;> rfl

@[simp] theorem State.fld_setPhase (s : State) (b : Bool) (p : JnlPhase) : (s.setPhase b p).fld = s.fld := by
  cases b <;> rfl

@[simp] theorem State.dirty_setPhase (s : State) (b : Bool) (p : JnlPhase) : (s.setPhase b p).jnl.dirty = s.jnl.dirty := by
  cases b <;> rfl

@[simp] theorem State.copyRecs_setPhase (s : State) (b c : Bool) (p : JnlPhase) : (s.setPhase b p).copyRecs c = s.copyRecs c := by
  cases b <;> rfl

@[simp] theorem State.fld_copyDirty (s : State) (b : Bool) : (s.copyDirty b).fld = s.fld := by
  cases b <;> rfl

@[simp] theorem State.dirty_copyDirty (s : State) (b : Bool) : (s.copyDirty b).jnl.dirty = [] := rfl

@[simp] theorem State.copyRecs_copyDirty_self (s : State) (b : Bool) :
    (s.copyDirty b).copyRecs b = copyBlocks s.jnl.dirty (s.copyRecs (!b)) (s.copyRecs b) := by
  cases b <;> rfl

@[simp] theorem State.copyRecs_copyDirty_partner (s : State) (b : Bool) : (s.copyDirty b).copyRecs (!b) = s.copyRecs (!b) := by
  cases b <;> rfl

/-- The state of a copy of the Journal as JNL_STATUS shows it. -/
def copyFld (b : Bool) : Fld := if b then JNL_STATUS.copy_b else JNL_STATUS.copy_a

theorem State.inService_iff {b : Bool} : s.inService b = true ↔ s.get (copyFld b) = 0 := by
  simp [State.inService, State.copyState, copyFld]

theorem State.inService_congr {t : State} {b : Bool} (h : t.get (copyFld b) = s.get (copyFld b)) : t.inService b = s.inService b := by
  rw [Bool.eq_iff_iff, State.inService_iff, State.inService_iff, h]

/-! ## The end of Copy and of Close (R312) -/

section
variable {b : Bool} (hin : s.inService (!b) = true)
include hin

theorem exec_jnlCopyEnd_of_copy (h : s.phaseOf b = .copy) : exec (.jnlCopyEnd b) s = .next ((s.copyDirty b).setPhase b .close).settle :=
  if_pos ⟨h, hin⟩

/-- The Journal as Close leaves it: the last dirty blocks copied and the copy in service. -/
def State.closed (s : State) (b : Bool) : State :=
  let s1 := (((s.copyDirty b).setPhase b .idle).put (copyFld b) 0).jnlStatus
  ({ s1 with jnl := { s1.jnl with dirtyOf := none } } : State).set1 JNL_EVENT.resync_done

theorem exec_jnlCloseEnd_of_close (h : s.phaseOf b = .close) : exec (.jnlCloseEnd b) s = .next ((s.closed b).islandBack (jnlIsl b)).settle :=
  if_pos ⟨h, hin⟩

omit hin in
theorem exec_jnlCloseTimeout_of_close (h : s.phaseOf b = .close) : exec (.jnlCloseTimeout b) s = .next (s.setPhase b .copy).settle :=
  if_pos h

end

/-- A reset sequence that ends touches the registers of the island and its state alone. -/
theorem State.get_islandBack {x : Fld} {n : Nat} (hisl : x.key ≠ (MGT_ISLAND_STATE.island n).key) (hdone : x.key ≠ MGT_RST_DONE.done.key)
    (hreq : x.key ≠ MGT_ISLAND_RST.req.key) (s : State) : (s.islandBack n).get x = s.get x := by
  unfold State.islandBack
  rw [State.get_modIsl, State.clrBit, State.get_put_other hreq, State.setBit, State.get_put_other hdone, State.get_put_other hisl]

theorem State.isl_islandBack {n : Nat} (hdone : (MGT_ISLAND_STATE.island n).key ≠ MGT_RST_DONE.done.key)
    (hreq : (MGT_ISLAND_STATE.island n).key ≠ MGT_ISLAND_RST.req.key) (s : State) : (s.islandBack n).isl n = 0 := by
  unfold State.islandBack State.isl
  rw [State.get_modIsl, State.clrBit, State.get_put_other hreq, State.setBit, State.get_put_other hdone, State.get_put_self, Nat.zero_mod]

section
variable {b : Bool}

/-- With its partner in service, a copy that has closed leaves both in service. -/
theorem State.inService_copied (hin : s.inService (!b) = true) (c : Bool) :
    (((s.copyDirty b).setPhase b .idle).put (copyFld b) 0).inService c = true := by
  rw [State.inService_iff]
  by_cases hc : c = b
  · subst hc
    rw [State.get_put_self, Nat.zero_mod]
  · have hpartner : c = !b := by cases b <;> cases c <;> simp_all
    subst hpartner
    rw [State.get_put_other (by cases b <;> decide)]
    simpa [State.get] using State.inService_iff.mp hin

theorem State.jnlStatus_of_both (h : ∀ c, s.inService c = true) : s.jnlStatus = (s.put JNL_STATUS.single 0).put JNL_STATUS.none 0 := by
  simp [State.jnlStatus, State.jnlUp, h]

variable (hin : s.inService (!b) = true)
include hin

theorem State.closed_get {x : Fld} (hdone : x.key ≠ JNL_EVENT.resync_done.key) : (s.closed b).get x =
    (((((s.copyDirty b).setPhase b .idle).put (copyFld b) 0).put JNL_STATUS.single 0).put JNL_STATUS.none 0).get x := by
  unfold State.closed State.set1
  rw [State.get_put_other hdone, State.jnlStatus_of_both (State.inService_copied hin)]
  rfl

theorem State.closed_single : (s.closed b).get JNL_STATUS.single = 0 := by
  rw [State.closed_get hin (by decide), State.get_put_other (by decide), State.get_put_self, Nat.zero_mod]

theorem State.closed_none : (s.closed b).get JNL_STATUS.none = 0 := by
  rw [State.closed_get hin (by decide), State.get_put_self, Nat.zero_mod]

omit hin in
theorem State.closed_resync_done (s : State) (b : Bool) : (s.closed b).get JNL_EVENT.resync_done = 1 := by
  unfold State.closed State.set1
  rw [State.get_put_self]
  rfl

theorem State.closed_inService (c : Bool) : (s.closed b).inService c = true := by
  have hcopied := State.inService_copied hin c
  rw [State.inService_iff] at hcopied ⊢
  rw [State.closed_get hin (by cases c <;> decide), State.get_put_other (by cases c <;> decide), State.get_put_other (by cases c <;> decide), hcopied]

omit hin in
theorem State.closed_phaseOf (s : State) (b : Bool) : (s.closed b).phaseOf b = .idle := by
  cases b <;> rfl

omit hin in
theorem State.closed_copyRecs (s : State) (b : Bool) :
    (s.closed b).copyRecs b = copyBlocks s.jnl.dirty (s.copyRecs (!b)) (s.copyRecs b) := by
  cases b <;> rfl

end

/-- The registers that a Journal copy's return writes are none of those that the end of its reset writes. -/
theorem State.get_islandBack_jnl {x : Fld} (haddr : 0x60008000 ≤ x.addr) (hlo : x.lo < 32) (b : Bool) (s : State) :
    (s.islandBack (jnlIsl b)).get x = s.get x :=
  State.get_islandBack (Fld.key_ne_of_addr_ne hlo (by cases b <;> decide) (by cases b <;> simp [jnlIsl, MGT_ISLAND_STATE.island] <;> omega))
    (Fld.key_ne_of_addr_ne hlo (by decide) (by simp [MGT_RST_DONE.done]; omega))
    (Fld.key_ne_of_addr_ne hlo (by decide) (by simp [MGT_ISLAND_RST.req]; omega)) s

/-! ## Lost pseudo-channels (R295) -/

theorem exec_pcDeclaredFailed_eq (p : Fin 128) (s : State) : exec (.pcDeclaredFailed p) s = .next (s.pcFailed p.val).settle := rfl

theorem State.pcFailed_of_failed {p : Nat} (h : bit1 (s.get (SHM_PC_FAILED.map (p / 32))) (p % 32) = true) : s.pcFailed p = s := if_pos h

/-- The registers that show a failed pseudo-channel. -/
def State.pcShown (s : State) (p : Nat) : State :=
  ((s.setBit (SHM_PC_FAILED.map (p / 32)) (p % 32)).put (REL_WEAR.state (96 + p)) 2).set1 SHM_EVENT.pc_failed

/-- The registers as Degrade begins. -/
def State.degradeRegs (s : State) (p : Nat) : State :=
  ((s.pcShown p).put SHM_STATUS.rebuild_active 1).put SHM_STATUS.pcs_failed ((s.pcShown p).get SHM_STATUS.pcs_failed + 1)

/-- What Degrade shows and counts as it begins. -/
def State.degrade (s : State) (p : Nat) : State :=
  { s.degradeRegs p with shm := { (s.degradeRegs p).shm with rebuilding := (s.degradeRegs p).shm.rebuilding ++ [p] } }

theorem State.degrade_get (s : State) (p : Nat) (x : Fld) : (s.degrade p).get x = (s.degradeRegs p).get x := by
  unfold State.degrade State.get
  rfl

theorem State.pcFailed_of_spares {p : Nat} (h : bit1 (s.get (SHM_PC_FAILED.map (p / 32))) (p % 32) = false)
    (hspare : (s.dataSegs p).filter (fun e => s.setSpent e.1) = []) : s.pcFailed p = s.degrade p := by
  simp only [State.pcFailed, h, Bool.false_eq_true, if_false, hspare, List.isEmpty_nil, if_true]
  rfl

section
variable {p : Nat} (hp : p < 128)

theorem pcFailed_map_key_ne {p : Nat} (hp : p < 128) {x : Fld} (hlo : x.lo < 32) (haddr : x.addr < 0x60000080 ∨ 0x60000090 ≤ x.addr) :
    (SHM_PC_FAILED.map (p / 32)).key ≠ x.key :=
  Fld.key_ne_of_addr_ne (by simp [SHM_PC_FAILED.map]) hlo (by simp only [SHM_PC_FAILED.map]; omega)

theorem wear_key_ne (p : Nat) {x : Fld} (hlo : x.lo < 32) (haddr : x.addr < 0xD0002000) : x.key ≠ (REL_WEAR.state (96 + p)).key :=
  Fld.key_ne_of_addr_ne hlo (by simp [REL_WEAR.state]) (by simp only [REL_WEAR.state]; omega)

theorem bit1_or_shift {v b : Nat} (hb : b < 32) : bit1 ((v ||| 1 <<< b) % 2 ^ 32) b = true := by
  rw [bit1_eq_testBit, Nat.testBit_mod_two_pow, Nat.testBit_or, Nat.one_shiftLeft, Nat.testBit_two_pow_self]
  simp [hb]

include hp

theorem State.degrade_map (s : State) : bit1 ((s.degrade p).get (SHM_PC_FAILED.map (p / 32))) (p % 32) = true := by
  have hget : (s.degrade p).get (SHM_PC_FAILED.map (p / 32)) = (s.get (SHM_PC_FAILED.map (p / 32)) ||| 1 <<< (p % 32)) % 2 ^ 32 := by
    rw [State.degrade_get, State.degradeRegs, State.get_put_other (pcFailed_map_key_ne hp (by decide) (by decide)),
      State.get_put_other (pcFailed_map_key_ne hp (by decide) (by decide)), State.pcShown, State.set1,
      State.get_put_other (pcFailed_map_key_ne hp (by decide) (by decide)),
      State.get_put_other (wear_key_ne p (by simp [SHM_PC_FAILED.map]) (by simp only [SHM_PC_FAILED.map]; omega)), State.setBit, State.get_put_self]
    rfl
  rw [hget]
  exact bit1_or_shift (Nat.mod_lt _ (by decide))

omit hp in
theorem State.degrade_pc_failed (s : State) (p : Nat) : (s.degrade p).get SHM_EVENT.pc_failed = 1 := by
  rw [State.degrade_get, State.degradeRegs, State.get_put_other (by decide), State.get_put_other (by decide), State.pcShown, State.set1,
    State.get_put_self]
  rfl

omit hp in
theorem State.degrade_rebuild_active (s : State) (p : Nat) : (s.degrade p).get SHM_STATUS.rebuild_active = 1 := by
  rw [State.degrade_get, State.degradeRegs, State.get_put_other (by decide), State.get_put_self]
  rfl

theorem State.degrade_pcs_failed (s : State) : (s.degrade p).get SHM_STATUS.pcs_failed = (s.get SHM_STATUS.pcs_failed + 1) % 512 := by
  rw [State.degrade_get, State.degradeRegs, State.get_put_self, State.pcShown, State.set1, State.get_put_other (by decide), State.get_put_other (wear_key_ne p (by decide) (by decide)), State.setBit,
    State.get_put_other (pcFailed_map_key_ne hp (by decide) (by decide)).symm]
  rfl

omit hp in
theorem State.degrade_shm (s : State) (p : Nat) : (s.degrade p).shm.rebuilding = s.shm.rebuilding ++ [p] := rfl

end

/-- The sets of a pseudo-channel are spent in the registers alone. -/
theorem State.spendSet_eq_fld (s : State) (v : Nat) : ∃ f, s.spendSet v = { s with fld := f } := by
  unfold State.spendSet
  split
  · exact ⟨s.fld, rfl⟩
  · exact ⟨_, rfl⟩

theorem State.foldl_spendSet_eq_fld (l : List Nat) (s : State) : ∃ f, l.foldl State.spendSet s = { s with fld := f } := by
  induction l generalizing s with
  | nil => exact ⟨s.fld, rfl⟩
  | cons v l ih =>
    obtain ⟨f, hf⟩ := s.spendSet_eq_fld v
    obtain ⟨g, hg⟩ := ih { s with fld := f }
    exact ⟨g, by rw [List.foldl_cons, hf, hg]⟩

section
variable {p : Nat} {r : List Nat} (h : s.shm.rebuilding = p :: r)
include h

/-- The end of a Rebuild: the sets are spent, the segments repointed, and the next Rebuild begins. -/
theorem exec_pcRebuildEnd_of_rebuilding (hstep : s.sil.step ≠ .apply) : ∃ f m, m.rebuilding = r ∧
    exec .pcRebuildEnd s = .next ((((({ s with fld := f, shm := m } : State).put SHM_EVENT.rebuild_done 1).put SHM_STATUS.rebuild_pct 0)).put
      SHM_STATUS.rebuild_active (if r.isEmpty then 0 else 1)).settle := by
  obtain ⟨f, hf⟩ := State.foldl_spendSet_eq_fld (s.setsOf p) s
  refine ⟨f, { s.shm with rebuilding := r, repointed := s.shm.repointed ++ (s.dataSegs p).filter fun e => !s.setSpent e.1 }, rfl, ?_⟩
  simp only [exec, execPcRebuildEnd, h, hstep, if_false, hf, State.done_eq, State.set1]

theorem exec_pcRebuildEnd_of_apply (hstep : s.sil.step = .apply) : exec .pcRebuildEnd s = .next s.settle := by
  simp only [exec, execPcRebuildEnd, h, hstep, if_true, State.done_eq]

theorem exec_pcRebuildTimeout_of_rebuilding : exec .pcRebuildTimeout s = .next (s.put SHM_EVENT.rebuild_late 1).settle :=
  if_neg (by simp [h])

end

section
variable (h : s.shm.rebuilding = [])
include h

theorem exec_pcRebuildEnd_of_none : exec .pcRebuildEnd s = .next s.settle := by
  simp only [exec, execPcRebuildEnd, h, State.done_eq]

theorem exec_pcRebuildTimeout_of_none : exec .pcRebuildTimeout s = .next s.settle := if_pos (by simp [h])

end

/-! ## Capacity cuts (R297) -/

section
variable {x sh n : Nat} {r : List (Nat × Nat × Nat)} (h : s.shm.cuts = (x, sh, n) :: r)
include h

theorem exec_capacityCut_of_busy (hbusy : ∃ i ∈ s.busyBufs sh, n ≤ i) : exec .capacityCut s = .next s.settle := by
  have hany : ((s.busyBufs sh).any fun i => decide (n ≤ i)) = true := by simpa using hbusy
  simp only [exec, execCapacityCut, h, hany, if_true, State.done_eq]

theorem exec_capacityCut_of_free (hfree : ∀ i ∈ s.busyBufs sh, i < n) :
    exec .capacityCut s = .next (State.repoint { s with shm := { s.shm with cuts := r } } x).settle := by
  have hany : ((s.busyBufs sh).any fun i => decide (n ≤ i)) = false := by simpa using hfree
  simp only [exec, execCapacityCut, h, hany, Bool.false_eq_true, if_false, State.done_eq]

end

theorem State.repoint_capacity_cut (s : State) (k : Nat) : (s.repoint k).get SHM_EVENT.capacity_cut = 1 :=
  (State.get_eq_of_fld (u := s.put SHM_EVENT.capacity_cut 1) rfl _).trans (State.get_put_self _ _ _)

theorem State.repoint_dataPc (s : State) (k : Nat) : (s.repoint k).dataPc (k / 8) (k % 8) = s.freeVal % 128 := by
  have hmap : mget (k / 8 * 8 + k % 8) (s.repoint k).shm.relocated = some (s.freeVal % 128) := by
    rw [Nat.div_add_mod']
    exact mget_mset_self _ _ _
  simp only [State.dataPc, hmap]

/-- Settles O46. -/
theorem journalCopiesAndLostPseudoChannels : Obligations.JournalCopiesAndLostPseudoChannels := by
  refine ⟨fun b s hin => ⟨fun h => ⟨_, exec_jnlCopyEnd_of_copy hin h, ?_⟩, fun h => ⟨⟨_, exec_jnlCloseEnd_of_close hin h, ?_⟩,
      exec_jnlCloseTimeout_of_close h⟩⟩,
    fun s => ⟨fun p h => ⟨exec_pcDeclaredFailed_eq p s, fun hspare => ⟨_, State.pcFailed_of_spares h hspare, State.degrade_map p.isLt s,
        s.degrade_pc_failed p.val, s.degrade_rebuild_active p.val, State.degrade_pcs_failed p.isLt s, s.degrade_shm p.val, rfl⟩⟩,
      fun p h => ?_, fun p r h => ⟨fun hstep => ?_, exec_pcRebuildEnd_of_apply h, exec_pcRebuildTimeout_of_rebuilding h⟩,
      fun h => ⟨exec_pcRebuildEnd_of_none h, exec_pcRebuildTimeout_of_none h⟩,
      fun x sh n r h => ⟨exec_capacityCut_of_busy h, fun hfree => ⟨_, exec_capacityCut_of_free h hfree, rfl, State.repoint_capacity_cut _ x, rfl,
        State.repoint_dataPc _ x, rfl⟩⟩⟩⟩
  · simp
  · refine ⟨s.closed_phaseOf b, ?_, ?_, ?_, ?_, ?_, State.isl_islandBack (by cases b <;> decide) (by cases b <;> decide) _, s.closed_copyRecs b⟩
    · rw [State.inService_congr (State.get_islandBack_jnl (by cases b <;> decide) (by cases b <;> decide) b _), State.closed_inService hin]
    · rw [State.inService_congr (State.get_islandBack_jnl (by cases b <;> decide) (by cases b <;> decide) b _), State.closed_inService hin]
    · rw [State.get_islandBack_jnl (by decide) (by decide), State.closed_single hin]
    · rw [State.get_islandBack_jnl (by decide) (by decide), State.closed_none hin]
    · rw [State.get_islandBack_jnl (by decide) (by decide), State.closed_resync_done]
  · rw [exec_pcDeclaredFailed_eq, State.pcFailed_of_failed h]
  · obtain ⟨f, m, hm, hexec⟩ := exec_pcRebuildEnd_of_rebuilding h hstep
    refine ⟨_, hexec, hm, ?_, ?_, ?_⟩
    · rw [State.get_put_other (by decide), State.get_put_other (by decide), State.get_put_self]
      rfl
    · rw [State.get_put_other (by decide), State.get_put_self, Nat.zero_mod]
    · rw [State.get_put_self]
      split <;> rfl

/-! ## Scheduling entries, rates and bursts (R256, R327) -/

theorem State.answers_sliceIsls (h : s.isl 13 < 2) : s.answers sliceIsls = true := State.answers_of_mem (n := 13) (by decide) h

section
variable {r : Requester} {a : BitVec 40} {d : BitVec 64} {n : Bool} {e w : Nat} (hrun : s.isl 13 < 2) (hwin : schedWindow a.toNat = some (n, e, w))
include hrun hwin

theorem exec_schEntryCommit_of_word0 (h0 : w = 0) :
    exec (.schEntryCommit r a d) s = .next ((s.wakeForWrite [13, 14, 15, 16]).schCommit r n e d).settle := by
  subst h0
  simp only [exec, execSchEntryCommit, State.answers_sliceIsls hrun, Bool.not_true, Bool.false_eq_true, if_false, hwin, State.done_eq]
  rfl

theorem exec_schStageWrite_of_word1 (h1 : w = 1) :
    exec (.schStageWrite r a d) s = .next ((s.wakeForWrite [13, 14, 15, 16]).schStage r n e 1 d).settle := by
  subst h1
  simp only [exec, execSchStageWrite, State.answers_sliceIsls hrun, Bool.not_true, Bool.false_eq_true, if_false, hwin, State.done_eq]
  rfl

theorem exec_schStageWrite_of_read_only (h : 1 < w) : exec (.schStageWrite r a d) s = .next s.settle := by
  simp only [exec, execSchStageWrite, State.answers_sliceIsls hrun, Bool.not_true, Bool.false_eq_true, if_false, hwin]
  split
  · rename_i heq
    simp only [Option.some.injEq, Prod.mk.injEq] at heq
    omega
  · rfl

end

theorem exec_schPortWrite_of_runs (hrun : s.isl 13 < 2) (q : Port) (burst : Bool) (d : BitVec 32) :
    exec (.schPortWrite q burst d) s = .next ((s.wakeForWrite [13, 14, 15, 16]).schPortWrite q.val burst d.toNat).settle :=
  if_pos (State.answers_sliceIsls hrun)

section
variable {q d : Nat}

theorem State.schPortWrite_burst_of_refused (h : (SCH_PORT_BURST.burst_oct q).of d < 64 ∨ 16777216 < (SCH_PORT_BURST.burst_oct q).of d) :
    s.schPortWrite q true d = s.schRefuse 3 q 4 :=
  if_pos h

theorem State.schPortWrite_burst_of_ok (h64 : 64 ≤ (SCH_PORT_BURST.burst_oct q).of d) (hmax : (SCH_PORT_BURST.burst_oct q).of d ≤ 16777216) :
    s.schPortWrite q true d = s.put (SCH_PORT_BURST.burst_oct q) ((SCH_PORT_BURST.burst_oct q).of d) :=
  if_neg (not_or.mpr ⟨Nat.not_lt.mpr h64, Nat.not_lt.mpr hmax⟩)

theorem State.schPortWrite_rate_of_refused (h : 800000000 < (SCH_PORT_RATE.rate_kbps q).of d) : s.schPortWrite q false d = s.schRefuse 3 q 4 :=
  if_pos h

theorem State.schPortWrite_rate_of_ok (h : (SCH_PORT_RATE.rate_kbps q).of d ≤ 800000000) : s.schPortWrite q false d =
    if s.get (SCH_PORT_RATE.rate_kbps q) = 0 ∧ (SCH_PORT_RATE.rate_kbps q).of d ≠ 0 then
      (s.put (SCH_PORT_RATE.rate_kbps q) ((SCH_PORT_RATE.rate_kbps q).of d)).enableBucket (portBucket q)
    else s.put (SCH_PORT_RATE.rate_kbps q) ((SCH_PORT_RATE.rate_kbps q).of d) :=
  if_neg (Nat.not_lt.mpr h)

end

/-! ## Token buckets (R333 to R335) -/

theorem exec_refillTick_of_running (h : s.tu.running = true) : exec .refillTick s = .next ((s.sch.buckets.map (·.1)).foldl State.refill s).settle :=
  if_pos h

@[simp] theorem State.bucket_setBucket (s : State) (k : Nat) (b : Bucket) : (s.setBucket k b).bucket k = b := mgetD_mset_self _ _ _ _

section
variable {k : Nat} (hisl : s.isl (s.bucketIsl k) ≠ 2)
include hisl

theorem State.refill_of_no_rate (h : (s.bucketCfg k).1 = 0) : ((s.refill k).bucket k).bal = 0 := by
  simp [State.refill, hisl, h]

/-- A bucket that does not idle empty gains its rate and is capped at its burst. -/
theorem State.refill_of_rate (h : (s.bucketCfg k).1 ≠ 0) (hidle : (s.bucketCfg k).2.2 = false ∨ s.bucketEmpty k = false) :
    ((s.refill k).bucket k).bal = min ((s.bucket k).bal + (s.bucketCfg k).1 * 128) ((s.bucketCfg k).2.1 * 1000000) := by
  rcases hidle with hidle | hidle <;> simp [State.refill, hisl, h, hidle]

end

/-- Settles O47. -/
theorem schedulingEntriesAndBuckets : Obligations.SchedulingEntriesAndBuckets := by
  refine ⟨fun r a d s n e w hrun hwin => ⟨exec_schEntryCommit_of_word0 hrun hwin, exec_schStageWrite_of_word1 hrun hwin,
      exec_schStageWrite_of_read_only hrun hwin⟩,
    fun q d s hrun => ⟨fun h => ?_, fun h64 hmax => ?_, fun h => ?_, fun h => ?_⟩, fun s => exec_refillTick_of_running,
    fun k s hisl => ⟨State.refill_of_no_rate hisl, State.refill_of_rate hisl⟩⟩
  · rw [exec_schPortWrite_of_runs hrun, State.schPortWrite_burst_of_refused h]; rfl
  · rw [exec_schPortWrite_of_runs hrun, State.schPortWrite_burst_of_ok h64 hmax]
  · rw [exec_schPortWrite_of_runs hrun, State.schPortWrite_rate_of_refused h]; rfl
  · rw [exec_schPortWrite_of_runs hrun, State.schPortWrite_rate_of_ok h]

end Sys2Proof.Machine
end

section
/-! PROOFS. Key Vault commands, the entropy source and flow cipher entries (R360, R363, R365, R373). -/

namespace Sys2Proof.Machine

variable {s : State}

/-! ## Runs of puts -/

/-- What every step of a fold leaves, the fold leaves. -/
theorem foldl_keeps {α β γ : Type} (p : α → γ) {f : α → β → α} {l : List β} (h : ∀ a, ∀ b ∈ l, p (f a b) = p a) (a : α) :
    p (l.foldl f a) = p a := by
  induction l generalizing a with
  | nil => rfl
  | cons b l ih => rw [List.foldl_cons, ih fun a c hc => h a c (.tail _ hc), h a b (.head _)]

/-- A field whose key none of the fields put has reads as before. -/
theorem State.get_foldl_put_other {g : Nat → Fld} {x : Fld} {v : Nat → Nat} {l : List Nat} (h : ∀ k ∈ l, x.key ≠ (g k).key) (s : State) :
    (l.foldl (fun s k => s.put (g k) (v k)) s).get x = s.get x :=
  foldl_keeps (fun u => State.get u x) (fun u k hk => State.get_put_other (h k hk) u (v k)) s

/-- Each field of a run of puts to different fields reads what was put there. -/
theorem State.get_foldl_put_self {g : Nat → Fld} {v : Nat → Nat} {l : List Nat} {k : Nat} (hinj : ∀ j ∈ l, j ≠ k → (g k).key ≠ (g j).key)
    (hk : k ∈ l) (s : State) : (l.foldl (fun s k => s.put (g k) (v k)) s).get (g k) = v k % 2 ^ (g k).width := by
  induction l generalizing s with
  | nil => cases hk
  | cons j l ih =>
    rw [List.foldl_cons]
    by_cases hmem : k ∈ l
    · exact ih (fun i hi => hinj i (.tail _ hi)) hmem _
    · obtain rfl : k = j := by simpa [hmem] using hk
      rw [State.get_foldl_put_other fun i hi => hinj i (.tail _ hi) fun he => hmem (he ▸ hi), State.get_put_self]

@[simp] theorem State.kv_foldl_put {g : Nat → Fld} {v : Nat → Nat} (l : List Nat) (s : State) :
    (l.foldl (fun s k => s.put (g k) (v k)) s).kv = s.kv :=
  foldl_keeps State.kv (f := fun u k => State.put u (g k) (v k)) (fun _ _ _ => rfl) s

/-! ## The start of a Key Vault command -/

/-- The registers as the command at the head of the queue finds them: busy, its output window cleared. -/
def State.kvBusy (s : State) (c : KvCmd) : State :=
  (List.range 4).foldl (fun s k => s.put (KV_OUT.out c.req k) 0) (s.put KV_STATUS.busy 1)

theorem State.get_kvBusy_busy (s : State) (c : KvCmd) : (s.kvBusy c).get KV_STATUS.busy = 1 := by
  rw [State.kvBusy, State.get_foldl_put_other fun k _ => ?_, State.get_put_self]
  · rfl
  · exact Fld.key_ne_of_addr_ne (by simp [KV_STATUS.busy]) (by simp [KV_OUT.out]) (by simp [KV_STATUS.busy, KV_OUT.out]; omega)

section
variable {c : KvCmd} {r : List KvCmd} (hs : s.kv.started = false)

theorem State.kvStart_of_started (hs : s.kv.started = true) : s.kvStart = s := if_pos hs

include hs

theorem State.kvStart_of_empty (hc : s.kv.cmds = []) : s.kvStart = s.put KV_STATUS.busy 0 := by
  simp [State.kvStart, hs, hc]

theorem State.kvStart_fld_of_waiting (hc : s.kv.cmds = c :: r) : s.kvStart.fld = (s.kvBusy c).fld := by
  simp only [State.kvStart, hs, hc, Bool.false_eq_true, if_false]
  split <;> rfl

theorem State.kvStart_started_of_waiting (hc : s.kv.cmds = c :: r) : s.kvStart.kv.started = true := by
  simp only [State.kvStart, hs, hc, Bool.false_eq_true, if_false]
  split <;> rfl

end

/-- The start of a command takes none off the queue. -/
theorem State.kvStart_cmds (s : State) : s.kvStart.kv.cmds = s.kv.cmds := by
  cases hs : s.kv.started with
  | true => rw [State.kvStart_of_started hs]
  | false =>
    cases hc : s.kv.cmds with
    | nil => rw [State.kvStart_of_empty hs hc, State.put_kv, hc]
    | cons c r =>
      have hkv : ((List.range 4).foldl (fun s k => s.put (KV_OUT.out c.req k) 0) (s.put KV_STATUS.busy 1)).kv = s.kv := by
        rw [State.kv_foldl_put, State.put_kv]
      simp only [State.kvStart, hs, hc, Bool.false_eq_true, if_false]
      split <;> exact (congrArg Kv.cmds hkv).trans hc

/-- With a command waiting, the Key Vault runs one. -/
theorem State.kvStart_started (h : s.kv.cmds ≠ []) : s.kvStart.kv.started = true := by
  cases hs : s.kv.started with
  | true => rw [State.kvStart_of_started hs, hs]
  | false =>
    obtain ⟨c, r, hc⟩ := List.exists_cons_of_ne_nil h
    exact State.kvStart_started_of_waiting hs hc

/-- The start of a command writes KV_STATUS.busy and output windows alone. -/
theorem State.get_kvStart_other {x : Fld} (hbusy : x.key ≠ KV_STATUS.busy.key) (hout : ∀ i, ∀ k < 4, x.key ≠ (KV_OUT.out i k).key) (s : State) :
    s.kvStart.get x = s.get x := by
  cases hs : s.kv.started with
  | true => rw [State.kvStart_of_started hs]
  | false =>
    cases hc : s.kv.cmds with
    | nil => rw [State.kvStart_of_empty hs hc, State.get_put_other hbusy]
    | cons c r =>
      rw [State.get_eq_of_fld (State.kvStart_fld_of_waiting hs hc), State.kvBusy, State.get_foldl_put_other fun k hk => hout c.req k (List.mem_range.mp hk),
        State.get_put_other hbusy]

theorem State.get_kvStart_busy {c : KvCmd} {r : List KvCmd} (hs : s.kv.started = false) (hc : s.kv.cmds = c :: r) :
    s.kvStart.get KV_STATUS.busy = 1 := by
  rw [State.get_eq_of_fld (State.kvStart_fld_of_waiting hs hc), State.get_kvBusy_busy]

/-! ## A command is written -/

theorem State.kvGo_of_running {r : Nat} (h : s.get (KV_CMD.go r) ≠ 0) (op slot : Nat) : s.kvGo r op slot = s := if_pos (State.on_of_ne h)

/-- The command window of requester r with a go bit just written. -/
def State.kvWritten (s : State) (r op slot : Nat) : State :=
  ((s.put (KV_CMD.op r) op).put (KV_CMD.slot r) slot).set1 (KV_CMD.go r)

/-- A command as it joins the queue. -/
def State.kvQueued (s : State) (c : KvCmd) : State := { s with kv := { s.kv with cmds := s.kv.cmds ++ [c] } }

theorem State.kvGo_of_idle {r : Nat} (h : s.get (KV_CMD.go r) = 0) (op slot : Nat) :
    s.kvGo r op slot = ((s.kvWritten r op slot).kvQueued ((s.kvWritten r op slot).kvWindow r op slot)).kvStart :=
  if_neg (by simp [State.on_of_eq h])

theorem State.get_kvQueued (s : State) (c : KvCmd) (x : Fld) : (s.kvQueued c).get x = s.get x := State.get_eq_of_fld rfl x

theorem State.kv_kvWritten (s : State) (r op slot : Nat) : (s.kvWritten r op slot).kv = s.kv := rfl

theorem State.get_kvWritten_go (s : State) (r op slot : Nat) : (s.kvWritten r op slot).get (KV_CMD.go r) = 1 := State.get_put_self _ _ _

theorem State.get_kvWritten_op {op : Nat} (h : op < 16) (s : State) (r slot : Nat) : (s.kvWritten r op slot).get (KV_CMD.op r) = op := by
  rw [State.kvWritten, State.set1, State.get_put_other (by simp [Fld.key, KV_CMD.op, KV_CMD.go]),
    State.get_put_other (by simp [Fld.key, KV_CMD.op, KV_CMD.slot]), State.get_put_self, Nat.mod_eq_of_lt]
  simpa [KV_CMD.op] using h

/-- A word of a command window before or after the output words is none of them. -/
theorem kvOut_key_ne {x : Fld} (hlo : x.lo < 32) (h : x.addr < 0x80009000 ∨ x.addr % 128 < 16 ∨ 32 ≤ x.addr % 128) (i : Nat) :
    ∀ k < 4, x.key ≠ (KV_OUT.out i k).key := by
  intro k hk
  exact Fld.key_ne_of_addr_ne hlo (by simp [KV_OUT.out]) (by simp [KV_OUT.out]; omega)

/-- A word of the command windows is not KV_STATUS. -/
theorem kvBusy_key_ne {x : Fld} (hlo : x.lo < 32) (h : x.addr ≠ 0x80008000) : x.key ≠ KV_STATUS.busy.key :=
  Fld.key_ne_of_addr_ne hlo (by simp [KV_STATUS.busy]) h

/-- The start of a command leaves the first words of every command window. -/
theorem State.get_kvStart_cmd {x : Fld} {r : Nat} (hlo : x.lo < 32) (ha : x.addr = 0x80009000 + 0x80 * r) (s : State) :
    s.kvStart.get x = s.get x :=
  State.get_kvStart_other (kvBusy_key_ne hlo (by omega)) (kvOut_key_ne hlo (by omega)) s

/-- A command whose go bit reads 0 joins the queue. -/
theorem State.kvGo_joins {r op : Nat} (hop : op < 16) (slot : Nat) (h : s.get (KV_CMD.go r) = 0) :
    (s.kvGo r op slot).get (KV_CMD.go r) = 1 ∧ (s.kvGo r op slot).get (KV_CMD.op r) = op ∧ (s.kvGo r op slot).kv.started = true ∧
      ∃ x : KvCmd, x.op = op ∧ x.req = r ∧ (s.kvGo r op slot).kv.cmds = s.kv.cmds ++ [x] ∧
        (s.kv.started = false → s.kv.cmds = [] → (s.kvGo r op slot).get KV_STATUS.busy = 1) := by
  rw [State.kvGo_of_idle h]
  refine ⟨?_, ?_, State.kvStart_started (by simp [State.kvQueued]), (s.kvWritten r op slot).kvWindow r op slot, rfl, rfl, ?_,
    fun hs hc => ?_⟩
  · rw [State.get_kvStart_cmd (by simp [KV_CMD.go]) rfl, State.get_kvQueued, State.get_kvWritten_go]
  · rw [State.get_kvStart_cmd (by simp [KV_CMD.op]) rfl, State.get_kvQueued, State.get_kvWritten_op hop]
  · rw [State.kvStart_cmds]
    rfl
  · exact State.get_kvStart_busy (c := (s.kvWritten r op slot).kvWindow r op slot) (r := []) hs (by
      simp [State.kvQueued, State.kv_kvWritten, hc])

/-- A command of the Key Vault while CIPHER answers. -/
theorem State.kvCommand_of_runs (h : s.isl 20 < 2) (r : Requester) (op : Nat) (d : BitVec 32) :
    s.kvCommand r op d = (s.ungate 20).kvGo r.val op ((KV_CMD.slot r.val).of d.toNat) := if_pos (State.answers_one h)

/-- The ten commands and their op codes (R363). -/
theorem exec_kvOp {r : Requester} {d : BitVec 32} {op : Nat} {c : Instr}
    (h : (op, c) ∈ [(1, Instr.kvInstallSaBlob r d), (2, .kvInstallDerived r d), (3, .kvDeleteSa r d), (4, .kvInstallRoot r d),
      (5, .kvDeleteRoot r d), (6, .kvInstallKek r d), (7, .kvTreeUnicastKey r d), (8, .kvGenBroadcastKey r d),
      (9, .kvExportBroadcastKey r d), (10, .kvZeroise r d)]) (s : State) :
    op < 16 ∧ exec c s = .next (s.kvCommand r op d).settle := by
  simp only [List.mem_cons, List.not_mem_nil, or_false, Prod.mk.injEq] at h
  obtain ⟨rfl, rfl⟩ | ⟨rfl, rfl⟩ | ⟨rfl, rfl⟩ | ⟨rfl, rfl⟩ | ⟨rfl, rfl⟩ | ⟨rfl, rfl⟩ | ⟨rfl, rfl⟩ | ⟨rfl, rfl⟩ | ⟨rfl, rfl⟩ | ⟨rfl, rfl⟩ := h
  all_goals exact ⟨by decide, rfl⟩

/-! ## The end of a command (R363) -/

section
variable {c : KvCmd} {r : List KvCmd}

theorem exec_kvCmdTimeout_of_head (h : s.kv.cmds = c :: r) : exec .kvCmdTimeout s = .next ((s.slotBack c).kvEnd c 0xB).settle := by
  simp only [exec, execKvCmdTimeout, h, State.done_eq]

variable (hc : s.kv.cmds = c :: r) (hheld : s.kvLoadHeld c = false) (hname : s.kvUnnamed c = false)
include hc hheld hname

theorem State.kvComplete_of_ok (h : s.kvResult c = 1) : s.kvComplete = (s.kvOk c).kvEnd c 1 := by
  simp [State.kvComplete, hc, hheld, hname, h]

theorem State.kvComplete_of_failed (h : s.kvResult c ≠ 1) : s.kvComplete = (s.slotBack c).kvEnd c (s.kvResult c) := by
  simp [State.kvComplete, hc, hheld, hname, h]

end

theorem exec_kvCommandEnd_of_started (h : s.kv.started = true) : exec .kvCommandEnd s = .next s.kvComplete.settle := if_pos h

/-- A result is posted and counted. -/
def State.kvCounted (s : State) (c : KvCmd) (res : Nat) : State :=
  let s1 := (s.inc KV_CMD_CNT.count).put (KV_RES.result c.req) res
  if res = 1 then s1 else (s1.inc KV_FAIL_CNT.count).set1 KV_EVENT.cmd_failed

/-- The registers of a requester as its command ends: the result and the counts, its go bit 0 and its blob overwritten. -/
def State.kvPosted (s : State) (c : KvCmd) (res : Nat) : State :=
  (List.range 16).foldl (fun s k => s.put (KV_BLOB.blob c.req k) 0) ((s.kvCounted c res).put (KV_CMD.go c.req) 0)

/-- The running command leaves the queue. -/
def State.kvPopped (s : State) : State := { s with kv := { s.kv with cmds := s.kv.cmds.drop 1, started := false } }

theorem State.get_kvPopped (s : State) (x : Fld) : s.kvPopped.get x = s.get x := State.get_eq_of_fld rfl x

theorem State.kvEnd_eq (s : State) (c : KvCmd) (res : Nat) : s.kvEnd c res = (s.kvPosted c res).kvPopped.kvStart := rfl

theorem State.kvCounted_of_failed {res : Nat} (h : res ≠ 1) (s : State) (c : KvCmd) : s.kvCounted c res =
    (((s.inc KV_CMD_CNT.count).put (KV_RES.result c.req) res).inc KV_FAIL_CNT.count).set1 KV_EVENT.cmd_failed := if_neg h

/-- Posting and counting a result leave the queue. -/
theorem State.kv_kvCounted (s : State) (c : KvCmd) (res : Nat) : (s.kvCounted c res).kv = s.kv := by
  unfold State.kvCounted
  split <;> rfl

theorem State.kv_kvPosted (s : State) (c : KvCmd) (res : Nat) : (s.kvPosted c res).kv = s.kv := by
  rw [State.kvPosted, State.kv_foldl_put, State.put_kv, State.kv_kvCounted]

/-- A register other than the result, below 0x8000900C, is not the result of a requester. -/
theorem kvRes_key_ne {x : Fld} (hlo : x.lo < 32) (h : x.addr < 0x80009000) (i : Nat) : x.key ≠ (KV_RES.result i).key :=
  Fld.key_ne_of_addr_ne hlo (by simp [KV_RES.result]) (by simp [KV_RES.result]; omega)

theorem State.get_kvCounted_result {n : Nat} (hn : n < 16) (s : State) (c : KvCmd) :
    (s.kvCounted c n).get (KV_RES.result c.req) = n := by
  have hput : ((s.inc KV_CMD_CNT.count).put (KV_RES.result c.req) n).get (KV_RES.result c.req) = n := by
    rw [State.get_put_self, Nat.mod_eq_of_lt]
    simpa [KV_RES.result] using hn
  by_cases h : n = 1
  · subst h
    exact hput
  · rw [State.kvCounted_of_failed h, State.set1, State.get_put_other (kvRes_key_ne (by decide) (by decide) _).symm, State.inc,
      State.incBy_eq, State.get_put_other (kvRes_key_ne (by decide) (by decide) _).symm, hput]

theorem State.get_kvCounted_cmdCnt (s : State) (c : KvCmd) (n : Nat) :
    (s.kvCounted c n).get KV_CMD_CNT.count = min (s.get KV_CMD_CNT.count + 1) (2 ^ 32 - 1) := by
  have hput : ((s.inc KV_CMD_CNT.count).put (KV_RES.result c.req) n).get KV_CMD_CNT.count =
      min (s.get KV_CMD_CNT.count + 1) (2 ^ 32 - 1) := by
    rw [State.get_put_other (kvRes_key_ne (by decide) (by decide) _), State.inc, State.get_incBy_self]
    rfl
  by_cases h : n = 1
  · subst h
    exact hput
  · rw [State.kvCounted_of_failed h, State.set1, State.get_put_other (by decide), State.inc, State.incBy_eq,
      State.get_put_other (by decide), hput]

/-- A command that fails is counted and shown. -/
theorem State.get_kvCounted_failed {n : Nat} (h : n ≠ 1) (s : State) (c : KvCmd) :
    (s.kvCounted c n).get KV_FAIL_CNT.count = min (s.get KV_FAIL_CNT.count + 1) (2 ^ 32 - 1) ∧
      (s.kvCounted c n).get KV_EVENT.cmd_failed = 1 := by
  rw [State.kvCounted_of_failed h]
  refine ⟨?_, State.get_put_self _ _ _⟩
  rw [State.set1, State.get_put_other (by decide), State.inc, State.get_incBy_self,
    State.get_put_other (kvRes_key_ne (by decide) (by decide) _), State.inc, State.incBy_eq, State.get_put_other (by decide)]
  rfl

/-- A register that is neither the go bit nor the blob of the requester reads as posted and counted. -/
theorem State.get_kvPosted_other {x : Fld} {c : KvCmd} (hgo : x.key ≠ (KV_CMD.go c.req).key)
    (hblob : ∀ k < 16, x.key ≠ (KV_BLOB.blob c.req k).key) (s : State) (n : Nat) : (s.kvPosted c n).get x = (s.kvCounted c n).get x := by
  rw [State.kvPosted, State.get_foldl_put_other fun k hk => hblob k (List.mem_range.mp hk), State.get_put_other hgo]

/-- A word before KV_BLOB in the window of requester i, or before all windows, is no word of its blob. -/
theorem kvBlob_key_ne {x : Fld} {i : Nat} (hlo : x.lo < 32) (h : x.addr < 0x80009040 + 0x80 * i) (k : Nat) :
    x.key ≠ (KV_BLOB.blob i k).key :=
  Fld.key_ne_of_addr_ne hlo (by simp [KV_BLOB.blob]) (by simp [KV_BLOB.blob]; omega)

/-- A register outside the first word of the window of requester i is not its go bit. -/
theorem kvCmdGo_key_ne {x : Fld} {i : Nat} (hlo : x.lo < 32) (h : x.addr ≠ 0x80009000 + 0x80 * i) : x.key ≠ (KV_CMD.go i).key :=
  Fld.key_ne_of_addr_ne hlo (by simp [KV_CMD.go]) h

theorem State.get_kvPosted_go (s : State) (c : KvCmd) (n : Nat) : (s.kvPosted c n).get (KV_CMD.go c.req) = 0 := by
  rw [State.kvPosted, State.get_foldl_put_other fun k _ => kvBlob_key_ne (by simp [KV_CMD.go]) (by simp [KV_CMD.go]) k,
    State.get_put_self]
  rfl

theorem State.get_kvPosted_blob {k : Nat} (hk : k < 16) (s : State) (c : KvCmd) (n : Nat) :
    (s.kvPosted c n).get (KV_BLOB.blob c.req k) = 0 := by
  rw [State.kvPosted, State.get_foldl_put_self (g := fun k => KV_BLOB.blob c.req k) (fun j _ hj => Fld.key_ne_of_addr_ne
    (by simp [KV_BLOB.blob]) (by simp [KV_BLOB.blob]) (by simp [KV_BLOB.blob]; omega)) (List.mem_range.mpr hk), Nat.zero_mod]

/-- A register that is no output word and not KV_STATUS reads, after a command has ended, as it was posted. -/
theorem State.get_kvEnd {x : Fld} (hlo : x.lo < 32) (hbusy : x.addr ≠ 0x80008000)
    (hout : x.addr < 0x80009000 ∨ x.addr % 128 < 16 ∨ 32 ≤ x.addr % 128) (s : State) (c : KvCmd) (n : Nat) :
    (s.kvEnd c n).get x = (s.kvPosted c n).get x := by
  rw [State.kvEnd_eq, State.get_kvStart_other (kvBusy_key_ne hlo hbusy) (kvOut_key_ne hlo hout), State.get_kvPopped]

/-- A count or event of the Key Vault reads, after a command has ended, as it was counted. -/
theorem State.get_kvEnd_count {x : Fld} (hlo : x.lo < 32) (hbusy : x.addr ≠ 0x80008000) (h : x.addr < 0x80009000) (s : State) (c : KvCmd)
    (n : Nat) : (s.kvEnd c n).get x = (s.kvCounted c n).get x := by
  rw [State.get_kvEnd hlo hbusy (.inl h), State.get_kvPosted_other (kvCmdGo_key_ne hlo (by omega)) fun k _ =>
    kvBlob_key_ne hlo (by omega) k]

theorem State.get_kvEnd_result {n : Nat} (hn : n < 16) (s : State) (c : KvCmd) : (s.kvEnd c n).get (KV_RES.result c.req) = n := by
  have hlo : (KV_RES.result c.req).lo < 32 := by simp [KV_RES.result]
  rw [State.get_kvEnd hlo (by simp [KV_RES.result]; omega) (by simp [KV_RES.result]),
    State.get_kvPosted_other (kvCmdGo_key_ne hlo (by simp [KV_RES.result])) fun k _ => kvBlob_key_ne hlo (by simp [KV_RES.result]) k,
    State.get_kvCounted_result hn]

theorem State.get_kvEnd_go (s : State) (c : KvCmd) (n : Nat) : (s.kvEnd c n).get (KV_CMD.go c.req) = 0 := by
  rw [State.get_kvEnd (by simp [KV_CMD.go]) (by simp [KV_CMD.go]; omega) (by simp [KV_CMD.go]), State.get_kvPosted_go]

theorem State.get_kvEnd_blob {k : Nat} (hk : k < 16) (s : State) (c : KvCmd) (n : Nat) : (s.kvEnd c n).get (KV_BLOB.blob c.req k) = 0 := by
  rw [State.get_kvEnd (by simp [KV_BLOB.blob]) (by simp [KV_BLOB.blob]; omega) (by simp [KV_BLOB.blob]; omega),
    State.get_kvPosted_blob hk]

theorem State.cmds_kvEnd (s : State) (c : KvCmd) (n : Nat) : (s.kvEnd c n).kv.cmds = s.kv.cmds.drop 1 := by
  rw [State.kvEnd_eq, State.kvStart_cmds, State.kvPopped, State.kv_kvPosted]

/-- With the queue empty the Key Vault stands. -/
theorem State.kvEnd_of_last (h : s.kv.cmds.drop 1 = []) (c : KvCmd) (n : Nat) :
    (s.kvEnd c n).get KV_STATUS.busy = 0 ∧ (s.kvEnd c n).kv.started = false := by
  have hempty : (s.kvPosted c n).kvPopped.kv.cmds = [] := by rw [State.kvPopped, State.kv_kvPosted]; exact h
  rw [State.kvEnd_eq, State.kvStart_of_empty rfl hempty, State.get_put_self]
  exact ⟨rfl, rfl⟩

/-! ## Entropy and flow cipher entries -/

theorem exec_entropyHealthFail (s : State) :
    exec .entropyHealthFail s = .next ((s.put CIP_EVENT.entropy_fail 1).put KV_STATUS.entropy_fail 1).settle := rfl

theorem exec_entropySourceRecovered (s : State) : exec .entropySourceRecovered s = .next (s.put KV_STATUS.entropy_fail 0).settle := rfl

theorem exec_drbgReseed_of_sound (h : s.get KV_STATUS.entropy_fail = 0) :
    exec .drbgReseed s = .next (State.settle { s with kv := { s.kv with reseeds := s.kv.reseeds + 1 } }) :=
  if_neg (by simp [State.on_of_eq h])

theorem exec_drbgReseed_of_failed (h : s.get KV_STATUS.entropy_fail ≠ 0) : exec .drbgReseed s = .next s.settle :=
  if_pos (State.on_of_ne h)

theorem exec_flowCipherWrite_of_runs (h : s.isl 20 < 2) (f : BitVec 16) (d : BitVec 64) :
    exec (.flowCipherWrite f d) s = .next ((s.ungate 20).cipherWrite f.toNat d.toNat).settle := if_pos (State.answers_one h)

theorem State.cipherWrite_of_ok {f w : Nat} (h : s.cipherReason f w = 0) : s.cipherWrite f w = s.putWord (cipherAddr f) w := if_pos h

theorem State.cipherWrite_of_refused {f w : Nat} (h : s.cipherReason f w ≠ 0) : s.cipherWrite f w =
    ((s.put CIP_EVENT.cfg_refused 1).put CIP_CFG_REFUSE.flow f).put CIP_CFG_REFUSE.reason (s.cipherReason f w) := if_neg h

/-- Settles O49: the queue of commands, their ends, the entropy source and flow cipher entries. -/
theorem keyVaultAndCipherEntries : Obligations.KeyVaultAndCipherEntries := by
  unfold Obligations.KeyVaultAndCipherEntries
  refine ⟨fun r d s hrun => ?_, fun s => ⟨fun c r => exec_kvCmdTimeout_of_head, fun c r hc hstart hheld hname => ?_, fun c n _ hn => ?_,
    exec_entropyHealthFail s, exec_entropySourceRecovered s, exec_drbgReseed_of_sound, exec_drbgReseed_of_failed⟩, fun f d s hrun => ?_⟩
  · intro w op c hop
    obtain ⟨hlt, hexec⟩ := exec_kvOp hop s
    rw [hexec, State.kvCommand_of_runs hrun]
    refine ⟨fun hgo => next_settle_congr (State.kvGo_of_running hgo _ _), fun hgo => ⟨_, rfl, ?_⟩⟩
    obtain ⟨hset, hcode, hstart, x, hx⟩ := State.kvGo_joins hlt ((KV_CMD.slot r.val).of d.toNat) hgo
    exact ⟨hset, hcode, hstart, x, hx⟩
  · rw [exec_kvCommandEnd_of_started hstart]
    exact ⟨fun h => next_settle_congr (State.kvComplete_of_ok hc hheld hname h),
      fun h => next_settle_congr (State.kvComplete_of_failed hc hheld hname h)⟩
  · refine ⟨State.get_kvEnd_result hn s c, State.get_kvEnd_go s c n, State.cmds_kvEnd s c n, fun k hk => State.get_kvEnd_blob hk s c n,
      ?_, fun h => ?_, fun h => State.kvEnd_of_last h c n⟩
    · rw [State.get_kvEnd_count (by decide) (by decide) (by decide), State.get_kvCounted_cmdCnt]
    · rw [State.get_kvEnd_count (by decide) (by decide) (by decide), State.get_kvEnd_count (by decide) (by decide) (by decide)]
      exact State.get_kvCounted_failed h s c
  · rw [exec_flowCipherWrite_of_runs hrun]
    exact ⟨fun h => next_settle_congr (State.cipherWrite_of_ok h), fun h => next_settle_congr (State.cipherWrite_of_refused h)⟩

end Sys2Proof.Machine
end

section
/-! PROOFS. Alignment, time steps, slews and frequency ramps (R385, R390 to R393). -/

namespace Sys2Proof.Machine

variable {s : State}

/-! ## Alignment (R385) -/

theorem exec_tuAlign_of_runs (h : s.isl 21 < 2) : exec .tuAlign s = .next s.tuAlign.settle := if_pos (State.answers_one h)

theorem State.tuAlign_of_ok (hdark : s.allDark = true) (hset : s.get TU_STATUS.time_set ≠ 0) : s.tuAlign = s.alignTicks :=
  if_pos ⟨hdark, State.on_of_ne hset⟩

theorem State.tuAlign_of_refused (h : s.allDark = false ∨ s.get TU_STATUS.time_set = 0) : s.tuAlign = s.put TU_EVENT.step_refused 1 :=
  if_neg fun ⟨hdark, hset⟩ => h.elim (fun hd => by simp [hd] at hdark) fun h0 => by simp [State.on_of_eq h0] at hset

/-! ## Steps (R392) -/

theorem exec_tuStep_of_runs (h : s.isl 21 < 2) (d : BitVec 32) : exec (.tuStep d) s =
    .next ((s.put TU_CTRL.step_abs (TU_CTRL.step_abs.of d.toNat)).tuStep (bit1 d.toNat 2)).settle := if_pos (State.answers_one h)

/-- A write of TU_CTRL.step_abs does not touch the arm. -/
theorem State.get_step_armed_put_step_abs (s : State) (v : Nat) :
    (s.put TU_CTRL.step_abs v).get TU_STATUS.step_armed = s.get TU_STATUS.step_armed := State.get_put_other (by decide) s v

section
variable {b : Bool}

theorem State.tuStep_of_waiting (h : s.tu.absPending.isSome) : s.tuStep b = s := if_pos h

variable (hnone : s.tu.absPending = none)
include hnone

theorem State.tuStep_of_unarmed (h : s.get TU_STATUS.step_armed = 0) : s.tuStep b = s.put TU_EVENT.step_refused 1 := by
  simp [State.tuStep, hnone, State.on_of_eq h, State.set1]

theorem State.tuStep_of_range (hns : 1000000000 ≤ s.stepNs) : s.tuStep true = s.put TU_EVENT.step_refused 1 := by
  simp [State.tuStep, hnone, hns, State.set1]

variable (harm : s.get TU_STATUS.step_armed ≠ 0)
include harm

theorem State.tuStep_absolute (hns : s.stepNs < 1000000000) : s.tuStep true = { s.stepArmUsed with tu := { s.stepArmUsed.tu with
    absPending := some (s.get TU_STEP_S.value * 1000000000 + s.stepNs) } } := by
  simp [State.tuStep, hnone, State.on_of_ne harm, Nat.not_le.mpr hns]

theorem State.tuStep_relative : s.tuStep false = (s.stepArmUsed.stepBy (s.relAmount * 65536)).gatesResume := by
  simp [State.tuStep, hnone, State.on_of_ne harm]

end

/-- Two states show the same offset of the time of day, and the time set alike. -/
def SameTime (u v : State) : Prop := v.tu.todOff = u.tu.todOff ∧ v.get TU_STATUS.time_set = u.get TU_STATUS.time_set

theorem SameTime.trans {u v w : State} (h : SameTime u v) (h' : SameTime v w) : SameTime u w := ⟨h'.1.trans h.1, h'.2.trans h.2⟩

theorem SameTime.put {f : Fld} (h : TU_STATUS.time_set.key ≠ f.key) (s : State) (v : Nat) : SameTime s (s.put f v) :=
  ⟨rfl, State.get_put_other h s v⟩

theorem SameTime.of_ite {c : Prop} [Decidable c] {u v w : State} (hv : SameTime u v) (hw : SameTime u w) :
    SameTime u (if c then v else w) := by
  split
  · exact hv
  · exact hw

theorem SameTime.refl (s : State) : SameTime s s := ⟨rfl, rfl⟩

theorem SameTime.tu_base (s : State) (n : Nat) : SameTime s { s with tu := { s.tu with base := n } } := ⟨rfl, State.get_eq_of_fld rfl _⟩

theorem State.alignTicks_sameTime (s : State) : SameTime s s.alignTicks := by
  unfold State.alignTicks
  exact (SameTime.tu_base s _).trans (SameTime.put (by decide) _ 1)

theorem State.launchesAfterStep_sameTime (s : State) : SameTime s s.launchesAfterStep := by
  refine SameTime.trans (v := _) ⟨?_, ?_⟩ (SameTime.of_ite (SameTime.refl _) (SameTime.put (by decide) _ _))
  · rfl
  · exact State.get_put_other (by decide) _ _

theorem State.todResWithdraw_sameTime (s : State) : SameTime s s.todResWithdraw := by
  unfold State.todResWithdraw
  split
  · exact SameTime.of_ite ⟨rfl, State.get_put_other (f := TU_TOD_REQ.ready) (by decide) s 0⟩ (SameTime.refl s)
  · exact SameTime.refl s

/-- A step as it is made and counted, before the ticks, the launches and a result of the time of day follow it. -/
def State.stepMade (s : State) (amount : Int) : State :=
  ((State.set1 { s with tu := { s.tu with todOff := s.tu.todOff + amount } } TU_STATUS.time_set).set1 TU_EVENT.step_done).inc
    TU_STEP_CNT.count

theorem State.todOff_stepMade (s : State) (n : Int) : (s.stepMade n).tu.todOff = s.tu.todOff + n := rfl

theorem State.get_stepMade_time_set (s : State) (n : Int) : (s.stepMade n).get TU_STATUS.time_set = 1 := by
  rw [State.stepMade, State.inc, State.incBy_eq, State.get_put_other (by decide), State.set1, State.get_put_other (by decide),
    State.set1, State.get_put_self]
  rfl

/-- What follows a step leaves the offset that it made. -/
theorem State.stepBy_sameTime (s : State) (n : Int) : SameTime (s.stepMade n) (s.stepBy n) := by
  unfold State.stepBy
  refine SameTime.trans (SameTime.trans ?_ (State.launchesAfterStep_sameTime _)) (State.todResWithdraw_sameTime _)
  refine SameTime.of_ite (SameTime.of_ite (State.alignTicks_sameTime _) (SameTime.refl _)) (SameTime.of_ite (SameTime.refl _) ?_)
  have hcleared := SameTime.put (f := TU_STATUS.tick_aligned) (by decide) (s.stepMade n) 0
  exact SameTime.of_ite (hcleared.trans (SameTime.put (by decide) _ _)) hcleared

/-- A step moves the time of day by its amount, and the time is set (R392). -/
theorem State.stepBy_time (s : State) (n : Int) : (s.stepBy n).tu.todOff = s.tu.todOff + n ∧ (s.stepBy n).get TU_STATUS.time_set = 1 := by
  obtain ⟨hoff, hset⟩ := State.stepBy_sameTime s n
  exact ⟨hoff.trans (State.todOff_stepMade s n), hset.trans (State.get_stepMade_time_set s n)⟩

theorem exec_tuAbsStepEffect_of_waiting {ns : Nat} (h : s.tu.absPending = some ns) : exec .tuAbsStepEffect s = .next
    ((State.stepBy { s with tu := { s.tu with absPending := none } } ((ns * 65536 : Nat) - (s.tod : Int))).gatesResume).settle := by
  simp only [exec, execTuAbsStepEffect, h, State.done_eq]

/-! ## Re-arming (R393) -/

theorem exec_tuRearm_of_runs (h : s.isl 21 < 2) (r : Requester) : exec (.tuRearm r) s = .next (s.tuRearm r.val).settle :=
  if_pos (State.answers_one h)

theorem State.tuRearm_of_host (h : s.get TU_STATUS.step_armed = 0) :
    s.tuRearm 0 = ((s.put TU_STATUS.step_armed 1).put TU_EVENT.rearmed 1).inc TU_REARM_CNT.count :=
  if_neg (by simp [State.on_of_eq h])

theorem State.tuRearm_of_ignored {r : Nat} (h : r ≠ 0 ∨ s.get TU_STATUS.step_armed ≠ 0) : s.tuRearm r = s :=
  if_pos (h.imp_right State.on_of_ne)

/-! ## Slews and frequency (R390, R391) -/

theorem exec_tuOffsetWrite_of_runs (h : s.isl 21 < 2) (d : BitVec 32) : exec (.tuOffsetWrite d) s = .next (s.tuOffset d.toNat).settle :=
  if_pos (State.answers_one h)

theorem exec_tuSlewEnd (s : State) :
    exec .tuSlewEnd s = .next (State.settle { s.put TU_REMAIN.offset_ns 0 with tu := { s.tu with slewRem := 0 } }) := rfl

theorem exec_freqRampEnd (s : State) : exec .freqRampEnd s = .next (State.settle { s with tu := { s.tu with
    f := max (-12800000) (min 12800000 (signedOf (s.get TU_FREQ.freq) 32)), fRem := 0 } }) := rfl

/-- Settles O50: alignment, the cases of a step, re-arming, slews and frequency ramps. -/
theorem stepsSlewsAndAlignment : Obligations.StepsSlewsAndAlignment := by
  unfold Obligations.StepsSlewsAndAlignment
  intro s hrun
  refine ⟨fun hdark hset => ?_, fun h => ?_, fun d => ?_, State.stepBy_time, fun ns => exec_tuAbsStepEffect_of_waiting, fun h => ?_,
    fun r h => ?_, fun d => exec_tuOffsetWrite_of_runs hrun d, exec_tuSlewEnd s, exec_freqRampEnd s⟩
  · rw [exec_tuAlign_of_runs hrun, State.tuAlign_of_ok hdark hset]
  · rw [exec_tuAlign_of_runs hrun, State.tuAlign_of_refused h]
  · intro w used
    have harmed : w.get TU_STATUS.step_armed = s.get TU_STATUS.step_armed := State.get_step_armed_put_step_abs s _
    rw [exec_tuStep_of_runs hrun]
    refine ⟨fun h => next_settle_congr (State.tuStep_of_waiting h),
      fun hnone h0 => next_settle_congr (State.tuStep_of_unarmed hnone (harmed.trans h0)), fun hnone _ hb hns => ?_,
      fun hnone harm hb hns => ?_, fun hnone harm hb => ?_⟩
    · rw [hb]
      exact next_settle_congr (State.tuStep_of_range hnone hns)
    · rw [hb]
      exact next_settle_congr (State.tuStep_absolute hnone (by rwa [harmed]) hns)
    · rw [hb]
      exact next_settle_congr (State.tuStep_relative hnone (by rwa [harmed]))
  · rw [exec_tuRearm_of_runs hrun]
    exact next_settle_congr (State.tuRearm_of_host h)
  · rw [exec_tuRearm_of_runs hrun]
    exact next_settle_congr (State.tuRearm_of_ignored (h.imp_left fun hr h0 => hr (Fin.ext h0)))

end Sys2Proof.Machine
end

section
/-! PROOFS. The window and credits of the sender (R432, R433). -/

namespace Sys2Proof.Machine

/-- The sender takes a message that waits, with the credits of its pool and within the window. -/
theorem Link.choose_sound {l : Link} {m : LMsg} (h : l.choose = some m) :
    m ∈ l.txq ∧ m.cost ≤ mgetD m.pool 0 l.txAvail ∧ l.unacked.length < 2048 := by
  have hok : ∀ p, (firstOf p l.txq).filter (fun m => decide (m.cost ≤ mgetD p 0 l.txAvail)) = some m →
      m ∈ l.txq ∧ m.cost ≤ mgetD m.pool 0 l.txAvail := by
    intro p hp
    obtain ⟨hfirst, hcost⟩ := Option.filter_eq_some_iff.mp hp
    have hpool : m.pool = p := by simpa using List.find?_some hfirst
    exact ⟨List.mem_of_find?_eq_some hfirst, by simpa [hpool] using hcost⟩
  unfold Link.choose at h
  split at h
  · cases h
  next hwin =>
    refine (and_assoc.mp ⟨?_, Nat.lt_of_not_le hwin⟩)
    rcases Option.or_eq_some_iff.mp h with h0 | ⟨-, h⟩
    · exact hok 0 h0
    rcases Option.or_eq_some_iff.mp h with h3 | ⟨-, h⟩
    · exact hok 3 h3
    split at h <;> rcases Option.or_eq_some_iff.mp h with hp | ⟨-, hp⟩ <;> exact hok _ hp

/-- The credits that a message takes are those of its pool. -/
theorem Link.credits_sendOne {l : Link} {m : LMsg} (hcost : m.cost ≤ mgetD m.pool 0 l.txAvail) (p : Nat) :
    mgetD p 0 (l.sendOne m).txAvail + (if m.pool = p then m.cost else 0) = mgetD p 0 l.txAvail := by
  simp only [Link.sendOne]
  split
  next h =>
    subst h
    rw [mgetD_nset_self]
    omega
  next h => rw [mgetD_nset_other (Ne.symm h), Nat.add_zero]

/-- What the sender sends, in order, keeping its window and credits. -/
def Sends (l l' : Link) (sent : List LMsg) : Prop :=
  l'.unacked.map (·.2) = l.unacked.map (·.2) ++ sent ∧
    l.txq.Perm (sent ++ l'.txq) ∧
    (l.unacked.length ≤ 2048 → l'.unacked.length ≤ 2048) ∧
    (∀ p, mgetD p 0 l'.txAvail + ((sent.filter fun m => m.pool == p).map LMsg.cost).sum = mgetD p 0 l.txAvail) ∧
    l'.nextTx % 4096 = (l.nextTx + sent.length) % 4096 ∧ l'.rxq = l.rxq

theorem Sends.refl (l : Link) : Sends l l [] := ⟨by simp, .refl _, id, fun _ => by simp, rfl, rfl⟩

/-- One message sent before the rest. -/
theorem Sends.cons {l l' : Link} {m : LMsg} {sent : List LMsg} (hm : l.choose = some m) (h : Sends (l.sendOne m) l' sent) :
    Sends l l' (m :: sent) := by
  obtain ⟨hmem, hcost, hwin⟩ := Link.choose_sound hm
  obtain ⟨hun, hperm, hlen, hcred, hseq, hrx⟩ := h
  refine ⟨by simp [hun, Link.sendOne], (List.perm_cons_erase hmem).trans (hperm.cons m), fun _ => hlen ?_, fun p => ?_, ?_, hrx⟩
  · simpa [Link.sendOne] using hwin
  · have hone := Link.credits_sendOne hcost p
    have hrest := hcred p
    by_cases hp : m.pool = p <;> simp [hp] at hone ⊢ <;> omega
  · rw [hseq, List.length_cons]
    simp only [Link.sendOne]
    omega

theorem Link.pump_sends (n : Nat) (l : Link) : ∃ sent, Sends l (l.pump n) sent := by
  induction n generalizing l with
  | zero => exact ⟨[], Sends.refl l⟩
  | succ n ih =>
    cases hm : l.choose with
    | none => exact ⟨[], by simpa only [Link.pump, hm] using Sends.refl l⟩
    | some m =>
      obtain ⟨sent, hsent⟩ := ih (l.sendOne m)
      exact ⟨m :: sent, by simpa only [Link.pump, hm] using Sends.cons hm hsent⟩

/-- Settles O53, by induction on the messages sent. -/
theorem senderKeepsItsWindowAndCredits : Obligations.SenderKeepsItsWindowAndCredits := Link.pump_sends

end Sys2Proof.Machine
end

section
/-! PROOFS. Bring-up of the Linman link and its end (R424, R426, R427, R429). -/

namespace Sys2Proof.Machine

variable {s : State}

theorem State.linkRuns_of_lt (h : s.isl 23 < 2) : s.linkRuns = true := State.up_of_lt h

/-! ## Fields of the lanes -/

/-- A register below LM_LANE_STATUS is none of it. -/
theorem below_laneStatus_key_ne {x f : Fld} {i : Nat} (hx : x.addr < 0xB0000060) (hxlo : x.lo < 32) (hf : f.addr = 0xB0000060 + 0x4 * i)
    (hflo : f.lo < 32) : x.key ≠ f.key :=
  Fld.key_ne_of_addr_ne hxlo hflo (by omega)

/-- A register beyond LM_LANE_STATUS is none of it. -/
theorem beyond_laneStatus_key_ne {x f : Fld} {i : Nat} (hx : 0xB0000080 ≤ x.addr) (hxlo : x.lo < 32) (hf : f.addr = 0xB0000060 + 0x4 * i)
    (hi : i < 8) (hflo : f.lo < 32) : x.key ≠ f.key :=
  Fld.key_ne_of_addr_ne hxlo hflo (by omega)

/-- The unlocking of the lanes leaves every register outside LM_LANE_STATUS. -/
theorem State.get_lanesUnlocked {x : Fld} (hxlo : x.lo < 32) (hx : x.addr < 0xB0000060 ∨ 0xB0000080 ≤ x.addr) (s : State) :
    s.lanesUnlocked.get x = s.get x := by
  have hne : ∀ {f : Fld} {i : Nat}, i ∈ linkLanes → f.addr = 0xB0000060 + 0x4 * i → f.lo < 32 → x.key ≠ f.key := by
    intro f i hi hf hflo
    have hlt : i < 5 := List.mem_range.mp hi
    exact hx.elim (fun h => below_laneStatus_key_ne h hxlo hf hflo) fun h => beyond_laneStatus_key_ne h hxlo hf (by omega) hflo
  refine foldl_keeps (fun u => State.get u x) (fun u i hi => ?_) s
  rw [State.rst, State.get_put_other (hne hi rfl (by simp [LM_LANE_STATUS.skew_ns])), State.rst,
    State.get_put_other (hne hi rfl (by simp [LM_LANE_STATUS.rx_logical])),
    State.get_put_other (hne hi rfl (by simp [LM_LANE_STATUS.rx_use])),
    State.get_put_other (hne hi rfl (by simp [LM_LANE_STATUS.lock]))]

theorem State.link_lanesUnlocked (s : State) : s.lanesUnlocked.link = s.link := by
  refine foldl_keeps State.link (fun u i _ => ?_) s
  rfl

/-- LM_LANE_STATUS.tx_use follows the transmit map and leaves every other register. -/
theorem State.get_txUse {x : Fld} (hxlo : x.lo < 32) (hx : x.addr < 0xB0000060 ∨ 0xB0000080 ≤ x.addr) (s : State) :
    s.txUse.get x = s.get x := by
  refine foldl_keeps (fun u => State.get u x) (fun u i hi => ?_) s
  have hlt : i < 5 := List.mem_range.mp hi
  exact State.get_put_other (hx.elim (fun h => below_laneStatus_key_ne h hxlo rfl (by simp [LM_LANE_STATUS.tx_use]))
    fun h => beyond_laneStatus_key_ne h hxlo rfl (by omega : i < 8) (by simp [LM_LANE_STATUS.tx_use])) _ _

theorem State.link_txUse (s : State) : s.txUse.link = s.link := by
  refine foldl_keeps State.link (fun u i _ => ?_) s
  rfl

/-! ## Link-down -/

/-- The registers of a link that goes down. -/
def State.downShown (s : State) : State := (((s.inc LM_DOWN_CNT.count).set1 LM_EVENT.link_down).put LM_STATUS.state 0).lanesUnlocked

theorem State.get_linkDown (s : State) (x : Fld) : s.linkDown.get x = s.downShown.get x := by
  refine State.get_eq_of_fld ?_ x
  simp only [State.linkDown, State.downShown]

/-- A link that goes down leaves every register but its state, the event, the count and the status of the lanes. -/
theorem State.get_linkDown_other {x : Fld} (hxlo : x.lo < 32) (hx : x.addr < 0xB0000060 ∨ 0xB0000080 ≤ x.addr)
    (hstate : x.key ≠ LM_STATUS.state.key) (hevent : x.key ≠ LM_EVENT.link_down.key) (hcnt : x.key ≠ LM_DOWN_CNT.count.key) (s : State) :
    s.linkDown.get x = s.get x := by
  rw [State.get_linkDown, State.downShown, State.get_lanesUnlocked hxlo hx, State.get_put_other hstate, State.set1,
    State.get_put_other hevent, State.inc, State.incBy_eq, State.get_put_other hcnt]

theorem State.get_linkDown_state (s : State) : s.linkDown.get LM_STATUS.state = 0 := by
  rw [State.get_linkDown, State.downShown, State.get_lanesUnlocked (by decide) (.inl (by decide)), State.get_put_self]
  rfl

theorem State.get_linkDown_event (s : State) : s.linkDown.get LM_EVENT.link_down = 1 := by
  rw [State.get_linkDown, State.downShown, State.get_lanesUnlocked (by decide) (.inl (by decide)), State.get_put_other (by decide),
    State.set1, State.get_put_self]
  rfl

theorem State.get_linkDown_count (s : State) :
    s.linkDown.get LM_DOWN_CNT.count = min (s.get LM_DOWN_CNT.count + 1) (2 ^ 32 - 1) := by
  rw [State.get_linkDown, State.downShown, State.get_lanesUnlocked (by decide) (.inr (by decide)), State.get_put_other (by decide),
    State.set1, State.get_put_other (by decide), State.inc, State.get_incBy_self]
  rfl

/-- What is not acknowledged is discarded, and the requests that wait are kept. -/
theorem State.linkDown_link (s : State) : s.linkDown.link.unacked = [] ∧ s.linkDown.link.txq = [] ∧ s.linkDown.link.rxq = s.link.rxq := by
  simp only [State.linkDown, State.link_lanesUnlocked, State.put_link, State.set1_link, State.inc_link, and_self]

theorem exec_linkRetrain_of_runs (h : s.isl 23 < 2) : exec .linkRetrain s = .next (s.ungate 23).linkDown.settle :=
  if_pos (State.linkRuns_of_lt h)

section
variable (hrun : s.isl 23 < 2) (h2 : 2 ≤ s.get LM_STATUS.state) (h5 : s.get LM_STATUS.state ≤ 5) (b : BitVec 5)
include hrun h2 h5

theorem exec_linkDown_of_aligned : exec (.linkDown b) s =
    (let bad := (bitList 5 b.toNat).filter fun f => (s.txLogical f).isSome
      if bad.isEmpty then s.linkDown.done
      else if s.get LM_TX_MAP.spare = 7 ∨ bit1 b.toNat (s.get LM_TX_MAP.spare) ∨ 1 < bad.length then (s.widthCut (bitList 5 b.toNat)).done
      else (bad.foldl State.swapLane s.linkDown).done) :=
  if_neg (by simp [State.linkRuns_of_lt hrun, Nat.not_lt.mpr h2, Nat.not_lt.mpr h5])

theorem exec_linkDown_of_sound (hbad : (bitList 5 b.toNat).filter (fun f => (s.txLogical f).isSome) = []) :
    exec (.linkDown b) s = .next s.linkDown.settle := by
  rw [exec_linkDown_of_aligned hrun h2 h5 b]
  simp only [hbad, List.isEmpty_nil, if_true, State.done_eq]

theorem exec_linkDown_of_cut (hbad : (bitList 5 b.toNat).filter (fun f => (s.txLogical f).isSome) ≠ [])
    (h : s.get LM_TX_MAP.spare = 7 ∨ bit1 b.toNat (s.get LM_TX_MAP.spare) = true ∨
      1 < ((bitList 5 b.toNat).filter fun f => (s.txLogical f).isSome).length) :
    exec (.linkDown b) s = .next (s.widthCut (bitList 5 b.toNat)).settle := by
  rw [exec_linkDown_of_aligned hrun h2 h5 b]
  simp only [List.isEmpty_eq_false_iff.mpr hbad, Bool.false_eq_true, if_false, if_pos h, State.done_eq]

theorem exec_linkDown_of_swap {f : Nat} (hbad : (bitList 5 b.toNat).filter (fun f => (s.txLogical f).isSome) = [f])
    (hsp : s.get LM_TX_MAP.spare ≠ 7) (hbit : bit1 b.toNat (s.get LM_TX_MAP.spare) = false) :
    exec (.linkDown b) s = .next (s.linkDown.swapLane f).settle := by
  rw [exec_linkDown_of_aligned hrun h2 h5 b]
  simp only [hbad, List.isEmpty_cons, Bool.false_eq_true, if_false, hsp, hbit, List.length_singleton, Nat.lt_irrefl, or_self,
    List.foldl_cons, List.foldl_nil, State.done_eq]

end

/-! ## Signal (R426) -/

/-- The lanes with signal are shown. -/
def State.signalled (s : State) (v : Nat) : State :=
  linkLanes.foldl (fun s i => s.put (LM_LANE_STATUS.signal i) (if bit1 v i then 1 else 0)) s

theorem State.get_signalled_signal {i : Nat} (hi : i < 5) (s : State) (v : Nat) :
    (s.signalled v).get (LM_LANE_STATUS.signal i) = if bit1 v i then 1 else 0 := by
  rw [State.signalled, State.get_foldl_put_self (g := LM_LANE_STATUS.signal) (v := fun i => if bit1 v i then 1 else 0) (fun j _ hj => Fld.key_ne_of_addr_ne
    (by simp [LM_LANE_STATUS.signal]) (by simp [LM_LANE_STATUS.signal]) (by simp [LM_LANE_STATUS.signal]; omega)) (l := linkLanes) (List.mem_range.mpr hi)]
  split <;> rfl

theorem State.get_signalled_state (s : State) (v : Nat) : (s.signalled v).get LM_STATUS.state = s.get LM_STATUS.state :=
  State.get_foldl_put_other (v := fun i => if bit1 v i then 1 else 0) (fun i _ => below_laneStatus_key_ne (by decide) (by decide) rfl
    (by simp [LM_LANE_STATUS.signal])) s

/-- Signal ends when it stands on as many lanes as the width has. -/
theorem exec_linkSignalDetect_of_runs (h : s.isl 23 < 2) (lanes : BitVec 5) (width : BitVec 2) :
    exec (.linkSignalDetect lanes width) s = .next (if s.get LM_STATUS.state = 0 ∧ widthLanes width.toNat ≠ 0 ∧
      widthLanes width.toNat ≤ (bitList 5 lanes.toNat).length then (s.signalled lanes.toNat).put LM_STATUS.state 1
      else s.signalled lanes.toNat).settle := by
  rw [← State.done_ite]
  exact if_neg (by simp [State.linkRuns_of_lt h])

theorem State.get_put_state_signal {i : Nat} (s : State) (v : Nat) :
    (s.put LM_STATUS.state v).get (LM_LANE_STATUS.signal i) = s.get (LM_LANE_STATUS.signal i) :=
  State.get_put_other (Ne.symm (below_laneStatus_key_ne (by decide) (by decide) rfl (by simp [LM_LANE_STATUS.signal]))) s v

/-- The effect of LINK_SIGNAL_DETECT. -/
theorem signalDetect_effect (h : s.isl 23 < 2) (lanes : BitVec 5) (width : BitVec 2) :
    ∃ u : State, exec (.linkSignalDetect lanes width) s = .next u.settle ∧
      (∀ i < 5, u.get (LM_LANE_STATUS.signal i) = if bit1 lanes.toNat i then 1 else 0) ∧
      u.get LM_STATUS.state = if s.get LM_STATUS.state = 0 ∧ 1 ≤ widthLanes width.toNat ∧
        widthLanes width.toNat ≤ (bitList 5 lanes.toNat).length then 1 else s.get LM_STATUS.state := by
  refine ⟨_, exec_linkSignalDetect_of_runs h lanes width, ?_⟩
  simp only [Nat.one_le_iff_ne_zero]
  split
  · refine ⟨fun i hi => ?_, State.get_put_self _ _ _⟩
    rw [State.get_put_state_signal, State.get_signalled_signal hi]
  · exact ⟨fun i hi => State.get_signalled_signal hi s _, State.get_signalled_state s _⟩

/-! ## Lanes (R426) -/

/-- The receive map takes a width's lanes. -/
def State.rxMapped (s : State) (width : Nat) (m : BitVec 12) : State :=
  (List.range 4).foldl (fun s k => s.put (LM_RX_MAP.lane k) (if k < widthLanes width then mapLane m k else 7))
    ((s.put LM_STATUS.state 2).put LM_STATUS.rx_width width)

/-- The lanes of a receive map are shown locked and in use. -/
def State.rxLocked (s : State) (w : Nat) (m : BitVec 12) : State :=
  (List.range w).foldl (fun s k =>
    ((s.set1 (LM_LANE_STATUS.lock (mapLane m k))).set1 (LM_LANE_STATUS.rx_use (mapLane m k))).put
      (LM_LANE_STATUS.rx_logical (mapLane m k)) k) s

/-- The state that LINK_LANE_LOCK leaves. -/
def State.laneLocked (s : State) (width : Nat) (m : BitVec 12) : State :=
  let u := (s.rxMapped width m).rxLocked (widthLanes width) m
  (u.put LM_RX_MAP.spare u.rxSpare).txUse

theorem State.get_rxLocked {x : Fld} (hx : x.addr < 0xB0000060) (hxlo : x.lo < 32) (s : State) (w : Nat) (m : BitVec 12) :
    (s.rxLocked w m).get x = s.get x := by
  refine foldl_keeps (fun u => State.get u x) (fun u k _ => ?_) s
  rw [State.get_put_other (below_laneStatus_key_ne hx hxlo rfl (by simp [LM_LANE_STATUS.rx_logical])), State.set1,
    State.get_put_other (below_laneStatus_key_ne hx hxlo rfl (by simp [LM_LANE_STATUS.rx_use])), State.set1,
    State.get_put_other (below_laneStatus_key_ne hx hxlo rfl (by simp [LM_LANE_STATUS.lock]))]

/-- A register below LM_LANE_STATUS, other than the spare lane, reads as the map was written. -/
theorem State.get_laneLocked {x : Fld} (hx : x.addr < 0xB0000060) (hxlo : x.lo < 32) (hsp : x.key ≠ LM_RX_MAP.spare.key) (s : State)
    (width : Nat) (m : BitVec 12) : (s.laneLocked width m).get x = (s.rxMapped width m).get x := by
  rw [State.laneLocked, State.get_txUse hxlo (.inl hx), State.get_put_other hsp, State.get_rxLocked hx hxlo]

/-- Fields of one register at different bits have different keys. -/
theorem Fld.key_ne_of_lo_ne {f g : Fld} (ha : f.addr = g.addr) (h : f.lo ≠ g.lo) : f.key ≠ g.key := by
  unfold Fld.key
  omega

theorem rxMap_lane_key_ne {j k : Nat} (h : j ≠ k) : (LM_RX_MAP.lane k).key ≠ (LM_RX_MAP.lane j).key :=
  Fld.key_ne_of_lo_ne rfl (by simp [LM_RX_MAP.lane]; omega)

theorem State.get_rxMapped_lane {k : Nat} (hk : k < 4) (s : State) (width : Nat) (m : BitVec 12) :
    (s.rxMapped width m).get (LM_RX_MAP.lane k) = if k < widthLanes width then mapLane m k else 7 := by
  rw [State.rxMapped, State.get_foldl_put_self (v := fun k => if k < widthLanes width then mapLane m k else 7)
    (fun j _ hj => rxMap_lane_key_ne hj) (List.mem_range.mpr hk), Nat.mod_eq_of_lt]
  have hlane : mapLane m k < 2 ^ 3 := Nat.mod_lt _ (by decide)
  simp only [LM_RX_MAP.lane]
  split <;> omega

/-- A field of LM_STATUS reads, after the receive map is written, as it was put. -/
theorem State.get_rxMapped_status {x : Fld} (hx : x.addr = 0xB0000004) (hxlo : x.lo < 32) (s : State) (width : Nat) (m : BitVec 12) :
    (s.rxMapped width m).get x = ((s.put LM_STATUS.state 2).put LM_STATUS.rx_width width).get x :=
  State.get_foldl_put_other (v := fun k => if k < widthLanes width then mapLane m k else 7) (fun k hk => Fld.key_ne_of_addr_ne hxlo
    (by simp [LM_RX_MAP.lane]; have := List.mem_range.mp hk; omega) (by simp [LM_RX_MAP.lane, hx])) _

section
variable {width : BitVec 2} {m : BitVec 12}

theorem exec_linkLaneLock_of_bad (h : mapOk (widthLanes width.toNat) m = false) : exec (.linkLaneLock width m) s = .next s.settle :=
  if_pos (by simp [h])

variable (hrun : s.isl 23 < 2) (h1 : s.get LM_STATUS.state = 1)
include hrun h1

theorem exec_linkLaneLock_of_ok (h : mapOk (widthLanes width.toNat) m = true) :
    exec (.linkLaneLock width m) s = .next (s.laneLocked width.toNat m).settle :=
  if_neg (by simp [h, h1, State.linkRuns_of_lt hrun])

/-- The effect of LINK_LANE_LOCK. -/
theorem laneLock_effect (h : mapOk (widthLanes width.toNat) m = true) :
    ∃ u : State, exec (.linkLaneLock width m) s = .next u.settle ∧ u.get LM_STATUS.state = 2 ∧ u.get LM_STATUS.rx_width = width.toNat ∧
      ∀ k < 4, u.get (LM_RX_MAP.lane k) = if k < widthLanes width.toNat then mapLane m k else 7 := by
  refine ⟨_, exec_linkLaneLock_of_ok hrun h1 h, ?_, ?_, fun k hk => ?_⟩
  · rw [State.get_laneLocked (by decide) (by decide) (by decide), State.get_rxMapped_status rfl (by decide),
      State.get_put_other (by decide), State.get_put_self]
    rfl
  · rw [State.get_laneLocked (by decide) (by decide) (by decide), State.get_rxMapped_status rfl (by decide), State.get_put_self]
    exact Nat.mod_eq_of_lt width.isLt
  · rw [State.get_laneLocked (x := LM_RX_MAP.lane k) (by simp [LM_RX_MAP.lane]) (by simp [LM_RX_MAP.lane]; omega)
      (Fld.key_ne_of_lo_ne rfl (by simp [LM_RX_MAP.lane, LM_RX_MAP.spare]; omega)), State.get_rxMapped_lane hk]

end

/-! ## Deskew and SOF (R424, R426) -/

/-- The lanes in use in receive. -/
def State.rxActive (s : State) : List Nat := linkLanes.filter fun i => s.on (LM_LANE_STATUS.rx_use i)

theorem State.mem_rxActive {i : Nat} : i ∈ s.rxActive ↔ i < 5 ∧ s.get (LM_LANE_STATUS.rx_use i) ≠ 0 := by
  simp [State.rxActive, linkLanes, State.on]

/-- The skew of every lane in use is shown. -/
def State.skewed (s : State) (k : Nat) : State :=
  s.rxActive.foldl (fun s i => s.put (LM_LANE_STATUS.skew_ns i) (bitsOf k (8 * i) 8)) s

theorem State.get_skewed {i : Nat} (hi : i ∈ s.rxActive) (k : Nat) : (s.skewed k).get (LM_LANE_STATUS.skew_ns i) = bitsOf k (8 * i) 8 := by
  rw [State.skewed, State.get_foldl_put_self (v := fun i => bitsOf k (8 * i) 8) (fun j _ hj => Fld.key_ne_of_addr_ne
    (by simp [LM_LANE_STATUS.skew_ns]) (by simp [LM_LANE_STATUS.skew_ns]) (by simp [LM_LANE_STATUS.skew_ns]; omega)) hi]
  exact Nat.mod_mod _ _

section
variable {k : BitVec 40}

theorem exec_linkDeskewEnd_of_skewed (h : s.rxActive.any (fun i => decide (128 < bitsOf k.toNat (8 * i) 8)) = true) :
    exec (.linkDeskewEnd k) s = .next s.settle :=
  if_pos (by rw [Bool.or_eq_true]; exact .inr h)

variable (hrun : s.isl 23 < 2) (h2 : s.get LM_STATUS.state = 2)
include hrun h2

theorem exec_linkDeskewEnd_of_aligned (h : s.rxActive.any (fun i => decide (128 < bitsOf k.toNat (8 * i) 8)) = false) :
    exec (.linkDeskewEnd k) s = .next ((s.skewed k.toNat).put LM_STATUS.state 3).settle :=
  if_neg (by rw [State.linkRuns_of_lt hrun, h2]; exact Bool.eq_false_iff.mp h)

/-- The effect of LINK_DESKEW_END. -/
theorem deskewEnd_effect : ∃ u : State, exec (.linkDeskewEnd k) s = .next u.settle ∧
    ((∃ i < 5, s.get (LM_LANE_STATUS.rx_use i) ≠ 0 ∧ 128 < bitsOf k.toNat (8 * i) 8) → u = s) ∧
    ((∀ i < 5, s.get (LM_LANE_STATUS.rx_use i) ≠ 0 → bitsOf k.toNat (8 * i) 8 ≤ 128) → u.get LM_STATUS.state = 3 ∧
      ∀ i < 5, s.get (LM_LANE_STATUS.rx_use i) ≠ 0 → u.get (LM_LANE_STATUS.skew_ns i) = bitsOf k.toNat (8 * i) 8) := by
  cases h : s.rxActive.any (fun i => decide (128 < bitsOf k.toNat (8 * i) 8)) with
  | true =>
    refine ⟨s, exec_linkDeskewEnd_of_skewed h, fun _ => rfl, fun hall => ?_⟩
    obtain ⟨i, hi, hskew⟩ := List.any_eq_true.mp h
    obtain ⟨hlt, huse⟩ := State.mem_rxActive.mp hi
    exact absurd (of_decide_eq_true hskew) (Nat.not_lt.mpr (hall i hlt huse))
  | false =>
    refine ⟨_, exec_linkDeskewEnd_of_aligned hrun h2 h, fun ⟨i, hlt, huse, hskew⟩ => ?_, fun _ => ⟨State.get_put_self _ _ _, fun i hlt huse => ?_⟩⟩
    · exact absurd (decide_eq_true hskew) (by simpa using List.any_eq_false.mp h i (State.mem_rxActive.mpr ⟨hlt, huse⟩))
    · rw [State.get_put_other (Ne.symm (below_laneStatus_key_ne (by decide) (by decide) rfl (by simp [LM_LANE_STATUS.skew_ns]))),
        State.get_skewed (State.mem_rxActive.mpr ⟨hlt, huse⟩)]

end

section
variable (hrun : s.isl 23 < 2)
include hrun

theorem exec_linkSofLock_of_sof (h3 : s.get LM_STATUS.state = 3) : exec .linkSofLock s =
    .next (State.settle { s.put LM_STATUS.state 4 with link := { s.link with sendInit := true } }) :=
  next_settle_congr (if_neg (by simp [State.linkRuns_of_lt hrun, h3]))

/-! ## Init and Up (R426, R443, R444) -/

theorem State.initBlock_of_init (h4 : s.get LM_STATUS.state = 4) {p : Nat} (hp : p < 4) (n : Nat) : s.initBlock p n = { s with
    link := { s.link with inits := s.link.inits.filter (· != p) ++ [p], txAvail := nset p n s.link.txAvail } } := by
  have hup : s.linkUp = false := by simp [State.linkUp, h4]
  simp [State.initBlock, State.linkRuns_of_lt hrun, hup, h4, show ¬ 3 < p by omega]

theorem State.initBlock_of_up (h5 : s.get LM_STATUS.state = 5) {p : Nat} (hp : p < 4) (n : Nat) : s.initBlock p n = s.linkDown := by
  have hup : s.linkUp = true := by simp [State.linkUp, h5]
  simp [State.initBlock, State.linkRuns_of_lt hrun, hup, show ¬ 3 < p by omega]

omit hrun in
theorem exec_linkUp_of_waiting (h : ∃ p < 4, p ∉ s.link.inits) : exec .linkUp s = .next s.settle := by
  obtain ⟨p, hp, hnot⟩ := h
  have hall : (List.range 4).all (fun p => s.link.inits.contains p) = false :=
    List.all_eq_false.mpr ⟨p, List.mem_range.mpr hp, by simpa using hnot⟩
  exact if_pos (by rw [hall]; simp)

theorem exec_linkUp_of_inits (h4 : s.get LM_STATUS.state = 4) (h : ∀ p < 4, p ∈ s.link.inits) :
    exec .linkUp s = .next (State.irq { (s.put LM_STATUS.state 5).put LM_EVENT.link_up 1 with link := { s.link with
      nextTx := 0, nextRx := 0, naked := false, replays := 0, sendInit := false, lastMasked := 0 } }).upNotices.ringCopies.settle := by
  have hall : (List.range 4).all (fun p => s.link.inits.contains p) = true :=
    List.all_eq_true.mpr fun p hp => by simpa using h p (List.mem_range.mp hp)
  exact if_neg (by rw [State.linkRuns_of_lt hrun, h4, hall]; decide)

/-! ## A step that passes its limit (R426) -/

/-- Bring-up starts again at Signal. -/
def State.trainFailed (s : State) : State :=
  let u := ((s.inc LM_TRAIN_FAIL_CNT.count).put LM_STATUS.state 0).lanesUnlocked
  { u with link := { u.link with inits := [], sendInit := false, txAvail := [] } }

theorem exec_linkTrainTimeout_of_training (h : s.get LM_STATUS.state < 5) : exec .linkTrainTimeout s = .next s.trainFailed.settle :=
  if_neg (by simp [State.linkRuns_of_lt hrun]; omega)

end

theorem State.get_trainFailed (s : State) (x : Fld) :
    s.trainFailed.get x = ((s.inc LM_TRAIN_FAIL_CNT.count).put LM_STATUS.state 0).lanesUnlocked.get x := by
  refine State.get_eq_of_fld ?_ x
  simp only [State.trainFailed]

theorem State.get_trainFailed_state (s : State) : s.trainFailed.get LM_STATUS.state = 0 := by
  rw [State.get_trainFailed, State.get_lanesUnlocked (by decide) (.inl (by decide)), State.get_put_self]
  rfl

theorem State.get_trainFailed_count (s : State) :
    s.trainFailed.get LM_TRAIN_FAIL_CNT.count = min (s.get LM_TRAIN_FAIL_CNT.count + 1) (2 ^ 32 - 1) := by
  rw [State.get_trainFailed, State.get_lanesUnlocked (by decide) (.inr (by decide)), State.get_put_other (by decide), State.inc,
    State.get_incBy_self]
  rfl

/-- Settles O52: bring-up step by step, and the ways down. -/
theorem linkBringUpAndDown : Obligations.LinkBringUpAndDown := by
  unfold Obligations.LinkBringUpAndDown
  intro s hrun
  refine ⟨signalDetect_effect hrun, fun h1 width m => ⟨exec_linkLaneLock_of_bad, laneLock_effect hrun h1⟩,
    fun h2 k => deskewEnd_effect hrun h2, exec_linkSofLock_of_sof hrun,
    fun h4 p hp n => next_settle_congr (State.initBlock_of_init hrun h4 hp _), fun _ => exec_linkUp_of_waiting, fun h4 h => ?_,
    fun h => ⟨_, exec_linkTrainTimeout_of_training hrun h, State.get_trainFailed_state s, State.get_trainFailed_count s, rfl⟩,
    fun h2 h5 b => ⟨exec_linkDown_of_sound hrun h2 h5 b, exec_linkDown_of_cut hrun h2 h5 b, fun f => exec_linkDown_of_swap hrun h2 h5 b⟩,
    fun h5 p hp n => next_settle_congr (State.initBlock_of_up hrun h5 hp _), exec_linkRetrain_of_runs hrun,
    fun u => ⟨State.get_linkDown_state u, State.get_linkDown_event u, State.get_linkDown_count u, State.linkDown_link u⟩⟩
  intro w
  have hup : w.get LM_STATUS.state = 5 :=
    (State.get_eq_of_fld (u := (s.put LM_STATUS.state 5).put LM_EVENT.link_up 1) rfl _).trans
      ((State.get_put_other (by decide) _ _).trans (State.get_put_self _ _ _))
  exact ⟨exec_linkUp_of_inits hrun h4 h, by simp [State.linkUp, hup]⟩

end Sys2Proof.Machine
end

section
/-! PROOFS. Messages, replays, marker columns and lane swaps of the Linman link (R423, R424, R428, R431 to R434, R444). -/

namespace Sys2Proof.Machine

variable {s : State}

/-! ## Replays (R432) -/

/-- An item that waits for the line and is no message. -/
def LinkItem.isControl (x : LinkItem) : Bool := match x with | .msg _ _ => false | _ => true

/-- The unacknowledged messages go out again, after what else waits. -/
def State.replayed (s : State) : State := { s.inc LM_REPLAY_CNT.count with link := { s.link with
  replays := s.link.replays + 1
  line := { s.link.line with queue := s.link.line.queue.filter LinkItem.isControl ++ s.link.unacked.map fun e => LinkItem.msg e.1 e.2 } } }

theorem State.replay_of_none (h : s.link.unacked = []) : s.replay = s := if_pos (by simp [h])

section
variable (h : s.link.unacked ≠ [])
include h

theorem State.replay_eq : s.replay =
    if 8 ≤ s.link.replays + 1 then (s.replayed.set1 LM_EVENT.replay_fail).linkDown else s.replayed :=
  if_neg (by simpa using h)

theorem State.replay_of_few (h7 : s.link.replays < 7) : s.replay = s.replayed := by
  rw [State.replay_eq h, if_neg (by omega)]

/-- The eighth replay in a row takes the link down. -/
theorem State.replay_of_many (h7 : 7 ≤ s.link.replays) : s.replay = (s.replayed.set1 LM_EVENT.replay_fail).linkDown := by
  rw [State.replay_eq h, if_pos (by omega)]

theorem State.get_replay_of_many (h7 : 7 ≤ s.link.replays) :
    s.replay.get LM_STATUS.state = 0 ∧ s.replay.get LM_EVENT.replay_fail = 1 := by
  rw [State.replay_of_many h h7]
  refine ⟨State.get_linkDown_state _, ?_⟩
  rw [State.get_linkDown_other (by decide) (.inl (by decide)) (by decide) (by decide) (by decide), State.set1, State.get_put_self]
  rfl

end

/-! ## Acknowledges, credits and messages (R431, R433) -/

/-- An item that still waits for the line when only some messages are left to acknowledge. -/
def LinkItem.keptBy (left : List (Nat × LMsg)) (x : LinkItem) : Bool :=
  match x with | .msg n _ => left.any fun e => e.1 == n | _ => true

/-- Every message up to the one named is acknowledged. -/
def State.acked (s : State) (q : Nat) : State :=
  let left := ackUpTo q s.link.unacked
  { s with link := { s.link with
    unacked := left
    replays := if left.length < s.link.unacked.length then 0 else s.link.replays
    line := { s.link.line with queue := s.link.line.queue.filter (LinkItem.keptBy left) } } }

/-- An ACK drops the messages up to the one it names. -/
theorem ackUpTo_split {n : Nat} {m : LMsg} {a b : List (Nat × LMsg)} (h : ∀ e ∈ a, e.1 ≠ n) : ackUpTo n (a ++ (n, m) :: b) = b := by
  have hdrop : (a ++ (n, m) :: b).dropWhile (fun e => e.1 != n) = (n, m) :: b := by
    rw [List.dropWhile_append_of_pos fun e he => by simpa using h e he]
    simp
  unfold ackUpTo
  rw [if_pos (by simp), hdrop]
  rfl

/-- A message that is not the one expected is answered with a nak. -/
def State.nakSent (s : State) : State := { s.inc LM_CRC_ERR_CNT.count with link := { s.link with
  naked := true, line := s.link.line.push (.ack true ((s.link.nextRx + 4095) % 4096)) } }

/-- The message expected is accepted and acknowledged. -/
def State.expectNext (s : State) : State := { s with link := { s.link with
  nextRx := (s.link.nextRx + 1) % 4096, naked := false, line := s.link.line.push (.ack false s.link.nextRx) } }

section
variable (hrun : s.isl 23 < 2) (hup : s.linkUp = true)
include hrun hup

theorem State.ackBlock_of_up (nak : Bool) (q : Nat) :
    s.ackBlock nak q = (if nak then (s.acked q).replay else s.acked q).pumpLink :=
  if_neg (by simp [State.linkRuns_of_lt hrun, hup])

theorem State.creditBlock_of_up {p : Nat} (hp : p < 4) (n : Nat) : s.creditBlock p n = State.pumpLink { s with link := { s.link with
    txAvail := nset p (mgetD p 0 s.link.txAvail + n) s.link.txAvail } } :=
  if_neg (by simp [State.linkRuns_of_lt hrun, hup]; omega)

theorem State.messageIn_eq (p q : Nat) (b : Bool) (l : List (BitVec 64)) : s.messageIn p q b l =
    if b = true ∧ q = s.link.nextRx then s.expectNext.takeMsg p l else if s.link.naked then s else s.nakSent :=
  if_neg (by simp [State.linkRuns_of_lt hrun, hup])

theorem State.messageIn_of_next {q : Nat} (h : q = s.link.nextRx) (p : Nat) (l : List (BitVec 64)) :
    s.messageIn p q true l = s.expectNext.takeMsg p l := by
  rw [State.messageIn_eq hrun hup, if_pos ⟨rfl, h⟩]

section
variable {q : Nat} {b : Bool} (h : b = false ∨ q ≠ s.link.nextRx) (p : Nat) (l : List (BitVec 64))
include h

theorem State.messageIn_of_first (hn : s.link.naked = false) : s.messageIn p q b l = s.nakSent := by
  rw [State.messageIn_eq hrun hup, if_neg (fun ⟨hb, hq⟩ => h.elim (fun h0 => by simp [h0] at hb) (· hq)), if_neg (by simp [hn])]

theorem State.messageIn_of_later (hn : s.link.naked = true) : s.messageIn p q b l = s := by
  rw [State.messageIn_eq hrun hup, if_neg (fun ⟨hb, hq⟩ => h.elim (fun h0 => by simp [h0] at hb) (· hq)), if_pos hn]

end

theorem exec_replayTimeout_of_up : exec .replayTimeout s = .next s.replay.settle := if_pos (by simp [State.linkRuns_of_lt hrun, hup])

end

theorem exec_intResend_of_standing (hrun : s.isl 23 < 2) (hres : s.get LM_INT_CFG.resend_us ≠ 0) (hlast : s.link.lastMasked ≠ 0)
    (hmask : s.hostMasked ≠ 0) : exec .intResend s = .next (s.sendInt s.hostMasked).settle :=
  if_pos ⟨State.linkRuns_of_lt hrun, hres, hlast, hmask⟩

/-! ## The SOF of the sender (R424, R434) -/

theorem bne_zero_eq_decide : (fun e : Nat × Nat => e.2 != 0) = fun e => decide (e.2 ≠ 0) := by
  funext e
  by_cases h : e.2 = 0 <;> simp [h]

/-- The credits due and the INIT blocks go out with the SOF. -/
theorem exec_sofTick_of_runs (hrun : s.isl 23 < 2) : exec .sofTick s = .next (State.settle { s with link := { s.link with
    frameNo := (s.link.frameNo + 1) % 2 ^ 32, credOut := []
    line := (((s.link.credOut.filter fun e => e.2 ≠ 0).map fun e => LinkItem.credit e.1 e.2) ++
      if s.link.sendInit then [LinkItem.init 0 64, .init 1 1024, .init 2 2048, .init 3 0] else []).foldl Line.push
        { s.link.line with sofDue := true } } }) := by
  rw [← bne_zero_eq_decide]
  exact if_neg (by simp [State.linkRuns_of_lt hrun])

/-! ## Marker columns (R423) -/

/-- A block of a column goes out on a physical lane. -/
def State.sendBlock (plain marker : Bool) (f : Nat → LinkBlk) (s : State) (i : Nat) : State :=
  let l : TxLane := mgetD i {} s.link.line.tx
  let st := l.scr.getD ((List.range 58).map (bit1 (Config.linkSeed i)))
  let r := if plain then (st, (f i).octets) else scrOctets true st (f i).octets
  { s with link := { s.link with line := { s.link.line with
    tx := mset i { scr := some r.1, bip := if marker then 0 else l.bip ^^^ bipOf r.2 } s.link.line.tx
    column := s.link.line.column ++ [(i, { f i with octets := r.2 })] } } }

/-- The lanes that the Bench does not hold. -/
def State.freeLanes (s : State) : List Nat := linkLanes.filter fun i => !s.on (BENCH_CFG.en (64 + i))

/-- A state with no block of a column sent. -/
def State.columnBegun (s : State) : State := { s with link := { s.link with line := { s.link.line with column := [] } } }

theorem State.sendColumn_eq (s : State) (plain marker : Bool) (f : Nat → LinkBlk) :
    s.sendColumn plain marker f = s.freeLanes.foldl (State.sendBlock plain marker f) s.columnBegun := rfl

/-- The lanes of a column are those it went out on, in order. -/
theorem lanes_foldl_sendBlock (plain marker : Bool) (f : Nat → LinkBlk) (l : List Nat) (s : State) :
    (l.foldl (State.sendBlock plain marker f) s).link.line.column.map (·.1) = s.link.line.column.map (·.1) ++ l := by
  induction l generalizing s with
  | nil => simp
  | cons i l ih => simp [List.foldl_cons, ih, State.sendBlock]

/-- A column leaves the registers and the steps of a swap. -/
theorem State.sendColumn_keeps (s : State) (plain marker : Bool) (f : Nat → LinkBlk) :
    (s.sendColumn plain marker f).fld = s.fld ∧ (s.sendColumn plain marker f).link.swap = s.link.swap ∧
      (s.sendColumn plain marker f).link.markerCount = s.link.markerCount := by
  rw [State.sendColumn_eq]
  refine ⟨foldl_keeps State.fld (fun u i _ => ?_) s.columnBegun, foldl_keeps (fun u : State => u.link.swap) (fun u i _ => ?_) s.columnBegun,
    foldl_keeps (fun u : State => u.link.markerCount) (fun u i _ => ?_) s.columnBegun⟩ <;> rfl

theorem State.fld_markerColumn (s : State) (left : Option Nat) : (s.markerColumn left).fld = s.fld := (State.sendColumn_keeps s _ _ _).1

theorem State.swap_markerColumn (s : State) (left : Option Nat) : (s.markerColumn left).link.swap = s.link.swap :=
  (State.sendColumn_keeps s _ _ _).2.1

theorem State.markerCount_markerColumn (s : State) (left : Option Nat) : (s.markerColumn left).link.markerCount = s.link.markerCount :=
  (State.sendColumn_keeps s _ _ _).2.2

theorem State.lanes_markerColumn (s : State) (left : Option Nat) :
    (s.markerColumn left).link.line.column.map (·.1) = s.freeLanes := by
  refine Eq.trans ?_ (lanes_foldl_sendBlock true true (s.markerBlk left) s.freeLanes s.columnBegun)
  rfl

/-! ## Lane swaps (R428, R429) -/

theorem State.link_benchEnd (s : State) (i : Nat) : (s.benchEnd i).link = s.link := by
  unfold State.benchEnd
  split
  · unfold State.benchSearch
    split
    · split <;> rfl
    · rfl
  · rfl

theorem State.markerCount_linkDown (s : State) : s.linkDown.link.markerCount = s.link.markerCount := by
  simp only [State.linkDown, State.link_lanesUnlocked, State.put_link, State.set1_link, State.inc_link]

theorem State.markerCount_widthCut (s : State) (bad : List Nat) : (s.widthCut bad).link.markerCount = s.link.markerCount := by
  have hret : (bad.foldl (fun s f => State.setBit s LM_TX_MAP.retired f) s).link = s.link :=
    foldl_keeps State.link (f := fun u f => State.setBit u LM_TX_MAP.retired f) (fun _ _ _ => rfl) s
  simp only [State.widthCut, State.link_txUse, State.markerCount_linkDown, State.put_link, State.set1_link]
  split
  · rw [hret]
  · rw [foldl_keeps State.link (f := fun u k => State.put u (LM_TX_MAP.lane k) _) (fun _ _ _ => rfl), hret]

theorem State.markerCount_swapLane (s : State) (f : Nat) : (s.swapLane f).link.markerCount = s.link.markerCount := by
  unfold State.swapLane
  split
  · rfl
  · split
    · split
      · dsimp only
        split <;> rfl
      · rfl
    · dsimp only
      split
      · exact State.markerCount_widthCut s [f]
      · simp only [State.set1_link, State.link_benchEnd]

theorem State.markerCount_swapNext (s : State) : s.swapNext.link.markerCount = s.link.markerCount := by
  unfold State.swapNext
  split
  · rfl
  · split
    · exact State.markerCount_swapLane _ _
    · rfl

theorem State.markerCount_swapEnd (s : State) : s.swapEnd.link.markerCount = s.link.markerCount := by
  simp only [State.swapEnd, State.markerCount_swapNext, State.link_txUse, State.set1_link, State.inc_link, State.setBit_link,
    State.put_link]
  split <;> rfl

/-! ## MARKER_COLUMN -/

/-- A marker column counts on, and the errors of the receive lanes are counted. -/
def State.markersCounted (s : State) (bipBad badBlocks : Nat) : State :=
  let sp := s.get LM_TX_MAP.spare
  let m := if sp = 7 ∨ s.on (BENCH_CFG.en (64 + sp)) then 0 else min 4 (s.link.spareMarkers + 1)
  let s1 : State := { s with link := { s.link with markerCount := (s.link.markerCount + 1) % 65536, spareMarkers := m } }
  ((bitList 5 bipBad).foldl (fun s i => s.inc (LM_LANE_BIP_CNT.count i)) s1).incBy LM_BLOCK_ERR_CNT.count badBlocks

theorem State.link_markersCounted (s : State) (bipBad badBlocks : Nat) :
    (s.markersCounted bipBad badBlocks).link.swap = s.link.swap ∧
      (s.markersCounted bipBad badBlocks).link.markerCount = (s.link.markerCount + 1) % 65536 := by
  have hlink := fun u : State => foldl_keeps (l := bitList 5 bipBad) State.link
    (f := fun u i => State.inc u (LM_LANE_BIP_CNT.count i)) (fun _ _ _ => rfl) u
  simp only [State.markersCounted, State.incBy_link, hlink, and_self]

/-- The counts of a lane leave every register before them. -/
theorem State.get_foldl_bipCnt {x : Fld} (hx : x.addr < 0xB0000140) (hxlo : x.lo < 32) (l : List Nat) (s : State) :
    (l.foldl (fun s i => s.inc (LM_LANE_BIP_CNT.count i)) s).get x = s.get x :=
  foldl_keeps (fun u => State.get u x) (f := fun u i => State.inc u (LM_LANE_BIP_CNT.count i)) (fun u i _ =>
    State.get_put_other (Fld.key_ne_of_addr_ne hxlo (by simp [LM_LANE_BIP_CNT.count]) (by simp [LM_LANE_BIP_CNT.count]; omega)) u _) s

theorem State.get_markersCounted_other {x : Fld} (hx : x.addr < 0xB0000140) (hxlo : x.lo < 32) (hcnt : x.key ≠ LM_BLOCK_ERR_CNT.count.key)
    (s : State) (bipBad badBlocks : Nat) : (s.markersCounted bipBad badBlocks).get x = s.get x := by
  rw [State.markersCounted, State.incBy_eq, State.get_put_other hcnt, State.get_foldl_bipCnt hx hxlo]
  exact State.get_eq_of_fld rfl x

theorem State.get_markersCounted_blockErr (s : State) (bipBad badBlocks : Nat) :
    (s.markersCounted bipBad badBlocks).get LM_BLOCK_ERR_CNT.count = min (s.get LM_BLOCK_ERR_CNT.count + badBlocks) (2 ^ 32 - 1) := by
  rw [State.markersCounted, State.get_incBy_self, State.get_foldl_bipCnt (by decide) (by decide)]
  rfl

theorem State.freeLanes_markersCounted (s : State) (bipBad badBlocks : Nat) :
    (s.markersCounted bipBad badBlocks).freeLanes = (List.range 5).filter fun i => s.get (BENCH_CFG.en (64 + i)) = 0 := by
  refine List.filter_congr fun i hi => ?_
  have hlt : i < 5 := List.mem_range.mp hi
  rw [State.on, State.get_markersCounted_other (by simp [BENCH_CFG.en]; omega) (by simp [BENCH_CFG.en])
    (Fld.key_ne_of_addr_ne (by simp [BENCH_CFG.en]) (by decide) (by simp [BENCH_CFG.en, LM_BLOCK_ERR_CNT.count]; omega))]
  by_cases h0 : s.get (BENCH_CFG.en (64 + i)) = 0 <;> simp [h0]

section
variable (hrun : s.isl 23 < 2) (b : BitVec 5) (n : BitVec 16)
include hrun

theorem exec_markerColumn_of_runs : exec (.markerColumn b n) s =
    (let w := s.markersCounted b.toNat n.toNat
      if w.link.swap = .mirror then ((State.txUse { w with link := { w.link with swap := .switch } }).markerColumn none).done
      else if w.link.swap = .switch then (w.swapEnd.markerColumn (some w.link.swapLane)).done
      else (w.markerColumn none).done) :=
  if_neg (by simp [State.linkRuns_of_lt hrun])

/-- The effect of MARKER_COLUMN, by the step of the swap that runs. -/
theorem markerColumn_effect :
    ∃ u : State, exec (.markerColumn b n) s = .next u.settle ∧ u.link.markerCount = (s.link.markerCount + 1) % 65536 ∧
      (s.link.swap = .mirror → u.link.swap = .switch) ∧ (s.link.swap = .prepare → u.link.swap = .prepare) ∧
      (s.link.swap = .none → u.link.line.column.map (·.1) = (List.range 5).filter (fun i => s.get (BENCH_CFG.en (64 + i)) = 0) ∧
        u.get LM_SWAP_CNT.count = s.get LM_SWAP_CNT.count ∧
        u.get LM_BLOCK_ERR_CNT.count = min (s.get LM_BLOCK_ERR_CNT.count + n.toNat) (2 ^ 32 - 1)) := by
  rw [exec_markerColumn_of_runs hrun]
  obtain ⟨hswap, hcount⟩ := State.link_markersCounted s b.toNat n.toNat
  simp only [hswap]
  have hplain : ∀ left, ((s.markersCounted b.toNat n.toNat).markerColumn left).link.markerCount = (s.link.markerCount + 1) % 65536 ∧
      ((s.markersCounted b.toNat n.toNat).markerColumn left).link.swap = s.link.swap := fun left =>
    ⟨(State.markerCount_markerColumn _ _).trans hcount, (State.swap_markerColumn _ _).trans hswap⟩
  cases hs : s.link.swap with
  | mirror =>
    refine ⟨_, rfl, ?_, fun _ => ?_, nofun, nofun⟩
    · rw [State.markerCount_markerColumn, State.link_txUse]
      exact hcount
    · rw [State.swap_markerColumn, State.link_txUse]
  | switch =>
    refine ⟨_, rfl, ?_, nofun, nofun, nofun⟩
    rw [State.markerCount_markerColumn, State.markerCount_swapEnd, hcount]
  | prepare => exact ⟨_, rfl, (hplain none).1, nofun, fun _ => (hplain none).2.trans hs, nofun⟩
  | none =>
    refine ⟨_, rfl, (hplain none).1, nofun, nofun, fun _ => ⟨?_, ?_, ?_⟩⟩
    · rw [State.lanes_markerColumn, State.freeLanes_markersCounted]
    · rw [State.get_eq_of_fld (State.fld_markerColumn _ _), State.get_markersCounted_other (by decide) (by decide) (by decide)]
    · rw [State.get_eq_of_fld (State.fld_markerColumn _ _), State.get_markersCounted_blockErr]

theorem exec_laneSwapGo_of_runs (d : BitVec 32) : exec (.laneSwapGo d) s =
    .next (let w := (s.ungate 23).put LM_CTRL.swap_lane (LM_CTRL.swap_lane.of d.toNat)
      if bit1 d.toNat 31 then w.swapLane (w.get LM_CTRL.swap_lane) else w).settle := by
  rw [← State.done_ite]
  exact if_neg (by simp [State.linkRuns_of_lt hrun])

end

theorem exec_laneSwapPrepareEnd_of_prepare (h : s.link.swap = .prepare) : exec .laneSwapPrepareEnd s =
    .next (State.settle { s with link := { s.link with swap := .mirror, spareMarkers := 4 } }) := if_pos h

/-- Settles O54: what each block, timer and column does. -/
theorem linkMessagesReplaysAndSwaps : Obligations.LinkMessagesReplaysAndSwaps := by
  unfold Obligations.LinkMessagesReplaysAndSwaps
  intro s hrun
  have hcontrol : LinkItem.isControl = fun x => !(match x with | .msg _ _ => true | _ => false) := funext fun x => by cases x <;> rfl
  refine ⟨fun hup => ⟨fun q => ?_, fun p n hp => next_settle_congr (State.creditBlock_of_up hrun hup hp _), fun p q l => ⟨fun h =>
      next_settle_congr (State.messageIn_of_next hrun hup h _ l), fun b h hn => next_settle_congr (State.messageIn_of_first hrun hup h _ l hn),
      fun b h hn => next_settle_congr (State.messageIn_of_later hrun hup h _ l hn)⟩, exec_replayTimeout_of_up hrun hup,
      exec_intResend_of_standing hrun⟩, State.replay_of_none, ?_, fun n m a b => ackUpTo_split, exec_sofTick_of_runs hrun,
    markerColumn_effect hrun, exec_laneSwapPrepareEnd_of_prepare, fun d => ?_⟩
  · exact ⟨next_settle_congr (State.ackBlock_of_up hrun hup false _), next_settle_congr (State.ackBlock_of_up hrun hup true _)⟩
  · intro isMsg again hne
    refine ⟨fun h7 => (State.replay_of_few hne h7).trans ?_, State.get_replay_of_many hne⟩
    rewrite [State.replayed, hcontrol]
    rfl
  · rw [exec_laneSwapGo_of_runs hrun]
    simp only [State.get_put_of]

end Sys2Proof.Machine
end

section
/-! PROOFS. Policy cores, firmware loads, work queues and send rings (R509, R510, R515, R516). -/

namespace Sys2Proof.Machine

variable {s : State}

/-! ## Registers that an entry of the Trouble Log and a core's record leave -/

theorem State.get_tlog_other {x : Fld} (hhead : x.key ≠ REL_TLOG_HEAD.head.key) (hwrap : x.key ≠ REL_TLOG_HEAD.wrapped.key)
    (hevent : x.key ≠ REL_EVENT.tlog_wrap.key) (s : State) (kind : Nat) (src : Src) (arg : Nat) : (s.tlog kind src arg).get x = s.get x := by
  unfold State.tlog
  dsimp only
  split
  · rw [State.set1, State.get_put_other hevent, State.set1, State.get_put_other hwrap, State.get_put_other hhead]
    exact State.get_eq_of_fld rfl x
  · rw [State.get_put_other hhead]
    exact State.get_eq_of_fld rfl x

theorem State.tlogSeq_tlog (s : State) (kind : Nat) (src : Src) (arg : Nat) : (s.tlog kind src arg).rel.tlogSeq = s.rel.tlogSeq + 1 := by
  unfold State.tlog
  dsimp only
  split <;> rfl

/-- A register outside POL_CORE is none of it. -/
theorem polCore_key_ne {x f : Fld} {c : Nat} (hx : x.addr < 0xD0008040 ∨ 0xD0008068 ≤ x.addr) (hxlo : x.lo < 32)
    (hf : f.addr = 0xD0008040 + 0x4 * c) (hflo : f.lo < 32) (hc : c < 10) : x.key ≠ f.key :=
  Fld.key_ne_of_addr_ne hxlo hflo (by omega)

/-- POL_CORE is nothing below 0xD0008040. -/
theorem polCore_key_ne_below {x f : Fld} {c : Nat} (hx : x.addr = 0xD0008040 + 0x4 * c) (hxlo : x.lo < 32) (hf : f.addr < 0xD0008040)
    (hflo : f.lo < 32) : x.key ≠ f.key :=
  Fld.key_ne_of_addr_ne hxlo hflo (by omega)

/-! ## Crashes (R509) -/

/-- The crashes of a core within 60 s, before one that comes now. -/
def State.recentCrashes (s : State) (c : Nat) : List Nat := (mgetD c [] s.rel.crashUs).filter fun u => decide (s.us < u + 60000000)

/-- The registers of a crash: its count, its entry of the Trouble Log, its reason and the interrupt. -/
def State.crashShown (s : State) (c reason : Nat) : State :=
  (((s.inc POL_CRASH_CNT.count).tlog 0x0A .pol (c + reason * 16)).put (POL_CORE.last_reason c) reason).set1 MGT_INT_AUX.pol_crash

/-- A crash as it is noted, the core not yet restarted or retired. -/
def State.crashNoted (s : State) (c reason : Nat) : State :=
  let l := s.recentCrashes c ++ [s.us]
  let u := s.crashShown c reason
  { u.put (POL_CORE.crashes c) (min 15 l.length) with rel := { u.rel with crashUs := mset c l u.rel.crashUs } }

theorem State.crashCore_of_away {c : Nat} (h : s.get (POL_CORE.state c) ≠ 0) (reason : Nat) : s.crashCore c reason = s := if_pos h

theorem State.crashCore_of_active {c : Nat} (h : s.get (POL_CORE.state c) = 0) (reason : Nat) : s.crashCore c reason =
    if 3 ≤ (s.recentCrashes c ++ [s.us]).length then (s.crashNoted c reason).failPart 4 c
    else (s.crashNoted c reason).put (POL_CORE.state c) 2 := if_neg (by simp [h])

theorem State.crashCore_of_few {c : Nat} (h : s.get (POL_CORE.state c) = 0) (hfew : (s.recentCrashes c).length < 2) (reason : Nat) :
    s.crashCore c reason = (s.crashNoted c reason).put (POL_CORE.state c) 2 := by
  rw [State.crashCore_of_active h, if_neg (by rw [List.length_append, List.length_singleton]; omega)]

theorem State.crashCore_of_third {c : Nat} (h : s.get (POL_CORE.state c) = 0) (hmany : 2 ≤ (s.recentCrashes c).length) (reason : Nat) :
    s.crashCore c reason = (s.crashNoted c reason).failPart 4 c := by
  rw [State.crashCore_of_active h, if_pos (by rw [List.length_append, List.length_singleton]; omega)]

section
variable {c : Nat}

theorem State.get_crashNoted {x : Fld} (h : x.key ≠ (POL_CORE.crashes c).key) (s : State) (reason : Nat) :
    (s.crashNoted c reason).get x = (s.crashShown c reason).get x := by
  rw [← State.get_put_other h (s.crashShown c reason) (min 15 (s.recentCrashes c ++ [s.us]).length)]
  exact State.get_eq_of_fld (by simp only [State.crashNoted]) x

/-- What a core's record reads, the fields of a crash apart, a crash leaves. -/
theorem State.get_crashNoted_core {x : Fld} (hc : c < 10) (hx : x.addr = 0xD0008040 + 0x4 * c) (hxlo : x.lo < 32)
    (hcrashes : x.key ≠ (POL_CORE.crashes c).key) (hreason : x.key ≠ (POL_CORE.last_reason c).key) (s : State) (reason : Nat) :
    (s.crashNoted c reason).get x = s.get x := by
  rw [State.get_crashNoted hcrashes, State.crashShown, State.set1, State.get_put_other (polCore_key_ne_below hx hxlo (by decide) (by decide)),
    State.get_put_other hreason, State.get_tlog_other (polCore_key_ne_below hx hxlo (by decide) (by decide))
      (polCore_key_ne_below hx hxlo (by decide) (by decide)) (polCore_key_ne_below hx hxlo (by decide) (by decide)),
    State.inc, State.incBy_eq, State.get_put_other (Ne.symm (polCore_key_ne (.inr (by decide)) (by decide) hx hxlo hc))]

theorem State.get_crashNoted_state (hc : c < 10) (s : State) (reason : Nat) :
    (s.crashNoted c reason).get (POL_CORE.state c) = s.get (POL_CORE.state c) :=
  State.get_crashNoted_core (x := POL_CORE.state c) hc rfl (by simp [POL_CORE.state]) (Fld.key_ne_of_lo_ne rfl (by simp [POL_CORE.state, POL_CORE.crashes]))
    (Fld.key_ne_of_lo_ne rfl (by simp [POL_CORE.state, POL_CORE.last_reason])) s reason

theorem State.get_crashNoted_reason {reason : Nat} (hr : reason < 16) (s : State) :
    (s.crashNoted c reason).get (POL_CORE.last_reason c) = reason := by
  rw [State.get_crashNoted (x := POL_CORE.last_reason c) (Fld.key_ne_of_lo_ne rfl (by simp [POL_CORE.last_reason, POL_CORE.crashes])),
    State.crashShown, State.set1,
    State.get_put_other (polCore_key_ne_below (x := POL_CORE.last_reason c) rfl (by simp [POL_CORE.last_reason]) (by decide) (by decide)),
    State.get_put_self, Nat.mod_eq_of_lt]
  simpa [POL_CORE.last_reason] using hr

theorem State.get_crashNoted_count (hc : c < 10) (s : State) (reason : Nat) :
    (s.crashNoted c reason).get POL_CRASH_CNT.count = min (s.get POL_CRASH_CNT.count + 1) (2 ^ 32 - 1) := by
  rw [State.get_crashNoted (polCore_key_ne (.inr (by decide)) (by decide) rfl (by simp [POL_CORE.crashes]) hc), State.crashShown,
    State.set1, State.get_put_other (by decide),
    State.get_put_other (polCore_key_ne (.inr (by decide)) (by decide) rfl (by simp [POL_CORE.last_reason]) hc),
    State.get_tlog_other (by decide) (by decide) (by decide), State.inc, State.get_incBy_self]
  rfl

theorem State.get_crashNoted_int (hc : c < 10) (s : State) (reason : Nat) : (s.crashNoted c reason).get MGT_INT_AUX.pol_crash = 1 := by
  rw [State.get_crashNoted (polCore_key_ne (.inl (by decide)) (by decide) rfl (by simp [POL_CORE.crashes]) hc), State.crashShown,
    State.set1, State.get_put_self]
  rfl

theorem State.tlogSeq_crashNoted (s : State) (reason : Nat) : (s.crashNoted c reason).rel.tlogSeq = s.rel.tlogSeq + 1 := by
  simp only [State.crashNoted, State.crashShown, State.set1_rel, State.put_rel, State.tlogSeq_tlog, State.inc_rel]

/-- An active core still serves as its crash is noted. -/
theorem State.partServes_crashNoted (hc : c < 10) (h : s.get (POL_CORE.state c) = 0) (reason : Nat) :
    (s.crashNoted c reason).partServes 4 c = true := by
  simp [State.partServes, hc, State.get_crashNoted_state hc, h]

/-- A field other than the state of the core reads, as the core restarts, as the crash was noted. -/
theorem State.get_crashRestart {x : Fld} (h : x.key ≠ (POL_CORE.state c).key) (s : State) (reason : Nat) :
    ((s.crashNoted c reason).put (POL_CORE.state c) 2).get x = (s.crashNoted c reason).get x := State.get_put_other h _ _

theorem polCore_reason_key_ne_state (c : Nat) : (POL_CORE.last_reason c).key ≠ (POL_CORE.state c).key :=
  Fld.key_ne_of_lo_ne rfl (by simp [POL_CORE.state, POL_CORE.last_reason])

end

theorem exec_polWatchdogExpiry (s : State) (c : Fin 10) : exec (.polWatchdogExpiry c) s = .next (s.crashCore c.val 1).settle := rfl

theorem exec_polFatalTrap (s : State) (c : Fin 10) : exec (.polFatalTrap c) s = .next (s.crashCore c.val 2).settle := rfl

/-- An active core that crashes less than the third time in 60 s restarts. -/
theorem crash_restarts {c : Fin 10} (h : s.get (POL_CORE.state c.val) = 0)
    (hfew : ((mgetD c.val [] s.rel.crashUs).filter fun u => decide (s.us < u + 60000000)).length < 2) :
    ∃ u v : State, exec (.polWatchdogExpiry c) s = .next u.settle ∧ exec (.polFatalTrap c) s = .next v.settle ∧
      u.get (POL_CORE.state c.val) = 2 ∧ v.get (POL_CORE.state c.val) = 2 ∧ u.get (POL_CORE.last_reason c.val) = 1 ∧
      v.get (POL_CORE.last_reason c.val) = 2 ∧ u.get POL_CRASH_CNT.count = min (s.get POL_CRASH_CNT.count + 1) (2 ^ 32 - 1) ∧
      u.rel.tlogSeq = s.rel.tlogSeq + 1 ∧ u.get MGT_INT_AUX.pol_crash = 1 := by
  have hlo : (POL_CORE.state c.val).lo < 32 := by simp [POL_CORE.state]
  refine ⟨_, _, (exec_polWatchdogExpiry s c).trans (next_settle_congr (State.crashCore_of_few h hfew 1)),
    (exec_polFatalTrap s c).trans (next_settle_congr (State.crashCore_of_few h hfew 2)), State.get_put_self _ _ _,
    State.get_put_self _ _ _, ?_, ?_, ?_, ?_, ?_⟩
  · rw [State.get_crashRestart (polCore_reason_key_ne_state c.val), State.get_crashNoted_reason (by decide)]
  · rw [State.get_crashRestart (polCore_reason_key_ne_state c.val), State.get_crashNoted_reason (by decide)]
  · rw [State.get_crashRestart (polCore_key_ne (.inr (by decide)) (by decide) rfl hlo c.isLt), State.get_crashNoted_count c.isLt]
  · rw [State.put_rel, State.tlogSeq_crashNoted]
  · rw [State.get_crashRestart (polCore_key_ne (.inl (by decide)) (by decide) rfl hlo c.isLt), State.get_crashNoted_int c.isLt]

theorem exec_polCoreRestarted_of_other {c : Fin 10} (h : s.get (POL_CORE.state c.val) ≠ 2) : exec (.polCoreRestarted c) s = .next s.settle :=
  if_pos h

theorem exec_polCoreRestarted_of_restarting {c : Fin 10} (h : s.get (POL_CORE.state c.val) = 2) (hfw : s.rel.fwLoading = false) :
    exec (.polCoreRestarted c) s = .next (s.put (POL_CORE.state c.val) 0).settle :=
  (if_neg (by simp [h])).trans (if_neg (by simp [hfw]))

/-! ## A firmware load (R510) -/

theorem State.fwLoad_of_refused (h : s.structured = false ∨ s.rel.fwLoading = true) : s.fwLoad = s := if_pos (by simpa using h)

/-- The registers of a firmware image that is accepted. -/
def State.fwAccepted (s : State) : State :=
  (((s.put POL_FW_STATUS.svn (s.fwN 14 2)).put POL_FW_STATUS.error 0).set1 POL_FW_STATUS.running).set1 POL_FW_STATUS.busy

/-- The cores take the image of an accepted load in turn. -/
def State.fwBegun (s : State) : State := { s.fwAccepted with rel := { s.rel with
  fwLoading := true, fwTurn := (List.range 10).filter fun c => s.fwAccepted.get (POL_CORE.state c) == 0 } }

section
variable (hs : s.structured = true) (hl : s.rel.fwLoading = false)
include hs hl

theorem State.fwLoad_of_good (h : s.fwErr = 0) : s.fwLoad = s.fwBegun.fwNext := by
  simp only [State.fwLoad, hs, hl, Bool.not_true, Bool.false_or, Bool.false_eq_true, if_false, h]
  rfl

theorem State.fwLoad_of_bad (h : s.fwErr ≠ 0) : s.fwLoad = (s.put POL_FW_STATUS.error s.fwErr).set1 MGT_INT_AUX.fw_load_failed := by
  simp only [State.fwLoad, hs, hl, Bool.not_true, Bool.false_or, Bool.false_eq_true, if_false]

end

/-- The turn of the next core leaves every register but those of the cores, the busy bit and the interrupt. -/
theorem State.get_fwNext {x : Fld} (hcore : ∀ c, x.key ≠ (POL_CORE.state c).key) (hbusy : x.key ≠ POL_FW_STATUS.busy.key)
    (hint : x.key ≠ MGT_INT_AUX.fw_load_done.key) (s : State) : s.fwNext.get x = s.get x := by
  unfold State.fwNext
  split
  next c r _ =>
    rw [← State.get_put_other (hcore c) s 2]
    exact State.get_eq_of_fld rfl x
  next =>
    rw [← State.get_put_other hbusy s 0, ← State.get_put_other hint (s.put POL_FW_STATUS.busy 0) 1]
    exact State.get_eq_of_fld rfl x

/-- A field of POL_FW_STATUS other than busy reads, as a load begins, as it was accepted. -/
theorem State.get_fwBegun_fwNext {x : Fld} (hx : x.addr = 0xD0008004) (hxlo : x.lo < 32) (hbusy : x.key ≠ POL_FW_STATUS.busy.key) (s : State) :
    s.fwBegun.fwNext.get x = s.fwAccepted.get x := by
  rw [State.get_fwNext (fun c => Fld.key_ne_of_addr_ne hxlo (by simp [POL_CORE.state]) (by simp [hx, POL_CORE.state]; omega)) hbusy
    (Fld.key_ne_of_addr_ne hxlo (by decide) (by rw [hx]; decide))]
  exact State.get_eq_of_fld (by simp only [State.fwBegun]) x

theorem State.get_fwAccepted_error (s : State) : s.fwAccepted.get POL_FW_STATUS.error = 0 := by
  rw [State.fwAccepted, State.set1, State.get_put_other (by decide), State.set1, State.get_put_other (by decide), State.get_put_self]
  rfl

theorem State.get_fwAccepted_svn (s : State) : s.fwAccepted.get POL_FW_STATUS.svn = s.fwN 14 2 % 256 := by
  rw [State.fwAccepted, State.set1, State.get_put_other (by decide), State.set1, State.get_put_other (by decide),
    State.get_put_other (by decide), State.get_put_self]
  rfl

/-- The effect of POL_FW_LOAD in Structured. -/
theorem fwLoad_effect (hs : s.structured = true) (hl : s.rel.fwLoading = false) : ∃ u : State, exec .polFwLoad s = .next u.settle ∧
    (if s.fwErr = 0 then u.get POL_FW_STATUS.error = 0 ∧ u.get POL_FW_STATUS.svn = s.fwN 14 2 % 256
      else u = (s.put POL_FW_STATUS.error s.fwErr).set1 MGT_INT_AUX.fw_load_failed) := by
  refine ⟨s.fwLoad, rfl, ?_⟩
  split
  next h =>
    rw [State.fwLoad_of_good hs hl h, State.get_fwBegun_fwNext rfl (by decide) (by decide),
      State.get_fwBegun_fwNext rfl (by decide) (by decide)]
    exact ⟨State.get_fwAccepted_error s, State.get_fwAccepted_svn s⟩
  next h => exact State.fwLoad_of_bad hs hl h

theorem State.fwErr_of_magic (h : s.fwN 0 4 ≠ 0x4E424657) : s.fwErr = 1 := if_pos h

/-! ## Work queues (R515) -/

/-- The older of two entries of a queue, the one kept so far winning a tie. -/
def olderEntry (b : Option (Nat × WqEntry)) (e : Nat × WqEntry) : Option (Nat × WqEntry) :=
  match b with
  | some x => if e.2.seq < x.2.seq then some e else some x
  | none => some e

/-- The older of two entries is one of them, and neither is older than it. -/
theorem olderEntry_eq (b : Option (Nat × WqEntry)) (e : Nat × WqEntry) : ∃ y, olderEntry b e = some y ∧ (y = e ∨ b = some y) ∧
    y.2.seq ≤ e.2.seq ∧ ∀ x, b = some x → y.2.seq ≤ x.2.seq := by
  cases b with
  | none => exact ⟨e, rfl, .inl rfl, Nat.le_refl _, nofun⟩
  | some x =>
    unfold olderEntry
    dsimp only
    split
    next h => exact ⟨e, rfl, .inl rfl, Nat.le_refl _, fun z hz => by cases hz; omega⟩
    next h => exact ⟨x, rfl, .inr rfl, by omega, fun z hz => by cases hz; exact Nat.le_refl _⟩

/-- A run over entries finds one of them, or the one it began with, and none is older. -/
theorem foldl_olderEntry {l : List (Nat × WqEntry)} {b : Option (Nat × WqEntry)} {y : Nat × WqEntry} (h : l.foldl olderEntry b = some y) :
    (y ∈ l ∨ b = some y) ∧ (∀ x ∈ l, y.2.seq ≤ x.2.seq) ∧ ∀ x, b = some x → y.2.seq ≤ x.2.seq := by
  induction l generalizing b with
  | nil => exact ⟨.inr h, nofun, fun x hx => by cases hx.symm.trans h; exact Nat.le_refl _⟩
  | cons e l ih =>
    obtain ⟨z, hz, hmem, he, hb⟩ := olderEntry_eq b e
    obtain ⟨hy, hl, hyz⟩ := ih (by rwa [List.foldl_cons] at h)
    have hle := hyz z hz
    refine ⟨?_, fun x hx => ?_, fun x hx => hle.trans (hb x hx)⟩
    · rcases hy with hy | hy
      · exact .inl (.tail _ hy)
      · cases hz.symm.trans hy
        exact hmem.imp_left fun h => by rw [h]; exact .head _
    · cases hx with
      | head => exact hle.trans he
      | tail _ hx => exact hl x hx

theorem State.wqOldest_eq (s : State) (c : Nat) : s.wqOldest c =
    (s.rel.wq.filter fun e => e.1 / 4096 == c && decide (e.2.state = .written)).foldl olderEntry none := rfl

/-- The entry that TAKE names is written, of its queue, and the oldest such. -/
theorem State.wqOldest_spec {c k : Nat} {e : WqEntry} (h : s.wqOldest c = some (k, e)) : k / 4096 = c ∧ e.state = .written ∧
    ∀ x ∈ s.rel.wq, x.1 / 4096 = c → x.2.state = .written → e.seq ≤ x.2.seq := by
  rw [State.wqOldest_eq] at h
  obtain ⟨hmem, hold, -⟩ := foldl_olderEntry h
  have hq := (List.mem_filter.mp (hmem.resolve_right nofun)).2
  simp only [Bool.and_eq_true, beq_iff_eq, decide_eq_true_eq] at hq
  exact ⟨hq.1, hq.2, fun x hx hc hw => hold x (List.mem_filter.mpr ⟨hx, by simp [hc, hw]⟩)⟩

theorem State.wqTake_of_none {c : Nat} (h : s.wqOldest c = none) : s.wqTake c = (s, 0) := by
  simp only [State.wqTake, h]

theorem State.wqTake_of_some {c k : Nat} {e : WqEntry} (h : s.wqOldest c = some (k, e)) : s.wqTake c =
    ({ s with rel := { s.rel with wq := mset k { e with state := .taken } s.rel.wq } }, 2 ^ 31 + k % 4096) := by
  simp only [State.wqTake, h]

theorem exec_wqTake_eq (s : State) (r : Requester) (c : Fin 10) : exec (.wqTake r c) s =
    .next ((s.wqTake c.val).1.answer r.val 0 [BitVec.ofNat 64 (s.wqTake c.val).2]).settle := rfl

section
variable {c e : Nat} {st : WqState}

theorem State.wqFree_of_state {x : WqEntry} (h : mget (wqKey c e) s.rel.wq = some x) (hst : x.state = st) :
    s.wqFree c e st = some { s with rel := { s.rel with wq := mdel (wqKey c e) s.rel.wq } } := by
  simp only [State.wqFree, h, hst, if_true]

theorem State.wqFree_of_other (h : ∀ x, mget (wqKey c e) s.rel.wq = some x → x.state ≠ st) : s.wqFree c e st = none := by
  unfold State.wqFree
  split
  next x hx => exact if_neg (h x hx)
  next => rfl

end

/-- DONE frees a taken entry. -/
theorem wqDone_frees {c : Fin 10} {d : BitVec 32} {x : WqEntry} (h : mget (wqKey c.val (d.toNat % 4096)) s.rel.wq = some x)
    (hst : x.state = .taken) : ∃ u : State, exec (.wqDone c d) s = .next u.settle ∧ mget (wqKey c.val (d.toNat % 4096)) u.rel.wq = none := by
  refine ⟨_, next_settle_congr (congrArg (Option.getD · s) (State.wqFree_of_state h hst)), ?_⟩
  exact mget_mdel_self _ _

theorem exec_wqDone_of_other {c : Fin 10} {d : BitVec 32}
    (h : ∀ x, mget (wqKey c.val (d.toNat % 4096)) s.rel.wq = some x → x.state ≠ .taken) : exec (.wqDone c d) s = .next s.settle :=
  next_settle_congr (congrArg (Option.getD · s) (State.wqFree_of_other h))

/-- Ageing frees a written entry, and counts it. -/
theorem wqItemAged_frees {c : Fin 10} {e : BitVec 12} {x : WqEntry} (h : mget (wqKey c.val e.toNat) s.rel.wq = some x)
    (hst : x.state = .written) : ∃ u : State, exec (.wqItemAged c e) s = .next u.settle ∧ mget (wqKey c.val e.toNat) u.rel.wq = none ∧
      u.get POL_WQ_AGED_CNT.count = min (s.get POL_WQ_AGED_CNT.count + 1) (2 ^ 32 - 1) := by
  refine ⟨State.inc { s with rel := { s.rel with wq := mdel (wqKey c.val e.toNat) s.rel.wq } } POL_WQ_AGED_CNT.count, ?_,
    mget_mdel_self _ _, State.get_incBy_self _ _ _⟩
  simp only [exec, execWqItemAged, State.wqFree_of_state h hst, State.done_eq]

theorem exec_wqItemAged_of_other {c : Fin 10} {e : BitVec 12}
    (h : ∀ x, mget (wqKey c.val e.toNat) s.rel.wq = some x → x.state ≠ .written) : exec (.wqItemAged c e) s = .next s.settle := by
  simp only [exec, execWqItemAged, State.wqFree_of_other h, State.done_eq]

/-! ## Send rings (R516) -/

section
variable {w : Nat} {frame : List Byte} {o : Origin} {sl : Nat}

/-- A frame injected joins those in the Prism, which stay as they are. -/
theorem State.mem_injectExc_of_old {f : InFrame} (hf : f ∈ s.pr.frames) (hid : f.id ≠ s.pr.nextId) :
    f ∈ (s.injectExc w frame o sl).pr.frames :=
  List.mem_map.mpr ⟨f, List.mem_append_left _ hf, if_neg hid⟩

theorem State.mem_injectExc_new : ∃ f ∈ (s.injectExc w frame o sl).pr.frames, f.id = s.pr.nextId ∧ f.octets = frame ++ fcsOctets frame :=
  ⟨_, List.mem_map.mpr ⟨_, List.mem_append_right _ (.head _), if_pos rfl⟩, rfl, rfl⟩

theorem State.get_injectExc (x : Fld) : (s.injectExc w frame o sl).get x = s.get x := State.get_eq_of_fld rfl x

end

/-- The send ring of a core and slice moves on. -/
def State.ringMoved (s : State) (c : Fin 10) (sl : Slice) : State :=
  s.put (POL_TX_CONS.index c.val sl.val) ((s.get (POL_TX_CONS.index c.val sl.val) + 1) % max 1 (s.get POL_RING_CFG.tx_size))

theorem exec_sendRingEntry_of_empty {c : Fin 10} {sl : Slice}
    (h : s.get (POL_TX_CONS.index c.val sl.val) = s.get (POL_TX_PROD.index c.val sl.val)) : exec (.sendRingEntry c sl) s = .next s.settle :=
  if_pos h

theorem exec_sendRingEntry_of_waiting {c : Fin 10} {sl : Slice}
    (h : s.get (POL_TX_CONS.index c.val sl.val) ≠ s.get (POL_TX_PROD.index c.val sl.val)) : exec (.sendRingEntry c sl) s =
    (let a := s.txAddr c.val sl.val (s.get (POL_TX_CONS.index c.val sl.val))
      let len := bitsOf (s.tword a) 46 14
      if excWordOk (s.tword a) len ∧ !(s.bytesAt (a + 8) 24).any (· != 0) then
        ((s.ringMoved c sl).injectExc (s.tword a) (s.bytesAt (a + 32) len) (.core c.val sl.val) sl.val).done
      else ((s.ringMoved c sl).inc POL_TX_BAD_CNT.count).done) := if_neg h

theorem State.get_ringMoved {c : Fin 10} {sl : Slice} (h : s.get (POL_TX_CONS.index c.val sl.val) < 8191)
    (hsize : s.get (POL_TX_CONS.index c.val sl.val) + 1 < s.get POL_RING_CFG.tx_size) :
    (s.ringMoved c sl).get (POL_TX_CONS.index c.val sl.val) = s.get (POL_TX_CONS.index c.val sl.val) + 1 := by
  have hwidth : (POL_TX_CONS.index c.val sl.val).width = 13 := rfl
  rw [State.ringMoved, State.get_put_self, Nat.mod_eq_of_lt (by omega : _ < max 1 _), hwidth, Nat.mod_eq_of_lt (by omega)]

/-- A count of the policy cores is no index of a send ring. -/
theorem txBad_key_ne (i j : Nat) : POL_TX_BAD_CNT.count.key ≠ (POL_TX_CONS.index i j).key :=
  Fld.key_ne_of_addr_ne (by decide) (by simp [POL_TX_CONS.index]) (by simp [POL_TX_BAD_CNT.count, POL_TX_CONS.index]; omega)

section
variable {c : Fin 10} {sl : Slice} (hne : s.get (POL_TX_CONS.index c.val sl.val) ≠ s.get (POL_TX_PROD.index c.val sl.val))
  (hlt : s.get (POL_TX_CONS.index c.val sl.val) < 8191)
  (hsize : s.get (POL_TX_CONS.index c.val sl.val) + 1 < s.get POL_RING_CFG.tx_size)
include hne hlt hsize

/-- An entry in range enters the Prism of its slice. -/
theorem sendRingEntry_sends {a : Nat} (ha : a = s.txAddr c.val sl.val (s.get (POL_TX_CONS.index c.val sl.val)))
    (hok : excWordOk (s.tword a) (bitsOf (s.tword a) 46 14) = true) (hresv : (s.bytesAt (a + 8) 24).any (· != 0) = false) :
    ∃ u : State, exec (.sendRingEntry c sl) s = .next u.settle ∧
      u.get (POL_TX_CONS.index c.val sl.val) = s.get (POL_TX_CONS.index c.val sl.val) + 1 ∧
      (∀ f ∈ s.pr.frames, f.id ≠ s.pr.nextId → f ∈ u.pr.frames) ∧ ∃ f ∈ u.pr.frames, f.id = s.pr.nextId ∧
        f.octets = s.bytesAt (a + 32) (bitsOf (s.tword a) 46 14) ++ fcsOctets (s.bytesAt (a + 32) (bitsOf (s.tword a) 46 14)) := by
  subst ha
  refine ⟨_, (exec_sendRingEntry_of_waiting hne).trans (if_pos ⟨hok, by rw [hresv]; rfl⟩), ?_, fun f hf hid => State.mem_injectExc_of_old hf hid,
    State.mem_injectExc_new⟩
  rw [State.get_injectExc, State.get_ringMoved hlt hsize]

/-- An entry out of range is skipped and counted. -/
theorem sendRingEntry_skips {a : Nat} (ha : a = s.txAddr c.val sl.val (s.get (POL_TX_CONS.index c.val sl.val)))
    (hbad : excWordOk (s.tword a) (bitsOf (s.tword a) 46 14) = false ∨ (s.bytesAt (a + 8) 24).any (· != 0) = true) :
    ∃ u : State, exec (.sendRingEntry c sl) s = .next u.settle ∧
      u.get (POL_TX_CONS.index c.val sl.val) = s.get (POL_TX_CONS.index c.val sl.val) + 1 ∧ u.pr = s.pr ∧
      u.get POL_TX_BAD_CNT.count = min (s.get POL_TX_BAD_CNT.count + 1) (2 ^ 32 - 1) := by
  subst ha
  refine ⟨(s.ringMoved c sl).inc POL_TX_BAD_CNT.count, (exec_sendRingEntry_of_waiting hne).trans (if_neg ?_), ?_, rfl, ?_⟩
  · rintro ⟨hok, hresv⟩
    rcases hbad with h | h
    · exact absurd (h.symm.trans hok) (by decide)
    · rw [h] at hresv
      exact absurd hresv (by decide)
  · rw [State.inc, State.incBy_eq, State.get_put_other (Ne.symm (txBad_key_ne _ _)), State.get_ringMoved hlt hsize]
  · rw [State.inc, State.get_incBy_self, State.ringMoved, State.get_put_other (txBad_key_ne _ _)]
    rfl

end

/-- Settles O60: crashes, firmware loads, the entries of work queues and those of send rings. -/
theorem coresQueuesAndRings : Obligations.CoresQueuesAndRings := by
  unfold Obligations.CoresQueuesAndRings
  intro s
  refine ⟨fun c => ⟨fun h => ⟨next_settle_congr (State.crashCore_of_away h 1), next_settle_congr (State.crashCore_of_away h 2)⟩,
      crash_restarts, fun h hmany => ⟨_, _, next_settle_congr (State.crashCore_of_third h hmany 1),
        next_settle_congr (State.crashCore_of_third h hmany 2), State.partServes_crashNoted c.isLt h 1, State.partServes_crashNoted c.isLt h 2⟩,
      exec_polCoreRestarted_of_other, exec_polCoreRestarted_of_restarting⟩,
    fun h => next_settle_congr (State.fwLoad_of_refused h), fwLoad_effect, State.fwErr_of_magic, fun r c => ⟨fun h => ?_, fun k e h => ?_⟩,
    fun c k e => State.wqOldest_spec, fun c d => ⟨fun x => wqDone_frees, exec_wqDone_of_other⟩,
    fun c e => ⟨fun x => wqItemAged_frees, exec_wqItemAged_of_other⟩, fun c sl => ⟨exec_sendRingEntry_of_empty, fun hne hlt hsize =>
      ⟨sendRingEntry_sends hne hlt hsize rfl, sendRingEntry_skips hne hlt hsize rfl⟩⟩⟩
  · rw [exec_wqTake_eq, State.wqTake_of_none h]
    rfl
  · rw [exec_wqTake_eq, State.wqTake_of_some h]
    exact ⟨_, rfl, rfl, mget_mset_self _ _ _⟩

end Sys2Proof.Machine
end

section
/-! PROOFS. The Beacon and the Wake Port (R445, R447 to R449); feeds, rails and the Supply Port (R474, R475, R480, R481). -/

namespace Sys2Proof.Machine

variable {s : State}

/-! ## The Beacon (R445) -/

/-- The Beacon listens: the device is in Standby, on the way to it, or has failed to wake. -/
def State.beaconListens (s : State) : Prop := s.get PWR_STATUS.state = 2 ∨ s.get PWR_STATUS.state = 3 ∨ s.get PWR_STATUS.state = 5

/-- The wake flags in a row, with one more SOF. -/
def State.wakeRun (s : State) (wake : Bool) (n : Nat) : Nat :=
  if wake then (if s.link.beaconLast == some ((n + 2 ^ 32 - 1) % 2 ^ 32) then s.link.beaconWake + 1 else 1) else 0

/-- The SOF blocks in a row at their distance, with one more. -/
def State.goodRun (s : State) (n : Nat) (b : BitVec 8) : Nat :=
  if s.link.beaconLast == some ((n + 2 ^ 32 - 1) % 2 ^ 32) ∧ (b = 18 ∨ b = 19) then min 4 (s.link.beaconGood + 1) else 1

/-- The Beacon receiver after an SOF block. -/
def State.beaconHeard (s : State) (wake : Bool) (n : Nat) (b : BitVec 8) : State := { s with link := { s.link with
  beaconGood := s.goodRun n b, beaconLock := s.goodRun n b == 4, beaconLast := some n
  beaconWake := if s.wakeRun wake n = 2 then 0 else s.wakeRun wake n } }

theorem exec_beaconSof_of_listening (h : s.beaconListens) (w : Bool) (n : BitVec 32) (b : BitVec 8) : exec (.beaconSof w n b) s =
    .next (if s.wakeRun w n.toNat = 2 then (s.beaconHeard w n.toNat b).wakeEvent 3 else s.beaconHeard w n.toNat b).settle := by
  rw [← State.done_ite]
  exact if_neg fun ⟨h2, h3, h5⟩ => h.elim h2 fun h => h.elim h3 h5

theorem State.goodRun_of_follows {n : Nat} {b : BitVec 8} (hlast : s.link.beaconLast = some ((n + 2 ^ 32 - 1) % 2 ^ 32))
    (hb : b = 18 ∨ b = 19) : s.goodRun n b = min 4 (s.link.beaconGood + 1) := if_pos ⟨beq_iff_eq.mpr hlast, hb⟩

theorem State.goodRun_of_break {n : Nat} {b : BitVec 8} (hlast : s.link.beaconLast ≠ some ((n + 2 ^ 32 - 1) % 2 ^ 32)) :
    s.goodRun n b = 1 := if_neg fun ⟨h, _⟩ => hlast (beq_iff_eq.mp h)

/-- The first wake flag in a row counts 1. -/
theorem State.wakeRun_of_first (h : s.link.beaconWake = 0) (n : Nat) : s.wakeRun true n = 1 := by
  rw [State.wakeRun, if_pos rfl, h]
  split <;> rfl

theorem State.wakeRun_of_second {n : Nat} (h : s.link.beaconWake = 1) (hlast : s.link.beaconLast = some ((n + 2 ^ 32 - 1) % 2 ^ 32)) :
    s.wakeRun true n = 2 := by
  rw [State.wakeRun, if_pos rfl, if_pos (beq_iff_eq.mpr hlast), h]

/-- The effect of an SOF block of the Beacon. -/
theorem beaconSof_effect (h : s.beaconListens) (w : Bool) (n : BitVec 32) (b : BitVec 8) :
    ∃ u : State, exec (.beaconSof w n b) s = .next u.settle ∧
      (w = false → u.link.beaconWake = 0 ∧ u.link.beaconLast = some n.toNat ∧ u.fld = s.fld ∧
        (s.link.beaconGood = 3 → s.link.beaconLast = some ((n.toNat + 2 ^ 32 - 1) % 2 ^ 32) → (b = 18 ∨ b = 19) → u.link.beaconLock = true) ∧
        (s.link.beaconLast ≠ some ((n.toNat + 2 ^ 32 - 1) % 2 ^ 32) → u.link.beaconGood = 1 ∧ u.link.beaconLock = false)) ∧
      (w = true → s.link.beaconWake = 0 → u.link.beaconWake = 1 ∧ u.fld = s.fld) := by
  refine ⟨_, exec_beaconSof_of_listening h w n b, fun hw => ?_, fun hw h0 => ?_⟩
  · subst hw
    refine ⟨rfl, rfl, rfl, fun h3 hlast hb => ?_, fun hlast => ⟨State.goodRun_of_break hlast, ?_⟩⟩
    · show (s.goodRun n.toNat b == 4) = true
      rw [State.goodRun_of_follows hlast hb, h3]
      rfl
    · show (s.goodRun n.toNat b == 4) = false
      rw [State.goodRun_of_break hlast]
      rfl
  · subst hw
    simp only [State.wakeRun_of_first h0, State.beaconHeard, Nat.reduceEqDiff, if_false, and_self]

/-- The second wake flag in a row wakes the device. -/
theorem beaconSof_wakes (h : s.beaconListens) (n : BitVec 32) (b : BitVec 8) (h1 : s.link.beaconWake = 1)
    (hlast : s.link.beaconLast = some ((n.toNat + 2 ^ 32 - 1) % 2 ^ 32)) :
    ∃ v : State, v.fld = s.fld ∧ v.pwr = s.pwr ∧ exec (.beaconSof true n b) s = .next (v.wakeEvent 3).settle := by
  refine ⟨s.beaconHeard true n.toNat b, rfl, rfl, ?_⟩
  rw [exec_beaconSof_of_listening h, if_pos (State.wakeRun_of_second h1 hlast)]

/-! ## The Wake Port (R447 to R449) -/

theorem exec_wakeAddressWrite (s : State) : exec .wakeAddressWrite s = .next s.wakeAddress.settle := rfl

section
variable (hrun : s.wpRuns = true)
include hrun

theorem State.wakeAddress_of_enabled (h : s.get WP_CFG.wake_en ≠ 0) : s.wakeAddress = (s.inc WP_WAKE_CNT.count).wakeEvent 0 :=
  if_pos ⟨hrun, State.on_of_ne h⟩

omit hrun in
theorem State.wakeAddress_of_disabled (h : s.get WP_CFG.wake_en = 0) : s.wakeAddress = s :=
  if_neg fun ⟨_, hon⟩ => by simp [State.on_of_eq h] at hon

theorem State.wpStatus_of_runs : s.wpStatus = { s with wpAnswer := s.wpOctets ++ [BitVec.ofNat 8 (crc8
    ([BitVec.ofNat 8 (2 * s.get WP_CFG.mgmt_addr), 0x01, BitVec.ofNat 8 (2 * s.get WP_CFG.mgmt_addr + 1)] ++ s.wpOctets))] } := if_pos hrun

theorem State.wpClear_of_bad_length {l : List Byte} (h : l.length ≠ 2) : s.wpClear l = s.inc WP_CMD_ERR_CNT.count := by
  simp only [State.wpClear, hrun, Bool.not_true, Bool.false_eq_true, if_false]
  split
  next => exact absurd rfl h
  next => rfl

section
variable {d p : Byte}

theorem State.wpClear_of_bad_pec (h : crc8 [BitVec.ofNat 8 (2 * s.get WP_CFG.mgmt_addr), 0x02, d] ≠ p.toNat) :
    s.wpClear [d, p] = s.inc WP_PEC_ERR_CNT.count := by
  simp only [State.wpClear, hrun, Bool.not_true, Bool.false_eq_true, if_false, h]

theorem State.wpClear_of_ok (h : crc8 [BitVec.ofNat 8 (2 * s.get WP_CFG.mgmt_addr), 0x02, d] = p.toNat) :
    s.wpClear [d, p] = (bitList 3 d.toNat).foldl (fun s b => s.clrBit WP_ALERT.sources b) s := by
  simp only [State.wpClear, hrun, Bool.not_true, Bool.false_eq_true, if_false, h, if_true]

end

end

/-- The alert sources with one of them cleared. -/
def clearedSource (v b : Nat) : Nat := if bit1 v b then v - 1 <<< b else v

/-- Clearing a source leaves the two others. -/
theorem bit1_clearedSource : ∀ v < 8, ∀ b < 3, clearedSource v b < 8 ∧ ∀ j < 3, bit1 (clearedSource v b) j = (bit1 v j && j != b) := by
  decide

theorem State.get_clrBit_sources {b : Nat} (h : s.get WP_ALERT.sources < 8) (hb : b < 3) :
    (s.clrBit WP_ALERT.sources b).get WP_ALERT.sources = clearedSource (s.get WP_ALERT.sources) b := by
  rw [State.clrBit, State.get_put_self]
  exact Nat.mod_eq_of_lt (bit1_clearedSource _ h b hb).1

/-- The sources named are cleared, and no other. -/
theorem bit1_foldl_clrBit {l : List Nat} (hl : ∀ b ∈ l, b < 3) (h : s.get WP_ALERT.sources < 8) {j : Nat} (hj : j < 3) :
    bit1 ((l.foldl (fun s b => State.clrBit s WP_ALERT.sources b) s).get WP_ALERT.sources) j =
      (bit1 (s.get WP_ALERT.sources) j && !l.contains j) := by
  induction l generalizing s with
  | nil => simp
  | cons b l ih =>
    have hget := State.get_clrBit_sources h (hl b (.head _))
    obtain ⟨hlt, hbits⟩ := bit1_clearedSource _ h b (hl b (.head _))
    rw [List.foldl_cons, ih (fun c hc => hl c (.tail _ hc)) (by rw [hget]; exact hlt), hget, hbits j hj, List.contains_cons]
    rw [Bool.not_or, Bool.and_assoc]
    rfl

theorem bitList_contains {j : Nat} (hj : j < 3) (v : Nat) : (bitList 3 v).contains j = v.testBit j := by
  rw [← bit1_eq_testBit, Bool.eq_iff_iff]
  simp [bitList, hj]

/-- CLEAR_ALERT clears the sources that it names. -/
theorem wpClearAlert_clears (hrun : s.wpRuns = true) {d p : Byte}
    (hpec : crc8 [BitVec.ofNat 8 (2 * s.get WP_CFG.mgmt_addr), 0x02, d] = p.toNat) (h : s.get WP_ALERT.sources < 8) :
    ∃ u : State, exec (.wpClearAlert [d, p]) s = .next u.settle ∧
      ∀ j < 3, bit1 (u.get WP_ALERT.sources) j = (bit1 (s.get WP_ALERT.sources) j && !d.toNat.testBit j) := by
  refine ⟨_, next_settle_congr (State.wpClear_of_ok hrun hpec), fun j hj => ?_⟩
  rw [bit1_foldl_clrBit (l := bitList 3 d.toNat) (fun b hb => List.mem_range.mp (List.mem_filter.mp hb).1) h hj, bitList_contains hj]

theorem exec_linkDownAlert_of_down (hup : s.linkUp = false) (h : s.get PWR_STATUS.state ≤ 2) :
    exec .linkDownAlert s = .next (s.setBit WP_ALERT.sources 1).settle :=
  if_pos ⟨by simp [hup], by omega, by omega, by omega⟩

/-- Settles O55: the Beacon receiver and the commands of the Wake Port. -/
theorem beaconAndWakePort : Obligations.BeaconAndWakePort := by
  unfold Obligations.BeaconAndWakePort
  intro s
  refine ⟨fun h => ⟨beaconSof_effect h, beaconSof_wakes h⟩, fun hrun => ⟨fun h => ?_, fun h => ?_, ?_, fun d p => ⟨fun h =>
    next_settle_congr (State.wpClear_of_bad_pec hrun h), wpClearAlert_clears hrun⟩, fun l h =>
    next_settle_congr (State.wpClear_of_bad_length hrun h)⟩, exec_linkDownAlert_of_down⟩
  · rw [exec_wakeAddressWrite, State.wakeAddress_of_enabled hrun h]
  · rw [exec_wakeAddressWrite, State.wakeAddress_of_disabled h]
  · exact next_settle_congr (State.wpStatus_of_runs hrun)

end Sys2Proof.Machine
end

section
/-! PROOFS. Feeds, rails and the Supply Port (R474, R475, R480, R481). -/

namespace Sys2Proof.Machine

variable {s : State}

/-! ## The loss of power (R474) -/

theorem mget_filter_of_not {β : Type} {p : Nat → Bool} {k : Nat} (h : p k = false) (m : List (Nat × β)) :
    mget k (m.filter fun e => p e.1) = none := by
  induction m with
  | nil => rfl
  | cons e m ih =>
    obtain ⟨j, v⟩ := e
    rw [List.filter_cons]
    split
    next hp =>
      have hne : j ≠ k := fun he => by simp [he, h] at hp
      rw [mget_cons, if_neg hne, ih]
    next => exact ih

/-- A register that REL_SPARE does not hold is left as a request for a spare is withdrawn. -/
theorem State.get_clearPending {x : Fld} (hpend : ∀ i, x.key ≠ (REL_SPARE.pending i).key)
    (hpart : ∀ i, x.key ≠ (REL_SPARE.pending_part i).key) (s : State) (c : Nat) : (s.clearPending c).get x = s.get x := by
  unfold State.clearPending
  split
  next => rw [State.get_put_other (hpart _), State.get_put_other (hpend _)]
  next e _ =>
    rw [State.get_put_other (hpart _)]
    exact State.get_eq_of_fld rfl x

/-- What a device reset leaves before the requests for spares are withdrawn. -/
def State.resetCore (s : State) (step : PwrStep) : State := {
  pending := s.pending
  inputs := s.inputs
  tap := s.tap
  freeCtr := s.freeCtr
  us := s.us
  fld := s.fld.filter fun e => recordReg (e.1 / 32)
  rel := { retired := s.rel.retired, failed := s.rel.failed }
  mir := { retired := s.mir.retired }
  fwd := { retiredBanks := s.fwd.retiredBanks, spareBank := s.fwd.spareBank }
  pwr := { step := step, resetN := s.pwr.resetN, voutMode := s.pwr.voutMode } }

/-- No request for a spare waits. -/
def State.spareRequestsCleared (s : State) : State := (List.range 8).foldl (fun s c => s.clearPending (c + 1)) s

theorem State.deviceReset_eq (s : State) (step : PwrStep) : s.deviceReset step =
    (((s.resetCore step).spareRequestsCleared.put MGT_PROT_STATUS.hold_in (s.get MGT_PROT_STATUS.hold_in)).put PWR_STATUS.feed_a_ok
      (s.get PWR_STATUS.feed_a_ok)).put PWR_STATUS.feed_b_ok (s.get PWR_STATUS.feed_b_ok) := rfl

/-- A register that no record keeps reads its reset value after a device reset. -/
theorem State.get_resetCore {x : Fld} (h : recordReg (x.key / 32) = false) (s : State) (step : PwrStep) :
    (s.resetCore step).get x = x.rst := by
  simp only [State.get, State.resetCore, mgetD, mget_filter_of_not (p := fun k => recordReg (k / 32)) h, Option.getD_none, Nat.zero_xor]

theorem State.get_deviceReset {x : Fld} (hrec : recordReg (x.key / 32) = false) (hpend : ∀ i, x.key ≠ (REL_SPARE.pending i).key)
    (hpart : ∀ i, x.key ≠ (REL_SPARE.pending_part i).key) (hhold : x.key ≠ MGT_PROT_STATUS.hold_in.key)
    (ha : x.key ≠ PWR_STATUS.feed_a_ok.key) (hb : x.key ≠ PWR_STATUS.feed_b_ok.key) (s : State) (step : PwrStep) :
    (s.deviceReset step).get x = x.rst := by
  rw [State.deviceReset_eq, State.get_put_other hb, State.get_put_other ha, State.get_put_other hhold, State.spareRequestsCleared,
    foldl_keeps (fun u => State.get u x) (fun u c _ => State.get_clearPending hpend hpart u (c + 1)), State.get_resetCore hrec]

/-- A device reset leaves no key and no memory. -/
theorem State.clearPending_keeps (s : State) (c : Nat) : (s.clearPending c).kv = s.kv ∧ (s.clearPending c).mem = s.mem := by
  unfold State.clearPending
  split <;> exact ⟨rfl, rfl⟩

theorem State.deviceReset_empty (s : State) (step : PwrStep) : (s.deviceReset step).kv.slots = [] ∧ (s.deviceReset step).mem = [] := by
  rw [State.deviceReset_eq]
  simp only [State.put_kv, State.put_mem, State.spareRequestsCleared]
  rw [foldl_keeps State.kv (fun u c _ => (State.clearPending_keeps u (c + 1)).1),
    foldl_keeps State.mem (fun u c _ => (State.clearPending_keeps u (c + 1)).2)]
  exact ⟨rfl, rfl⟩

/-- No request for a spare lies in a register below 0xD0000024. -/
theorem relSpare_key_ne {x : Fld} (hx : x.addr < 0xD0000024) (hxlo : x.lo < 32) (i : Nat) :
    x.key ≠ (REL_SPARE.pending i).key ∧ x.key ≠ (REL_SPARE.pending_part i).key :=
  ⟨Fld.key_ne_of_addr_ne hxlo (by simp [REL_SPARE.pending]) (by simp [REL_SPARE.pending]; omega),
    Fld.key_ne_of_addr_ne hxlo (by simp [REL_SPARE.pending_part]) (by simp [REL_SPARE.pending_part]; omega)⟩

theorem State.get_powerLost {x : Fld} (hx : x.addr < 0xD0000024) (hxlo : x.lo < 32) (hrec : recordReg (x.key / 32) = false)
    (hhold : x.key ≠ MGT_PROT_STATUS.hold_in.key) (ha : x.key ≠ PWR_STATUS.feed_a_ok.key) (hb : x.key ≠ PWR_STATUS.feed_b_ok.key)
    (s : State) : s.powerLost.get x = x.rst := by
  rw [← State.get_deviceReset hrec (fun i => (relSpare_key_ne hx hxlo i).1) (fun i => (relSpare_key_ne hx hxlo i).2) hhold ha hb s
    (if s.pwr.resetN then .resetHeld else .none)]
  exact State.get_eq_of_fld (by simp only [State.powerLost]) x

/-- The state of a device that has lost power. -/
theorem State.powerLost_empty (s : State) : s.powerLost.get PWR_STATUS.state = 0 ∧ s.powerLost.us = 0 ∧ s.powerLost.structured = false ∧
    s.powerLost.kv.slots = [] ∧ s.powerLost.mem = [] := by
  have hsil : s.powerLost.get SIL_STATUS.state = 0 :=
    State.get_powerLost (by decide) (by decide) (by decide) (by decide) (by decide) (by decide) s
  refine ⟨State.get_powerLost (by decide) (by decide) (by decide) (by decide) (by decide) (by decide) s, rfl, ?_, ?_⟩
  · rw [State.structured, hsil]
    rfl
  · simp only [State.powerLost]
    exact State.deviceReset_empty s _

/-! ## Feeds (R474) -/

/-- A feed is shown lost and counted. -/
def State.feedGone (s : State) (ok lost : Fld) (hi : Bool) : State :=
  let w := ((s.put ok 0).put lost 1).inc PWR_FEED_LOSS_CNT.count
  if hi then w.put PWR_EVENT.feed_ov 1 else w

/-- A register other than the feed, its event, the count and the over-voltage event reads as before. -/
theorem State.get_feedGone_other {x ok lost : Fld} (hok : x.key ≠ ok.key) (hlost : x.key ≠ lost.key)
    (hcnt : x.key ≠ PWR_FEED_LOSS_CNT.count.key) (hov : x.key ≠ PWR_EVENT.feed_ov.key) (s : State) (hi : Bool) :
    (s.feedGone ok lost hi).get x = s.get x := by
  have hw : (((s.put ok 0).put lost 1).inc PWR_FEED_LOSS_CNT.count).get x = s.get x := by
    rw [State.inc, State.incBy_eq, State.get_put_other hcnt, State.get_put_other hlost, State.get_put_other hok]
  unfold State.feedGone
  split
  · exact (State.get_put_other hov _ _).trans hw
  · exact hw

/-- A feed that is gone does not read as present. -/
theorem State.get_feedGone_self {ok lost : Fld} (hlost : ok.key ≠ lost.key) (hcnt : ok.key ≠ PWR_FEED_LOSS_CNT.count.key)
    (hov : ok.key ≠ PWR_EVENT.feed_ov.key) (s : State) (hi : Bool) : (s.feedGone ok lost hi).get ok = 0 := by
  have hw : (((s.put ok 0).put lost 1).inc PWR_FEED_LOSS_CNT.count).get ok = 0 := by
    rw [State.inc, State.incBy_eq, State.get_put_other hcnt, State.get_put_other hlost, State.get_put_self, Nat.zero_mod]
  unfold State.feedGone
  split
  · exact (State.get_put_other hov _ _).trans hw
  · exact hw

theorem State.get_tlogEvent_feed_b (s : State) (src : Src) (p c : Nat) :
    (s.tlogEvent src p c).get PWR_STATUS.feed_b_ok = s.get PWR_STATUS.feed_b_ok :=
  State.get_tlog_other (by decide) (by decide) (by decide) s _ _ _

theorem State.get_tlogEvent_feed_a (s : State) (src : Src) (p c : Nat) :
    (s.tlogEvent src p c).get PWR_STATUS.feed_a_ok = s.get PWR_STATUS.feed_a_ok :=
  State.get_tlog_other (by decide) (by decide) (by decide) s _ _ _

/-- Feed A lost, with its entry of the Trouble Log. -/
def State.feedALost (s : State) (hi : Bool) : State := (s.feedGone PWR_STATUS.feed_a_ok PWR_EVENT.feed_a_lost hi).tlogEvent .pwr 1 0

/-- Feed B lost, with its entry of the Trouble Log. -/
def State.feedBLost (s : State) (hi : Bool) : State := (s.feedGone PWR_STATUS.feed_b_ok PWR_EVENT.feed_b_lost hi).tlogEvent .pwr 2 0

theorem State.feedALost_feeds (s : State) (hi : Bool) : (s.feedALost hi).get PWR_STATUS.feed_a_ok = 0 ∧
    (s.feedALost hi).get PWR_STATUS.feed_b_ok = s.get PWR_STATUS.feed_b_ok := by
  rw [State.feedALost, State.get_tlogEvent_feed_a, State.get_tlogEvent_feed_b]
  exact ⟨State.get_feedGone_self (by decide) (by decide) (by decide) s hi,
    State.get_feedGone_other (by decide) (by decide) (by decide) (by decide) s hi⟩

theorem State.feedBLost_feed_a (s : State) (hi : Bool) : (s.feedBLost hi).get PWR_STATUS.feed_a_ok = s.get PWR_STATUS.feed_a_ok := by
  rw [State.feedBLost, State.get_tlogEvent_feed_a]
  exact State.get_feedGone_other (by decide) (by decide) (by decide) (by decide) s hi

/-- Feed A is lost: the device runs on while feed B stands. -/
theorem exec_feedLoss_a (h : s.get PWR_STATUS.feed_a_ok ≠ 0) (hi : Bool) : exec (.feedLoss false hi) s =
    (if (s.feedALost hi).on PWR_STATUS.feed_a_ok || (s.feedALost hi).on PWR_STATUS.feed_b_ok then (s.feedALost hi).done
      else (s.feedALost hi).powerLost.done) :=
  if_neg (by simp [State.on_of_ne h])

theorem exec_feedLoss_b (h : s.get PWR_STATUS.feed_b_ok ≠ 0) (hi : Bool) : exec (.feedLoss true hi) s =
    (if (s.feedBLost hi).on PWR_STATUS.feed_a_ok || (s.feedBLost hi).on PWR_STATUS.feed_b_ok then (s.feedBLost hi).done
      else (s.feedBLost hi).powerLost.done) :=
  if_neg (by simp [State.on_of_ne h])

section
variable (ha : s.get PWR_STATUS.feed_a_ok ≠ 0)
include ha

theorem exec_feedLoss_a_of_other (hb : s.get PWR_STATUS.feed_b_ok ≠ 0) (hi : Bool) :
    exec (.feedLoss false hi) s = .next (s.feedALost hi).settle := by
  have hon : (s.feedALost hi).on PWR_STATUS.feed_b_ok = true := State.on_of_ne (by rwa [(State.feedALost_feeds s hi).2])
  rw [exec_feedLoss_a ha, hon, Bool.or_true]
  rfl

theorem exec_feedLoss_b_of_other (hb : s.get PWR_STATUS.feed_b_ok ≠ 0) (hi : Bool) :
    exec (.feedLoss true hi) s = .next (s.feedBLost hi).settle := by
  have hon : (s.feedBLost hi).on PWR_STATUS.feed_a_ok = true := State.on_of_ne (by rwa [State.feedBLost_feed_a])
  rw [exec_feedLoss_b hb, hon, Bool.true_or]
  rfl

/-- With feed B gone as well the device loses power. -/
theorem exec_feedLoss_a_of_last (hb : s.get PWR_STATUS.feed_b_ok = 0) (hi : Bool) :
    exec (.feedLoss false hi) s = .next (s.feedALost hi).powerLost.settle := by
  obtain ⟨h0, hkeep⟩ := State.feedALost_feeds s hi
  rw [exec_feedLoss_a ha, State.on_of_eq h0, State.on_of_eq (hkeep.trans hb), Bool.or_false]
  rfl

end

/-- A feed that returns. -/
def feedOk (b : Bool) : Fld := if b then PWR_STATUS.feed_b_ok else PWR_STATUS.feed_a_ok

theorem exec_feedRestore_eq (s : State) (b : Bool) : exec (.feedRestore b) s =
    .next (if !s.on PWR_STATUS.feed_a_ok && !s.on PWR_STATUS.feed_b_ok then (s.put (feedOk b) 1).bootGo else s.put (feedOk b) 1).settle := rfl

/-- A feed that stands lets the boot order begin. -/
theorem State.bootGo_of_feed {b : Bool} (hres : s.pwr.resetN = false) (h : s.get (feedOk b) = 1) :
    s.bootGo = { s with pwr := { s.pwr with step := .feed, retried := false } } := by
  have hon : s.on (feedOk b) = true := State.on_of_ne (by simp [h])
  cases b
  · exact if_pos (by rw [hres, show s.on PWR_STATUS.feed_a_ok = true from hon]; rfl)
  · exact if_pos (by rw [hres, show s.on PWR_STATUS.feed_b_ok = true from hon, Bool.or_true]; rfl)

/-- The first feed that returns starts the boot order. -/
theorem feedRestore_boots (ha : s.get PWR_STATUS.feed_a_ok = 0) (hb : s.get PWR_STATUS.feed_b_ok = 0) (hres : s.pwr.resetN = false)
    (b : Bool) : ∃ u : State, exec (.feedRestore b) s = .next u.settle ∧ u.pwr.step = .feed ∧
      u.get (if b then PWR_STATUS.feed_b_ok else PWR_STATUS.feed_a_ok) = 1 := by
  have hput : (s.put (feedOk b) 1).get (feedOk b) = 1 := by
    rw [State.get_put_self]
    cases b <;> rfl
  have hboot := State.bootGo_of_feed (s := s.put (feedOk b) 1) hres hput
  refine ⟨(s.put (feedOk b) 1).bootGo, ?_, by rw [hboot], ?_⟩
  · rw [exec_feedRestore_eq, State.on_of_eq ha, State.on_of_eq hb]
    rfl
  · rw [hboot]
    exact (State.get_eq_of_fld rfl _).trans hput

section
variable (h : s.get PWR_STATUS.feed_a_ok ≠ 0 ∨ s.get PWR_STATUS.feed_b_ok ≠ 0)
include h

theorem State.feeds_on : (s.on PWR_STATUS.feed_a_ok || s.on PWR_STATUS.feed_b_ok) = true :=
  Bool.or_eq_true_iff.mpr (h.imp State.on_of_ne State.on_of_ne)

theorem exec_feedRestore_of_other : exec (.feedRestore true) s = .next (s.put PWR_STATUS.feed_b_ok 1).settle := by
  rw [exec_feedRestore_eq, ← Bool.not_or, State.feeds_on h]
  rfl

theorem exec_feedSample_of_feed (a b : BitVec 16) :
    exec (.feedSample a b) s = .next ((s.put PWR_FEED.vin_a_mv a.toNat).put PWR_FEED.vin_b_mv b.toNat).settle :=
  if_pos (State.feeds_on h)

end

/-! ## Rails (R475) -/

theorem exec_railFault_vio (s : State) : exec (.railFault .vio) s = .next (s.put PWR_EVENT.rail_fault 1).settle := rfl

theorem exec_railFault_vcoreAon (s : State) :
    exec (.railFault .vcoreAon) s = .next ((s.deviceReset .none).bootGo.put PWR_EVENT.rail_fault 1).settle := rfl

/-- In Run a rail other than VIO and VCORE_AON resets the islands that it feeds. -/
theorem exec_railFault_of_run (h : s.get PWR_STATUS.state = 1) {r : Rail} (hr : r ≠ .vio ∧ r ≠ .vcoreAon) : exec (.railFault r) s =
    .next ((railIslands r).foldl (fun u n => State.resetIsland u n 4) (s.put PWR_EVENT.rail_fault 1)).settle := by
  have hup : s.railsUp = true := by simp [State.railsUp, h]
  cases r
  case vio => exact absurd rfl hr.1
  case vcoreAon => exact absurd rfl hr.2
  all_goals exact if_pos hup

/-! ## The Supply Port (R480, R481) -/

theorem State.get_supplyRead_vout {n : Nat} (h : n < 2 ^ 14) (s : State) : (s.supplyRead n).get PWR_SUP_STATUS.vout_mv = n :=
  (State.get_eq_of_fld rfl _).trans ((State.get_put_self s PWR_SUP_STATUS.vout_mv n).trans (Nat.mod_eq_of_lt h))

theorem State.get_supplyWrite_setpoint (s : State) (n : Nat) :
    (s.supplyWrite n).get PWR_SUP_STATUS.setpoint = n % 2 ^ PWR_SUP_STATUS.setpoint.width :=
  (State.get_eq_of_fld rfl _).trans (State.get_put_self s PWR_SUP_STATUS.setpoint n)

section
variable (hneg : s.pwr.neg ≠ .none)
include hneg

theorem exec_supplyVoutPoll_of_neg (v : BitVec 14) : exec (.supplyVoutPoll v) s =
    (if ((v.toNat : Int) - ((10 * s.pwr.negSet : Nat) : Int)).natAbs * 100 ≤ 3 * (10 * s.pwr.negSet) then
      ((s.supplyRead v.toNat).negEnd true).done else (s.supplyRead v.toNat).done) := if_neg hneg

/-- A value within 3 % of the set point acknowledges it. -/
theorem exec_supplyVoutPoll_of_near {v : BitVec 14} (hlo : 97 * s.pwr.negSet ≤ 10 * v.toNat) (hhi : 10 * v.toNat ≤ 103 * s.pwr.negSet) :
    exec (.supplyVoutPoll v) s = .next ((s.supplyRead v.toNat).negEnd true).settle := by
  rw [exec_supplyVoutPoll_of_neg hneg, if_pos (by omega)]
  rfl

theorem exec_supplyVoutPoll_of_far {v : BitVec 14} (h : 10 * v.toNat < 97 * s.pwr.negSet ∨ 103 * s.pwr.negSet < 10 * v.toNat) :
    exec (.supplyVoutPoll v) s = .next (s.supplyRead v.toNat).settle := by
  rw [exec_supplyVoutPoll_of_neg hneg, if_neg (by omega)]
  rfl

theorem State.negTimeout_of_first (h : s.pwr.negRetried = false) : s.negTimeout =
    { s.supplyWrite s.pwr.negSet with pwr := { (s.supplyWrite s.pwr.negSet).pwr with negRetried := true } } :=
  (if_neg hneg).trans (if_neg (by simp [h]))

theorem State.negTimeout_of_second (h : s.pwr.negRetried = true) : s.negTimeout = s.negEnd false := (if_neg hneg).trans (if_pos h)

end

theorem exec_supplyNegTimeout (s : State) : exec .supplyNegTimeout s = .next s.negTimeout.settle := rfl

theorem exec_loadLower_of_low (hen : s.get PWR_SUP_CFG.en ≠ 0) (hneg : s.pwr.neg = .none)
    (hest : s.est ≤ 10 * (s.get PWR_SUP_CFG.thr_w - 10)) : exec .loadLower s = .next (State.settle
      { s.supplyWrite (s.get PWR_SUP_CFG.v_low) with
        pwr := { (s.supplyWrite (s.get PWR_SUP_CFG.v_low)).pwr with inForce := s.get PWR_SUP_CFG.v_low } }) :=
  if_pos ⟨State.on_of_ne hen, hneg, hest⟩

/-- Settles O57: the loss and return of a feed, the rails, and the negotiation of a set point. -/
theorem feedsRailsAndTheSupplyPort : Obligations.FeedsRailsAndTheSupplyPort := by
  unfold Obligations.FeedsRailsAndTheSupplyPort
  intro s
  refine ⟨fun hi ha hb => ⟨exec_feedLoss_a_of_other ha hb hi, exec_feedLoss_b_of_other ha hb hi⟩,
    fun hi ha hb => ⟨_, exec_feedLoss_a_of_last ha hb hi⟩, State.powerLost_empty, feedRestore_boots,
    fun h => ⟨exec_feedRestore_of_other h, exec_feedSample_of_feed h⟩, exec_railFault_vio s, exec_railFault_vcoreAon s,
    fun h => ⟨exec_railFault_of_run h ⟨nofun, nofun⟩, exec_railFault_of_run h ⟨nofun, nofun⟩, exec_railFault_of_run h ⟨nofun, nofun⟩,
      exec_railFault_of_run h ⟨nofun, nofun⟩⟩,
    fun hneg v => ⟨State.get_supplyRead_vout v.isLt s, rfl, exec_supplyVoutPoll_of_near hneg, exec_supplyVoutPoll_of_far hneg⟩,
    fun hneg h => ?_, fun u n => ⟨State.get_supplyWrite_setpoint u n, rfl⟩, fun hneg h => ?_, exec_loadLower_of_low⟩
  · rw [exec_supplyNegTimeout]
    exact next_settle_congr (State.negTimeout_of_first hneg h)
  · rw [exec_supplyNegTimeout]
    exact next_settle_congr (State.negTimeout_of_second hneg h)

end Sys2Proof.Machine
end
